-- ==== Sys2Proof/Word.lean ====
section
/-! DEFINITION. The plain bit-vector types of the KC216: what the manual treats as bits. -/

namespace Sys2Proof

/-- One byte of a frame, a load or a settings record (R200). -/
abbrev Byte := BitVec 8

/-- A unit ID, 48 bits (chapter 3.1). -/
abbrev UnitId := BitVec 48

/-- A pixel: a 4-bit palette index (R149). -/
abbrev Pixel := BitVec 4

/-- A palette colour: 4 bits each of red, green and blue (R174). -/
abbrev Colour := BitVec 12

/-- The number of a notice queue entry, from the 32-bit entry count (chapter 6). -/
abbrev EntryNumber := BitVec 32

end Sys2Proof
end

