-- ==== Sys2Proof/Syntax.lean ====
section
/-! DEFINITION. The commands of the KC216: one constructor of `Instr` for each row of
spec/opcode_table.json, with the operands its event carries. -/

namespace Sys2Proof

/-- The two link ports (chapter 1). -/
inductive PortId | A | B
deriving DecidableEq, Repr, Inhabited

/-- The two lanes of a port (chapter 1). -/
inductive LaneId | zero | one
deriving DecidableEq, Repr, Inhabited

/-- The two ends of the train (section 1.1 of the front matter). -/
inductive TrainEnd | end1 | end2
deriving DecidableEq, Repr, Inhabited

/-- The part flag of a frame (section 2.1.2). -/
inductive PartFlag | single | start | middle | finish
deriving DecidableEq, Repr, Inhabited

/-- The two batch slots (chapter 4). -/
inductive SlotId | zero | one
deriving DecidableEq, Repr, Inhabited

/-- The four panels PNL0 to PNL3 (chapter 10). -/
inductive PanelId | p0 | p1 | p2 | p3
deriving DecidableEq, Repr, Inhabited

/-- The two door release inputs (section 5.6). -/
inductive DoorId | left | right
deriving DecidableEq, Repr, Inhabited

/-- A write item of a MGMT_WRITE frame: table, index and value bytes (R204). -/
structure WriteItem where
  table : Byte
  index : Byte
  value : List Byte
deriving DecidableEq, Repr, Inhabited

/-- A read item of a MGMT_READ frame: table, first index and count (R204). -/
structure ReadItem where
  table : Byte
  first : Byte
  count : Byte
deriving DecidableEq, Repr, Inhabited

/-- What a MGMT_WRITE_ITEM command is about: the oldest frame of the Management Unit's intake, whose
items are applied in one event (R188), or one write item by itself (log 6). -/
inductive WriteJob
  | frame
  | item (i : WriteItem)
deriving DecidableEq, Repr, Inhabited

/-- What a MGMT_READ_ITEM command is about: the oldest frame of the intake, or one read item (log 6). -/
inductive ReadJob
  | frame
  | item (i : ReadItem)
deriving DecidableEq, Repr, Inhabited

/-- The panel fields that PANEL_GEOMETRY_WRITE writes (R173). -/
inductive GeometryField | width | height
deriving DecidableEq, Repr, Inhabited

/-- The panel fields that PANEL_TIMING_WRITE writes (R173). -/
inductive TimingField | rowPeriod | blankRows
deriving DecidableEq, Repr, Inhabited

/-- One constructor per row of spec/opcode_table.json, in the table's order. -/
inductive Instr
  /-- PIN_RESET (R2) -/
  | pinReset
  /-- SETTINGS_LOAD_END (R194): `answer` is what the read transaction read. -/
  | settingsLoadEnd (answer : List Byte)
  /-- SEEK_TIMER_EXPIRY (R5) -/
  | seekTimerExpiry (p : PortId)
  /-- SYNC_TIMER_EXPIRY (R6) -/
  | syncTimerExpiry (p : PortId)
  /-- RECEIVE_TRAIN (R17): the bytes between delimiters; `later` says that a frame whose reception began
  earlier, or at the same moment on lane 0, is still arriving on the other lane (R15, log 5). -/
  | receiveTrain (p : PortId) (l : LaneId) (later : Bool) (bytes : List Byte)
  /-- RECEIVE_BEACON (R17) -/
  | receiveBeacon (p : PortId) (l : LaneId) (later : Bool) (bytes : List Byte)
  /-- RECEIVE_PAUSE (R22) -/
  | receivePause (p : PortId) (l : LaneId) (later : Bool) (bytes : List Byte)
  /-- RECEIVE_FRAME (R18) -/
  | receiveFrame (p : PortId) (l : LaneId) (later : Bool) (bytes : List Byte)
  /-- WINDOW_EXPIRY (R9) -/
  | windowExpiry (p : PortId)
  /-- TRAIN_SILENCE_EXPIRY (R7) -/
  | trainSilenceExpiry (p : PortId) (l : LaneId)
  /-- TRANSMIT_IDLE_EXPIRY (R11) -/
  | transmitIdleExpiry (p : PortId) (l : LaneId)
  /-- RECEIVE_SILENCE_EXPIRY (R12) -/
  | receiveSilenceExpiry (p : PortId) (l : LaneId)
  /-- PAUSE_RESEND_EXPIRY (R21) -/
  | pauseResendExpiry (p : PortId)
  /-- GATE_TIMER_EXPIRY (R22) -/
  | gateTimerExpiry (p : PortId)
  /-- TRANSMIT_DONE (R23) -/
  | transmitDone (p : PortId) (l : LaneId)
  /-- CLASSIFY_FRAME (R30): of the frame at the head of port `p`'s RXQ. -/
  | classifyFrame (p : PortId)
  /-- TAKE_ROLL (R46) -/
  | takeRoll
  /-- TAKE_ROLL_RETURN (R52) -/
  | takeRollReturn
  /-- ROLL_RETURN_RETRY (R51) -/
  | rollReturnRetry
  /-- ROLL_TIMEOUT (R55) -/
  | rollTimeout
  /-- TAKE_LABELS (R57) -/
  | takeLabels
  /-- BATCH_SINGLE (R64) -/
  | batchSingle
  /-- BATCH_START (R65) -/
  | batchStart
  /-- BATCH_MIDDLE (R66) -/
  | batchMiddle
  /-- BATCH_END (R70) -/
  | batchEnd
  /-- BATCH_TIMEOUT (R69): of one slot's part-gap timer. -/
  | batchTimeout (slot : SlotId)
  /-- TAKE_POSITION (R81) -/
  | takePosition
  /-- TICK (R82) -/
  | tick
  /-- STALENESS_EXPIRY (R84) -/
  | stalenessExpiry
  /-- DOOR_LEVEL_CHANGE (R94): the pin's new level, `true` high. -/
  | doorLevelChange (d : DoorId) (level : Bool)
  /-- DEBOUNCE_EXPIRY (R94) -/
  | debounceExpiry (d : DoorId)
  /-- NOTICE_JOURNEY_RESET (R103) -/
  | noticeJourneyReset
  /-- NOTICE_HANDOFF (R105) -/
  | noticeHandoff
  /-- TAKE_NOTICE (R110) -/
  | takeNotice
  /-- DWELL_EXPIRY (R115) -/
  | dwellExpiry
  /-- NOTICE_FLIP_REPORT (R114) -/
  | noticeFlipReport
  /-- NOTICE_ENABLE_CHANGE (R114) -/
  | noticeEnableChange
  /-- FLUSH (R131) -/
  | flush
  /-- PURGE (R132) -/
  | purge
  /-- LAMP_ROW_PERIOD_END (R140) -/
  | lampRowPeriodEnd
  /-- SENSE_SAMPLE (R143): the levels read on the red and green column lines, bit k line k, 1 high. -/
  | senseSample (red green : BitVec 12)
  /-- DRAW_RECORD_END (R167) -/
  | drawRecordEnd
  /-- DRAW_RECORD_SUSPEND (R165): `units` is how many more units of work the record completes, the one it
  is in included, before it is set aside. -/
  | drawRecordSuspend (units : Nat)
  /-- COMPOSE_TURN (R181) -/
  | composeTurn
  /-- COMPOSER_PLACE_RECORD (R163) -/
  | composerPlaceRecord
  /-- PANEL_ROW_END (R172) -/
  | panelRowEnd (panel : PanelId)
  /-- FRAME_BOUNDARY (R176) -/
  | frameBoundary (panel : PanelId)
  /-- MGMT_READ_ITEM (R190) -/
  | mgmtReadItem (job : ReadJob)
  /-- MGMT_WRITE_ITEM (R189) -/
  | mgmtWriteItem (job : WriteJob)
  /-- PORT_SETTINGS_WRITE (R1): SETTINGS index 0..3. -/
  | portSettingsWrite (index : Byte) (value : List Byte)
  /-- SCANNER_ENABLE_WRITE (R138): SETTINGS index 11. -/
  | scannerEnableWrite (value : List Byte)
  /-- CLASSIFY_WRITE (R33) -/
  | classifyWrite (index : Byte) (value : List Byte)
  /-- GROUPS_WRITE (R41) -/
  | groupsWrite (index : Byte) (value : List Byte)
  /-- SEATMAP_WRITE (R118) -/
  | seatmapWrite (index : Byte) (value : List Byte)
  /-- PANEL_ROLE_WRITE (R186) -/
  | panelRoleWrite (panel : PanelId) (value : List Byte)
  /-- PANEL_ENABLE_WRITE (R177) -/
  | panelEnableWrite (panel : PanelId) (value : List Byte)
  /-- PANEL_GEOMETRY_WRITE (R173) -/
  | panelGeometryWrite (panel : PanelId) (field : GeometryField) (value : List Byte)
  /-- PANEL_TIMING_WRITE (R173) -/
  | panelTimingWrite (panel : PanelId) (field : TimingField) (value : List Byte)
  /-- PANEL_FIELD_WRITE (R183): one of the fields 6..14 of R171, by its number. -/
  | panelFieldWrite (panel : PanelId) (field : Byte) (value : List Byte)
  /-- PALETTES_WRITE (R174) -/
  | palettesWrite (index : Byte) (value : List Byte)
  /-- LINES_WRITE (R136) -/
  | linesWrite (index : Byte) (value : List Byte)
  /-- DOORS_WRITE (R94) -/
  | doorsWrite (index : Byte) (value : List Byte)
  /-- REPORTS_WRITE (R196) -/
  | reportsWrite (index : Byte) (value : List Byte)
  /-- SIDEGLYPHS_WRITE (R180) -/
  | sideglyphsWrite (index : Byte) (value : List Byte)
  /-- SERVICE_LOCK (R192) -/
  | serviceLock
  /-- SOFT_RESET (R195) -/
  | softReset
  /-- DRAIN_TIMEOUT (R195) -/
  | drainTimeout
  /-- SOFT_RESET_EFFECTS (R195) -/
  | softResetEffects
  /-- SAVE_SETTINGS (R193) -/
  | saveSettings
  /-- SETTINGS_TRANSACTION_DONE (R193): `data` is what a status or read transaction read. -/
  | settingsTransactionDone (data : List Byte)
  /-- SAVE_STATUS_POLL (R193) -/
  | saveStatusPoll
  /-- SAVE_TIMEOUT (R193) -/
  | saveTimeout
  /-- CLEAR_REPORTS (R197): the argument bytes, the mask. -/
  | clearReports (value : List Byte)
  /-- CLEAR_LAMP_FAULTS (R145) -/
  | clearLampFaults
  /-- ABORT_DRAW (R168) -/
  | abortDraw
  /-- REPLY_RETRY (R191) -/
  | replyRetry
  /-- REPORT_BUILD (R198) -/
  | reportBuild
deriving DecidableEq, Repr

end Sys2Proof
end

