-- ==== Sys2Proof/Decode.lean ====
section
/-! DEFINITION. The words of the opcode table. No row of spec/opcode_table.json gives bits (every row's
"fields" is empty and none has "fixed"), because the KC216 takes events and not instruction words: no word
spells a command. Frames and records, which do have layouts, are read in Machine/Layout.lean. -/

namespace Sys2Proof

/-- The command a word of the table spells: none, since no row gives bits. -/
def decodeTableWord (_nbits _w : Nat) : Option Instr := none

end Sys2Proof
end

