-- ==== Sys2Proof/Config.lean ====
section
/-! DEFINITION. What the manual leaves open, as constants with no body: nothing can be proved of their
values, so a claim that holds, holds whatever the part does there. -/

namespace Sys2Proof

/-- The header fields of a frame the part originates that no rule fixes for its class (log 11). -/
structure HeaderFill where
  part : PartFlag
  origin : TrainEnd
  kind : BitVec 3
  dest : BitVec 48
  batchId : Byte
  seq : Byte
deriving DecidableEq, Repr, Inhabited

/-- FREE VALUE (log 11). The unstated header fields of an originated frame, by its class code. -/
opaque Config.headerFill : BitVec 6 → HeaderFill

/-- The STATUS items whose state codes no table of the manual gives (log 9). -/
inductive UncodedItem
  | gate | positionStatus | forwardPort | scanner | engine | flip | composer | store | softReset
deriving DecidableEq, Repr, Inhabited

/-- FREE VALUE (log 9). The code STATUS shows for the state that the manual lists at place `k` of the item. -/
opaque Config.statusCode : UncodedItem → Nat → Byte

/-- FREE VALUE (log 10). The 4-bit source colour that a colour byte above 15 of a draw record gives. -/
opaque Config.wideColour : Byte → Pixel

/-- FREE VALUE (log 7). How many units of work a running draw record has completed since it was last
looked at, at the k-th moment at which another event meets it. -/
opaque Config.unitsDone : Nat → Nat

/-- FREE VALUE (log 7). How many pixels of the unit of work under way are done at that moment. -/
opaque Config.pixelsDone : Nat → Nat

/-- FREE VALUE (log 8). How many pixels of the row being output are shifted at the k-th moment at which a
write changes what the pixels show. -/
opaque Config.pixelsShifted : Nat → Nat

/-- FREE VALUE (log 27). Which of the values that R201 reads as SYNC the part sends. -/
opaque Config.syncFill : Nat

end Sys2Proof
end

