-- ==== Sys2Proof/Machine/State.lean ====
section
/-! DEFINITION. The state of the KC216 as plain data, block by block, and its value right after a pin reset. -/

namespace Sys2Proof.Machine

open Sys2Proof

/-! ## Frames -/

/-- A frame on the link (section 12.2), less version, CRC and the zero bits, which are the same in every
frame that can stand here. -/
structure Frame where
  part : PartFlag
  origin : TrainEnd
  cls : BitVec 6
  kind : BitVec 3
  hop : BitVec 5
  dest : BitVec 48
  batchId : Byte
  seq : Byte
  reserved : BitVec 24
  payload : List Byte
deriving DecidableEq, Repr, Inhabited

/-- A consume copy: the frame and its arrival port; origin end and hop count stand in the frame (R29). -/
structure Copy where
  frame : Frame
  port : PortId
deriving DecidableEq, Repr, Inhabited

/-! ## Link ports (chapter 1) -/

inductive Presence | present | absent
deriving DecidableEq, Repr, Inhabited

inductive LaneLimit | dual | single
deriving DecidableEq, Repr, Inhabited

/-- Presence and lane limit (section 1.1); a port keeps a held and a working copy. -/
structure PortSettings where
  presence : Presence := .present
  limit : LaneLimit := .dual
deriving DecidableEq, Repr, Inhabited

inductive PortState | off | down | training | upDual | upSingle
deriving DecidableEq, Repr, Inhabited

inductive LaneState
  | off
  | seeking
  | counting (count : Nat)
  | good
  | active
  | lost
deriving DecidableEq, Repr, Inhabited

/-- The phase of a TRAIN frame (section 1.2.3). -/
inductive TrainPhase | seek | sync
deriving DecidableEq, Repr, Inhabited

/-- One lane of a port. -/
structure Lane where
  state : LaneState := .off
  /-- The frame in transmission. -/
  tx : Option Frame := none
  /-- The 10 ms transmit-idle timer runs (R11). -/
  idleTimer : Bool := false
  /-- The transmit-idle timer has run out and its BEACON is not yet started (R11, R23, log 15). -/
  beaconDue : Bool := false
  /-- The 30 ms receive-silence timer runs (R12). -/
  rxSilence : Bool := false
  /-- The 30 ms without a valid TRAIN are being timed (R7). -/
  trainSilence : Bool := false
  /-- A SYNC answer waits (R10). -/
  syncAnswer : Bool := false
  /-- A TRAIN that fell due while the lane was sending (R6, log 16). -/
  trainDue : Option TrainPhase := none
  /-- Frames completed and waiting on start order (R15). -/
  held : List Frame := []
deriving DecidableEq, Repr, Inhabited

inductive Gate | opened | closed
deriving DecidableEq, Repr, Inhabited

/-- One link port. -/
structure Port where
  state : PortState := .off
  heldSettings : PortSettings := {}
  working : PortSettings := {}
  lane0 : Lane := {}
  lane1 : Lane := {}
  windowCount : Nat := 0
  windowTimer : Bool := false
  seekTimer : Bool := false
  syncTimer : Bool := false
  gate : Gate := .opened
  /-- The gate timer, with the quanta it was started with (R22). -/
  gateTimer : Option Nat := none
  pauseAsserted : Bool := false
  /-- The resend timer, with its period in quanta (R21). -/
  resendTimer : Option Nat := none
  /-- The waiting PAUSE, with its q (R21). -/
  waitingPause : Option Byte := none
  fairness : Nat := 0
  rxq : List Frame := []
  ftx : List Frame := []
  ltx : List Frame := []
deriving DecidableEq, Repr, Inhabited

/-- Both ports and the pause quanta they share (section 1.1). -/
structure Link where
  portA : Port := {}
  portB : Port := {}
  pauseQuanta : Nat := 40
deriving DecidableEq, Repr, Inhabited

/-! ## Frame Classifier (chapter 2) -/

/-- An entry of the classification table (section 2.4). -/
structure ClassEntry where
  consumeOnMatch : Bool := true
  forwardOnMatch : Bool := true
  forwardOnNomatch : Bool := true
deriving DecidableEq, Repr, Inhabited

/-- The classification table, the group map and the unit intakes (R33, R38, R41). -/
structure Classifier where
  entries : List ClassEntry := List.replicate 7 ({} : ClassEntry) ++ [{ consumeOnMatch := false }]
  groups : BitVec 64 := 0
  consist : List Copy := []
  position : Option Copy := none
  batch : List Copy := []
  notice : List Copy := []
  mgmt : List Copy := []
deriving DecidableEq, Repr, Inhabited

/-! ## Consist Manager (chapter 3) -/

inductive ConsistState | uninaugurated | rolling | valid | stale
deriving DecidableEq, Repr, Inhabited

inductive Orientation | aTowardEnd1 | bTowardEnd1
deriving DecidableEq, Repr, Inhabited

structure ConsistEntry where
  unitId : UnitId
  label : Nat
  orientation : Orientation
deriving DecidableEq, Repr, Inhabited

/-- The roll in progress; its 1 s roll timer runs exactly while it is present (R48, R54, R55). -/
structure RollRecord where
  arrival : PortId
  origin : TrainEnd
  ordinal : Nat
deriving DecidableEq, Repr, Inhabited

structure Consist where
  state : ConsistState := .uninaugurated
  table : List ConsistEntry := []
  ordinal : Nat := 0
  label : Nat := 0
  rollId : BitVec 16 := 0
  /-- The port facing END1; `none` is UNKNOWN. -/
  facing : Option PortId := none
  record : Option RollRecord := none
  /-- The waiting return and the port whose LTX it waits for (R51). -/
  waiting : Option Copy := none
  /-- The unit ID this part uses (R27, R194). -/
  unitId : UnitId := 0
deriving DecidableEq, Repr, Inhabited

/-! ## Batch Assembler (chapter 4) -/

/-- The four load classes. -/
inductive LoadClass | journey | triggers | reservations | glyphs
deriving DecidableEq, Repr, Inhabited

/-- An ASSEMBLING slot; its 2 s part-gap timer runs exactly while it is one (R62, R65, R69). -/
structure Batch where
  cls : LoadClass
  origin : TrainEnd
  batchId : Byte
  /-- The batch sequence the next part must carry, or none. -/
  expected : Option Nat
  parts : Nat
  /-- The staged content; the staged length is its length. -/
  content : List Byte
deriving DecidableEq, Repr, Inhabited

/-- The two batch slots; `none` is FREE. -/
structure Slots where
  slot0 : Option Batch := none
  slot1 : Option Batch := none
deriving DecidableEq, Repr, Inhabited

/-! ## Journey Tracker (chapter 5) -/

inductive StopKind | stop | pass
deriving DecidableEq, Repr, Inhabited

/-- A side, of a platform or of the coach (sections 5.1 and 5.7). -/
inductive Side | left | right | both | none
deriving DecidableEq, Repr, Inhabited

structure Stop where
  distance : Nat
  kind : StopKind
  side : Side
  x : Nat
  y : Nat
  name : List Byte
deriving DecidableEq, Repr, Inhabited

structure Journey where
  id : Nat
  lead : TrainEnd
  stops : List Stop
deriving DecidableEq, Repr, Inhabited

inductive TrackerState | idle | atStop | cruise | approach
deriving DecidableEq, Repr, Inhabited

inductive Motion | stationary | moving
deriving DecidableEq, Repr, Inhabited

inductive PositionStatus | none | fresh | stale
deriving DecidableEq, Repr, Inhabited

inductive DoorMode | off | rising | falling | both
deriving DecidableEq, Repr, Inhabited

/-- A door release input (R94). -/
structure Door where
  mode : DoorMode := .off
  /-- The level of the pin. -/
  pin : Bool := false
  debounced : Bool := false
  /-- The 20 ms debounce timer runs. -/
  timer : Bool := false
deriving DecidableEq, Repr, Inhabited

structure Tracker where
  journey : Option Journey := none
  state : TrackerState := .idle
  c : Nat := 0
  /-- The estimate E in millimetres. -/
  e : Nat := 0
  v : Nat := 0
  motion : Motion := .stationary
  status : PositionStatus := .none
  tickTimer : Bool := false
  /-- The staleness timer, with the stale limit it was started with (R84). -/
  staleness : Option Nat := none
  /-- The marker point last handed to the Page Composer (R99). -/
  marker : Option (Nat × Nat) := none
  staleLimit : Nat := 100
  approachA : Nat := 2000
  windowW : Nat := 400
  marginM : Nat := 50
  doorL : Door := {}
  doorR : Door := {}
deriving DecidableEq, Repr, Inhabited

/-! ## Notice Unit (chapter 6) -/

inductive TriggerEvent | distance | arrival | departure
deriving DecidableEq, Repr, Inhabited

inductive NoticeKind | nextStop | arriving | connection | custom
deriving DecidableEq, Repr, Inhabited

inductive Priority | normal | urgent
deriving DecidableEq, Repr, Inhabited

/-- A trigger record (section 6.2). -/
structure Trigger where
  stop : Nat
  event : TriggerEvent
  offset : Nat
  kind : NoticeKind
  priority : Priority
  dwell : Nat
  text : List Byte
deriving DecidableEq, Repr, Inhabited

inductive TriggerState | armed | fired | void
deriving DecidableEq, Repr, Inhabited

structure TriggerEntry where
  trigger : Trigger
  state : TriggerState
deriving DecidableEq, Repr, Inhabited

inductive NoticeSource | trigger | immediate
deriving DecidableEq, Repr, Inhabited

/-- A notice of the queue; the head is SHOWING and every other is WAITING (section 6.5). -/
structure Notice where
  number : EntryNumber
  kind : NoticeKind
  target : Option Nat
  text : List Byte
  dwell : Nat
  priority : Priority
  source : NoticeSource
deriving DecidableEq, Repr, Inhabited

/-- What a handling or a door arrival hands to the Notice Unit (R92, R105). -/
structure Handoff where
  em : Nat
  c : Nat
  n : Nat
  reached : List Nat
  departed : Option Nat
  arrived : Option Nat
  state : TrackerState
deriving DecidableEq, Repr, Inhabited

/-- What the Journey Tracker has told the Notice Unit and it has not yet taken, in order (log 4). -/
inductive TrackerMsg
  | handoff (h : Handoff)
  | journeyReset
deriving DecidableEq, Repr, Inhabited

/-- What the Panel Unit has told the Notice Unit and it has not yet taken, in order (R114, log 4). -/
inductive PanelMsg
  /-- A NOTICE panel's flip completed: the tag shown, and whether the panel was enabled then. -/
  | flipped (tag : Option EntryNumber) (enabled : Bool)
  /-- A panel became or ceased to be an enabled NOTICE panel; whether none was enabled then (log 25). -/
  | enableChange (noneEnabled : Bool)
deriving DecidableEq, Repr, Inhabited

structure NoticeUnit where
  table : List TriggerEntry := []
  queue : List Notice := []
  count : EntryNumber := 0
  /-- The dwell timer of the head, with its dwell in seconds. -/
  dwell : Option Nat := none
  fromTracker : List TrackerMsg := []
  fromPanels : List PanelMsg := []
deriving DecidableEq, Repr, Inhabited

/-! ## Reservation Unit (chapter 7) -/

inductive ServiceState | inService | outOfService
deriving DecidableEq, Repr, Inhabited

inductive DataState | known | unknown
deriving DecidableEq, Repr, Inhabited

/-- A segment: from `fromStop` up to, but not including, `toStop` (section 7.2). -/
structure Segment where
  fromStop : Nat
  toStop : Nat
  tag : Option Nat
deriving DecidableEq, Repr, Inhabited

structure Seat where
  number : Nat := 0
  service : ServiceState := .inService
  data : DataState := .unknown
  segments : List Segment := []
deriving DecidableEq, Repr, Inhabited

/-- The facts of the open journey that the Reservation Unit keeps (chapter 7 opening). -/
structure ResvJourney where
  id : Nat
  kinds : List StopKind
  c : Nat
  n : Nat
deriving DecidableEq, Repr, Inhabited

inductive LampState | dark | blocked | unknown | reserved | reservedSoon | free
deriving DecidableEq, Repr, Inhabited

/-- What other units have told the Reservation Unit and it has not yet taken, in order (R133, log 4). -/
inductive ResvMsg
  | journey (j : ResvJourney)
  | closed
  | labelChange
  | advance (c n : Nat)
deriving DecidableEq, Repr, Inhabited

structure Resv where
  seats : List Seat := List.replicate 96 {}
  journey : Option ResvJourney := none
  image : List LampState := List.replicate 96 .dark
  inbox : List ResvMsg := []
deriving DecidableEq, Repr, Inhabited

/-! ## Lamp Scanner (chapter 8) -/

/-- A column line's configuration (R136). -/
structure ColumnLine where
  used : Bool := false
  openDrain : Bool := false
  activeLow : Bool := false
deriving DecidableEq, Repr, Inhabited

/-- The line configuration: usage of the 8 row lines, and the 12 red and 12 green column lines. -/
structure Lines where
  rows : List Bool := List.replicate 8 false
  red : List ColumnLine := List.replicate 12 {}
  green : List ColumnLine := List.replicate 12 {}
deriving DecidableEq, Repr, Inhabited

/-- What a column line is set to (R137). -/
inductive Drive | high | low | released
deriving DecidableEq, Repr, Inhabited

/-- The scan frame in progress: the rows still to drive, the first the one being driven, with the row
period and line configuration fixed at the frame's start (R139). With no USED row it has no row. -/
structure FramePlan where
  rows : List Nat
  period : Nat
  lines : Lines
deriving DecidableEq, Repr, Inhabited

/-- The frame check of a position: unchecked, or checked with whether red and green mismatched (R143). -/
abbrev FrameCheck := Option (Bool × Bool)

structure Scanner where
  enable : Bool := false
  rowPeriod : Nat := 2
  blinkDivisor : Nat := 63
  lines : Lines := {}
  plan : Option FramePlan := none
  working : List LampState := List.replicate 96 .dark
  phaseOn : Bool := true
  blinkCount : Nat := 0
  checks : List FrameCheck := List.replicate 96 none
  misses : List Nat := List.replicate 96 0
  faults : List Bool := List.replicate 96 false
  /-- The row line that is sunk. -/
  sunk : Option Nat := none
  red : List Drive := List.replicate 12 .released
  green : List Drive := List.replicate 12 .released
deriving DecidableEq, Repr, Inhabited

/-! ## Raster Engine (chapter 9) -/

/-- The body of a draw record, by kind (section 12.6). -/
inductive Body
  | fillRect (x y : Int) (w h : Nat)
  | line (x0 y0 x1 y1 : Int) (pattern : BitVec 16) (patternReset omitLast clipStop : Bool) (mode : Byte)
  | cont
  | trapezoid (yTop yBot xl xr sl sr : Int)
  | copyGlyph (font code : Byte) (x y : Int) (fg bg : Byte) (transparent : Bool)
  | copyPage (page : Byte) (sx sy : Int) (w h : Nat) (dx dy : Int)
  /-- A COPY whose source kind names no value; it is refused at its start (R151). -/
  | copyOther (kind : Byte)
  | text (font : Byte) (x y : Int) (fg bg : Byte) (transparent : Bool) (codes : List Byte)
  | flip
deriving DecidableEq, Repr, Inhabited

structure Record where
  panel : Byte
  rop : Byte
  colour : Byte
  clipX : Int
  clipY : Int
  clipW : Nat
  clipH : Nat
  body : Body
deriving DecidableEq, Repr, Inhabited

inductive DrawSource | composer | inBand
deriving DecidableEq, Repr, Inhabited

/-- A line under way, with what the engine needs to carry on with it (R153 to R157). -/
structure LineRun where
  x0 : Int
  y0 : Int
  x1 : Int
  y1 : Int
  rop : Byte
  colour : Byte
  pattern : BitVec 16
  omitLast : Bool
  /-- The step of the next pixel. -/
  step : Nat
  /-- How many pixels are still to be considered. -/
  left : Nat
  /-- The pattern position, 15..0. -/
  position : Nat
  /-- Whether the last considered pixel was in the clip; none before the first. -/
  inside : Option Bool
  /-- CLIP_STOP is in force. -/
  clipStop : Bool
deriving DecidableEq, Repr, Inhabited

/-- The working state of a record. -/
inductive Work
  /-- FILL_RECT, TRAPEZOID and page copy: rows done. -/
  | rows (done : Nat)
  | line (r : LineRun)
  | glyph (done : Bool)
  /-- TEXT: the expanded codes still to draw and the cursor's x. -/
  | text (codes : List Byte) (cursor : Int)
deriving DecidableEq, Repr, Inhabited

/-- A known font: its cell size and its bitmaps by code, codes strictly rising (section 10.3). -/
structure Font where
  width : Nat
  height : Nat
  bitmaps : List (Nat × List Byte)
deriving DecidableEq, Repr, Inhabited

structure Running where
  source : DrawSource
  record : Record
  work : Work
  /-- How many pixels of the unit under way are done, where another event met the record (log 7). -/
  part : Nat := 0
  /-- The font the glyph under way is drawn from; none when no glyph is part-way (R161, R179, log 7). -/
  cell : Option Font := none
  roleChanged : Bool := false
deriving DecidableEq, Repr, Inhabited

/-- The continuation record (R155). -/
structure HeldLine where
  panel : Byte
  x0 : Int
  y0 : Int
  x1 : Int
  y1 : Int
  rop : Byte
  colour : Byte
  pattern : BitVec 16
  omitLast : Bool
  step : Nat
  left : Nat
  position : Nat
deriving DecidableEq, Repr, Inhabited

structure Engine where
  composerQ : List Record := []
  inBandQ : List Record := []
  running : Option Running := none
  suspended : Option Running := none
  heldLine : Option HeldLine := none
  composerPattern : Nat := 15
  inBandPattern : Nat := 15
deriving DecidableEq, Repr, Inhabited

/-! ## Panel Unit and Page Composer (chapter 10) -/

inductive Role | off | map | notice | free
deriving DecidableEq, Repr, Inhabited

/-- A panel table entry (section 10.1). -/
structure PanelConfig where
  role : Role := .off
  width : Nat := 64
  height : Nat := 16
  rowPeriod : Nat := 100
  blankRows : Nat := 4
  enable : Bool := false
  forceBlank : Bool := false
  font : Nat := 0
  prefixText : List Byte := []
  travelled : Pixel := 1
  future : Pixel := 2
  stopMark : Pixel := 3
  marker : Pixel := 4
  markerStale : Pixel := 5
  pattern : BitVec 16 := 0xF0F0
deriving DecidableEq, Repr, Inhabited

/-- A page's pixels: address y × 512 + x and value, addresses strictly rising, no pixel 0 listed. -/
abbrev Store := List (Nat × Pixel)

structure Page where
  pixels : Store := []
  tag : Option EntryNumber := none
deriving DecidableEq, Repr, Inhabited

/-- Where a panel stands in its refresh (R172). -/
inductive FramePosition
  | visible (row : Nat)
  | blank (row : Nat)
deriving DecidableEq, Repr, Inhabited

/-- The refresh of an enabled panel. -/
structure Refresh where
  position : FramePosition := .visible 0
  /-- The colours of the row's pixels shifted so far that a later write must not change (log 8). -/
  shifted : List Colour := []
  /-- The row last latched. -/
  latched : List Colour := []
  /-- The first blank row has been reached and its frame boundary has not yet been taken. -/
  boundaryDue : Bool := false
deriving DecidableEq, Repr, Inhabited

inductive ComposerState | clean | dirty | composing | flipWait
deriving DecidableEq, Repr, Inhabited

structure Panel where
  config : PanelConfig := {}
  /-- The row period and blank rows in force (R173). -/
  rowPeriod : Nat := 100
  blankRows : Nat := 4
  palette : List Colour := List.replicate 16 0
  shown : Page := {}
  back : Page := {}
  flipPending : Bool := false
  refresh : Option Refresh := none
  composer : Option ComposerState := none
  redo : Bool := false
deriving DecidableEq, Repr, Inhabited

/-- The composition under way: its panel and the records not yet placed (R181). -/
structure Composition where
  panel : PanelId
  records : List Record
deriving DecidableEq, Repr, Inhabited

structure Panels where
  panel0 : Panel := {}
  panel1 : Panel := {}
  panel2 : Panel := {}
  panel3 : Panel := {}
  fonts : List (Option Font) := List.replicate 4 none
  sideLeft : Option Byte := none
  sideRight : Option Byte := none
  sideBoth : Option Byte := none
  composing : Option Composition := none
deriving DecidableEq, Repr, Inhabited

/-! ## Management Unit (chapter 11) -/

/-- The results of write and read items (R189, R205). -/
inductive ItemResult | ok | clamped | locked | badTable | badIndex | badValue | readOnly | busy
deriving DecidableEq, Repr, Inhabited

/-- The answer to one item: its result and, for a read, its values (R191). -/
structure Answer where
  result : ItemResult
  values : List (List Byte)
deriving DecidableEq, Repr, Inhabited

/-- A settings memory transaction as the part drives it: command byte, bytes driven after it, and how
many bytes it reads (R193). -/
structure Transaction where
  command : Byte
  driven : List Byte
  reads : Nat
deriving DecidableEq, Repr, Inhabited

/-- Where a save stands (R193). -/
inductive SavePhase | writeEnable | write | pollWait | status | readBack
deriving DecidableEq, Repr, Inhabited

/-- A save: the 11 bytes being saved, and where it stands. The 1 ms poll timer runs in `pollWait`, the
100 ms limit from the end of the write transaction until the status bit has read 0. -/
structure Save where
  record : List Byte
  phase : SavePhase
deriving DecidableEq, Repr, Inhabited

structure Mgmt where
  locked : Bool := false
  save : Option Save := none
  draining : Bool := false
  engineIdle : Bool := false
  noBatch : Bool := false
  drainTimer : Bool := false
  storedId : UnitId := 0
  storedLabel : Nat := 0
  /-- The waiting reply and the port whose LTX it waits for (R191). -/
  waiting : Option Copy := none
  /-- The settings record is being read (R194). -/
  loading : Bool := true
  /-- The transaction on the settings memory's lines. -/
  bus : Option Transaction := some { command := 0x03, driven := [0, 0], reads := 11 }
  /-- The model's own: the answer of the item command last taken (log 6). -/
  answer : Option Answer := none
deriving DecidableEq, Repr, Inhabited

/-! ## Report Unit (section 11.5) -/

inductive ReportClass
  | portA | portB | rxError | overflow | consist | rollFailed | batchDone | batchRejected
  | resvError | stopSkipped | positionStale | noticeDropped | lampFault | drawEvent
  | doorUnexpected | settings
deriving DecidableEq, Repr, Inhabited

/-- One report class: its state and its configuration. -/
structure ReportCell where
  pending : Bool := false
  due : Bool := false
  detail : List Byte := []
  enable : Bool := true
  priority : Priority := .normal
  offset : Nat := 0
deriving DecidableEq, Repr, Inhabited

structure Reports where
  /-- In class number order. -/
  cells : List ReportCell :=
    [{ priority := .urgent }, { priority := .urgent }, {}, {}, { priority := .urgent },
     { priority := .urgent }, {}, {}, {}, {}, {}, {}, {}, {}, {}, {}]
  base : Nat := 0
  count : Nat := 1
deriving DecidableEq, Repr, Inhabited

/-! ## The whole machine -/

/-- The state of the KC216, with the queue of commands that wait. -/
structure State where
  link : Link := {}
  classifier : Classifier := {}
  consist : Consist := {}
  slots : Slots := {}
  tracker : Tracker := {}
  notices : NoticeUnit := {}
  resv : Resv := {}
  scanner : Scanner := {}
  engine : Engine := {}
  panels : Panels := {}
  mgmt : Mgmt := {}
  reports : Reports := {}
  /-- The model's own: how many free values have been used (log 7, 8). -/
  freeCount : Nat := 0
  /-- The commands that wait, first in, first out. -/
  pending : List Instr := []
deriving DecidableEq, Repr

/-- Why a step could fault. Nothing in the manual stops the part: frames are discarded, loads rejected,
items refused and records refused, each an effect on the state. No meaning raises this one. -/
inductive Fault
  /-- Raised by nothing: kept so that the type has a value. It would be safe: the model would stop. -/
  | unreachable
deriving DecidableEq, Repr

/-- Why a command could be refused. -/
inductive Refusal
  /-- A command of the table without a meaning, by its mnemonic; raised by `exec` for an arm not yet
  modelled, and by none now. Safe: the model stops. -/
  | notModelled (mnemonic : String)
deriving DecidableEq, Repr

/-- The machine right after a pin reset: every block at its pin-reset value and the read of the settings
record begun (R2, R33, R38, R41, R42, R62, R76, R100, R117, R146, R148, R171, R174, R175, R179, R180, R187,
R192, R194, R196). The values no rule gives are those of log 13. -/
def State.reset : State := {}

end Sys2Proof.Machine
end

