-- ==== Sys2Proof/Machine/Operands.lean ====
section
/-! DEFINITION. Bytes, numbers and item values: byte order (R200), the two CRCs (R25, R193), how an item's
value is read (R204) and clamped (R189). -/

namespace Sys2Proof.Machine

open Sys2Proof

/-! ## Bytes and numbers -/

/-- The unsigned number of a run of bytes, most significant first (R200). -/
def beNat (bs : List Byte) : Nat :=
  bs.foldl (fun acc b => acc * 256 + b.toNat) 0

/-- The low `k` bytes of `n`, most significant first (R200). -/
def beBytes : Nat → Nat → List Byte
  | 0, _ => []
  | k + 1, n => BitVec.ofNat 8 (n / 256 ^ k) :: beBytes k n

/-- Byte `i`, 0 beyond the end. -/
def byteAt (bs : List Byte) (i : Nat) : Byte := bs.getD i 0

/-- The run of `k` bytes from byte `i`. -/
def slice (bs : List Byte) (i k : Nat) : List Byte := (bs.drop i).take k

/-- The number in bytes `i .. i + k - 1`. -/
def natAt (bs : List Byte) (i k : Nat) : Nat := beNat (slice bs i k)

/-- The signed 16-bit number in bytes `i`, `i + 1`. -/
def int16At (bs : List Byte) (i : Nat) : Int := (BitVec.ofNat 16 (natAt bs i 2)).toInt

/-- The signed 24-bit number in bytes `i .. i + 2`. -/
def int24At (bs : List Byte) (i : Nat) : Int := (BitVec.ofNat 24 (natAt bs i 3)).toInt

/-- How many bytes hold `n`: the fewest, and at least 1 (R205). -/
def byteCount (n : Nat) : Nat :=
  if n < 2 ^ 8 then 1 else if n < 2 ^ 16 then 2 else if n < 2 ^ 24 then 3
  else if n < 2 ^ 32 then 4 else if n < 2 ^ 40 then 5 else if n < 2 ^ 48 then 6
  else if n < 2 ^ 56 then 7 else 8

/-- A value of a reply: the fewest bytes that hold it (R205). -/
def valueBytes (n : Nat) : List Byte := beBytes (byteCount n) n

/-- yes/no, set/clear and ON/OFF as a number (R200). -/
def bit (b : Bool) : Nat := if b then 1 else 0

/-- Replaces entry `i` of a list. -/
def updAt {α : Type} (i : Nat) (f : α → α) : List α → List α
  | [] => []
  | a :: as => match i with
    | 0 => f a :: as
    | j + 1 => a :: updAt j f as

/-! ## The CRCs -/

/-- One bit into a CRC register, most significant end first. -/
def crcBit {w : Nat} (poly reg : BitVec w) (b : Bool) : BitVec w :=
  if Bool.xor reg.msb b then (reg <<< 1) ^^^ poly else reg <<< 1

/-- One byte into a CRC register, most significant bit first (R25, R193). -/
def crcByte {w : Nat} (poly reg : BitVec w) (b : Byte) : BitVec w :=
  [7, 6, 5, 4, 3, 2, 1, 0].foldl (fun r i => crcBit poly r (b.getLsbD i)) reg

/-- The CRC-32 of a frame (R25). -/
def crc32 (bs : List Byte) : BitVec 32 :=
  ~~~ (bs.foldl (crcByte 0x04C11DB7#32) 0xFFFFFFFF#32)

/-- The CRC-16 of the settings record (R193). -/
def crc16 (bs : List Byte) : BitVec 16 :=
  bs.foldl (crcByte 0x1021#16) 0xFFFF#16

/-! ## Item values -/

/-- An item value read as a number: a length of 0 is 0, and 9 or more bytes give none (R204). -/
def itemNumber (value : List Byte) : Option Nat :=
  if value.length ≤ 8 then some (beNat value) else none

/-- The nearest number of `lo .. hi` (R189 CLAMPED). -/
def clampTo (lo hi n : Nat) : Nat := if n < lo then lo else if hi < n then hi else n

/-- OK when the value is stored as it is, CLAMPED when the nearest limit is stored (R189). -/
def storedResult (written stored : Nat) : ItemResult := if stored = written then .ok else .clamped

/-- The panel a byte names, if it is 0..3. -/
def panelOfNat : Nat → Option PanelId
  | 0 => some .p0
  | 1 => some .p1
  | 2 => some .p2
  | 3 => some .p3
  | _ => none

/-- A panel's number. -/
def panelNum : PanelId → Nat
  | .p0 => 0
  | .p1 => 1
  | .p2 => 2
  | .p3 => 3

/-- The four panels in ascending number. -/
def allPanels : List PanelId := [.p0, .p1, .p2, .p3]

/-- The port opposite a port. -/
def opposite : PortId → PortId
  | .A => .B
  | .B => .A

/-- The lane beside a lane. -/
def otherLane : LaneId → LaneId
  | .zero => .one
  | .one => .zero

end Sys2Proof.Machine
end

