-- ==== Sys2Proof/Machine/Layout.lean ====
section
/-! DEFINITION. The frame and record layouts of chapter 12: codes, the frame with its CRC, the reception
checks of R16 on bytes, draw records, write and read items. -/

namespace Sys2Proof.Machine

open Sys2Proof

/-! ## Codes -/

def endCode : TrainEnd → Nat
  | .end1 => 0
  | .end2 => 1

def endOfBit (b : Bool) : TrainEnd := if b then .end2 else .end1

def partCode : PartFlag → Nat
  | .single => 0
  | .start => 1
  | .middle => 2
  | .finish => 3

def partOfNat : Nat → PartFlag
  | 0 => .single
  | 1 => .start
  | 2 => .middle
  | _ => .finish

def portStateCode : PortState → Nat
  | .off => 0
  | .down => 1
  | .training => 2
  | .upDual => 3
  | .upSingle => 4

def laneStateCode : LaneState → Nat
  | .off => 0
  | .seeking => 1
  | .counting _ => 2
  | .good => 3
  | .active => 4
  | .lost => 5

def portCode : PortId → Nat
  | .A => 0
  | .B => 1

def laneCode : LaneId → Nat
  | .zero => 0
  | .one => 1

def consistStateCode : ConsistState → Nat
  | .uninaugurated => 0
  | .rolling => 1
  | .valid => 2
  | .stale => 3

/-- UNKNOWN 0, A 1, B 2 (section 12.8). -/
def facingCode : Option PortId → Nat
  | none => 0
  | some .A => 1
  | some .B => 2

def trackerStateCode : TrackerState → Nat
  | .idle => 0
  | .atStop => 1
  | .cruise => 2
  | .approach => 3

def loadClassCode : LoadClass → Nat
  | .journey => 7
  | .triggers => 8
  | .reservations => 9
  | .glyphs => 12

def noticeKindCode : NoticeKind → Nat
  | .nextStop => 0
  | .arriving => 1
  | .connection => 2
  | .custom => 3

def priorityCode : Priority → Nat
  | .normal => 0
  | .urgent => 1

def noticeSourceCode : NoticeSource → Nat
  | .trigger => 0
  | .immediate => 1

def orientationCode : Orientation → Nat
  | .aTowardEnd1 => 0
  | .bTowardEnd1 => 1

def resultCode : ItemResult → Nat
  | .ok => 0
  | .clamped => 1
  | .locked => 2
  | .badTable => 3
  | .badIndex => 4
  | .badValue => 5
  | .readOnly => 6
  | .busy => 7

def reportNum : ReportClass → Nat
  | .portA => 0
  | .portB => 1
  | .rxError => 2
  | .overflow => 3
  | .consist => 4
  | .rollFailed => 5
  | .batchDone => 6
  | .batchRejected => 7
  | .resvError => 8
  | .stopSkipped => 9
  | .positionStale => 10
  | .noticeDropped => 11
  | .lampFault => 12
  | .drawEvent => 13
  | .doorUnexpected => 14
  | .settings => 15

/-- The detail length of each report class, by number (section 12.8). -/
def detailLength (n : Nat) : Nat :=
  [4, 4, 3, 2, 6, 3, 7, 8, 7, 8, 7, 5, 3, 3, 9, 1].getD n 0

/-- A byte of a number below 256. -/
def byteOf (n : Nat) : Byte := BitVec.ofNat 8 n

/-! ## The frame (section 12.2) -/

/-- The 16 header bytes of a frame, the zero bits zero (R200). -/
def Frame.header (f : Frame) : List Byte :=
  [byteOf (16 + partCode f.part * 4 + endCode f.origin * 2),
   byteOf f.cls.toNat,
   byteOf (f.kind.toNat * 32 + f.hop.toNat)]
  ++ beBytes 6 f.dest.toNat
  ++ [f.batchId, f.seq]
  ++ beBytes 2 f.payload.length
  ++ beBytes 3 f.reserved.toNat

/-- The bytes of a frame on the link, with its CRC (R25). -/
def Frame.wire (f : Frame) : List Byte :=
  f.header ++ f.payload ++ beBytes 4 (crc32 (f.header ++ f.payload)).toNat

/-- The reasons of RX_ERROR (R16). -/
inductive RxReason | runt | long | crc | badHeader
deriving DecidableEq, Repr, Inhabited

def rxReasonCode : RxReason → Nat
  | .runt => 0
  | .long => 1
  | .crc => 2
  | .badHeader => 3

/-- What the checks 1 to 4 of R16 give: a reason to discard, or a valid frame. -/
inductive RxVerdict
  | bad (r : RxReason)
  | valid (f : Frame)
deriving DecidableEq, Repr, Inhabited

/-- The payload length a link-control class must have; none for every other class (R16). -/
def linkPayloadLength (cls : Nat) : Option Nat :=
  if cls = 0 then some 1 else if cls = 1 then some 0 else if cls = 2 then some 1 else none

/-- The frame in bytes of whatever length, as the layout of section 12.2 places its fields. -/
def frameOfBytes (bs : List Byte) : Frame :=
  { part := partOfNat ((byteAt bs 0).toNat / 4 % 4)
    origin := endOfBit ((byteAt bs 0).getLsbD 1)
    cls := BitVec.ofNat 6 (byteAt bs 1).toNat
    kind := BitVec.ofNat 3 ((byteAt bs 2).toNat / 32)
    hop := BitVec.ofNat 5 (byteAt bs 2).toNat
    dest := BitVec.ofNat 48 (natAt bs 3 6)
    batchId := byteAt bs 9
    seq := byteAt bs 10
    reserved := BitVec.ofNat 24 (natAt bs 13 3)
    payload := slice bs 16 (bs.length - 20) }

/-- Check 4 of R16: the version is 1, the byte count fits the payload length, and a link-control frame
has the payload length of its class. -/
def headerOk (bs : List Byte) : Bool :=
  decide ((byteAt bs 0).toNat / 16 = 1) &&
  decide (bs.length = 16 + natAt bs 11 2 + 4) &&
  (match linkPayloadLength ((byteAt bs 1).toNat % 64) with
   | some n => decide (natAt bs 11 2 = n)
   | none => true)

/-- The CRC of a received frame checks (R25). -/
def crcOk (bs : List Byte) : Bool :=
  decide ((crc32 (bs.take (bs.length - 4))).toNat = beNat (bs.drop (bs.length - 4)))

/-- The checks 1 to 4 of R16 in their order. -/
def checkFrame (bs : List Byte) : RxVerdict :=
  if bs.length < 20 then .bad .runt
  else if 512 < bs.length then .bad .long
  else if !crcOk bs then .bad .crc
  else if !headerOk bs then .bad .badHeader
  else .valid (frameOfBytes bs)

/-- A forward copy: the hop count raised by one, every other field as received (R37). -/
def Frame.forward (f : Frame) : Frame := { f with hop := f.hop + 1 }

/-- A frame the part originates, its header fields that no rule fixes taken as `Config.headerFill` gives
them (R26, log 11). -/
def originated (cls : BitVec 6) (payload : List Byte) : Frame :=
  let h := Config.headerFill cls
  { part := h.part, origin := h.origin, cls := cls, kind := h.kind, hop := 0, dest := h.dest,
    batchId := h.batchId, seq := h.seq, reserved := 0, payload := payload }

/-- The payload byte of a SYNC that the part sends: one of 1..255, and which is free (R201, log 27). -/
def syncByte : Byte := byteOf (Config.syncFill % 255 + 1)

/-- A TRAIN frame: SINGLE, payload the phase, every other header field zero (R6, R201). -/
def trainFrame (ph : TrainPhase) : Frame :=
  { part := .single, origin := .end1, cls := 0, kind := 0, hop := 0, dest := 0, batchId := 0, seq := 0,
    reserved := 0, payload := [match ph with | .seek => 0 | .sync => syncByte] }

/-- A BEACON frame (R11). -/
def beaconFrame : Frame := originated 1 []

/-- A PAUSE frame (section 1.6). -/
def pauseFrame (q : Byte) : Frame := originated 2 [q]

/-- An originated frame addressed to the head-end equipment: SINGLE, hop 0, kind END (R50, R191, R199). -/
def endFrame (cls : BitVec 6) (origin : TrainEnd) (value : Nat) (payload : List Byte) : Frame :=
  { originated cls payload with part := .single, origin := origin, kind := 5, dest := BitVec.ofNat 48 value }

/-- The value 1 or 2 of destination kind END that names an end (R50). -/
def endValue : TrainEnd → Nat
  | .end1 => 1
  | .end2 => 2

/-- The phase a TRAIN payload carries: 0 is SEEK, any other value SYNC (R201). -/
def trainPhase (f : Frame) : TrainPhase := if byteAt f.payload 0 = 0 then .seek else .sync

/-! ## Draw records (section 12.6) -/

/-- A width or height field: above 1,023 it is read as 1,023 (R203). -/
def extentAt (bs : List Byte) (i : Nat) : Nat := min (natAt bs i 2) 1023

/-- The size of the record at the head of the bytes: by its kind byte, and for TEXT by its code count; none
for a kind byte of 7 or more, or where the count is not there (R203, R204). -/
def recordSize (bs : List Byte) : Option Nat :=
  match bs with
  | [] => none
  | k :: _ =>
    match k.toNat with
    | 0 => some 20
    | 1 => some 24
    | 2 => some 12
    | 3 => some 28
    | 4 => some 26
    | 5 => if 21 ≤ bs.length then some (21 + (byteAt bs 20).toNat) else none
    | 6 => some 12
    | _ => none

/-- The body of the record at the head of the bytes (R203). DESIGN CHOICE (log 51): bits 3 to 7 of a LINE's flags
byte and bits 1 to 7 of that of a glyph COPY or TEXT, which the layout neither names nor marks zero, are not
examined. -/
def bodyOfBytes (bs : List Byte) : Body :=
  match (byteAt bs 0).toNat with
  | 0 => .fillRect (int16At bs 12) (int16At bs 14) (extentAt bs 16) (extentAt bs 18)
  | 1 => .line (int16At bs 12) (int16At bs 14) (int16At bs 16) (int16At bs 18)
      (BitVec.ofNat 16 (natAt bs 20 2))
      ((byteAt bs 22).getLsbD 0) ((byteAt bs 22).getLsbD 1) ((byteAt bs 22).getLsbD 2) (byteAt bs 23)
  | 2 => .cont
  | 3 => .trapezoid (int16At bs 12) (int16At bs 14)
      (int24At bs 16) (int24At bs 19) (int24At bs 22) (int24At bs 25)
  | 4 =>
    match (byteAt bs 12).toNat with
    | 0 => .copyGlyph (byteAt bs 13) (byteAt bs 14) (int16At bs 15) (int16At bs 17)
        (byteAt bs 19) (byteAt bs 20) ((byteAt bs 21).getLsbD 0)
    | 1 => .copyPage (byteAt bs 13) (int16At bs 14) (int16At bs 16) (extentAt bs 18) (extentAt bs 20)
        (int16At bs 22) (int16At bs 24)
    | _ => .copyOther (byteAt bs 12)
  | 5 => .text (byteAt bs 12) (int16At bs 13) (int16At bs 15) (byteAt bs 17) (byteAt bs 18)
      ((byteAt bs 19).getLsbD 0) (slice bs 21 (byteAt bs 20).toNat)
  | _ => .flip

/-- The record at the head of the bytes. -/
def recordOfBytes (bs : List Byte) : Record :=
  { panel := byteAt bs 1, rop := byteAt bs 2, colour := byteAt bs 3
    clipX := int16At bs 4, clipY := int16At bs 6, clipW := extentAt bs 8, clipH := extentAt bs 10
    body := bodyOfBytes bs }

/-- The walk of a DRAW payload, at most `fuel` records: its records when it divides exactly (R204). -/
def walkRecords : Nat → List Byte → Option (List Record)
  | _, [] => some []
  | 0, _ :: _ => none
  | fuel + 1, b :: bs =>
    match recordSize (b :: bs) with
    | none => none
    | some n =>
      if (b :: bs).length < n then none
      else (walkRecords fuel ((b :: bs).drop n)).map (recordOfBytes (b :: bs) :: ·)

/-- The records of a DRAW payload, or none when it does not divide exactly (R204). -/
def drawRecords (payload : List Byte) : Option (List Record) := walkRecords payload.length payload

/-- The kind code of a record in a DRAW_EVENT detail (section 12.8). -/
def bodyCode : Body → Nat
  | .fillRect _ _ _ _ => 0
  | .line _ _ _ _ _ _ _ _ _ => 1
  | .cont => 2
  | .trapezoid _ _ _ _ _ _ => 3
  | .copyGlyph _ _ _ _ _ _ _ => 4
  | .copyPage _ _ _ _ _ _ _ => 4
  | .copyOther _ => 4
  | .text _ _ _ _ _ _ _ => 5
  | .flip => 6

/-! ## Management items (R204) -/

/-- `k` write items that fill the bytes exactly, or none: a value length above 17, an item that runs past
the payload and bytes after the last item fail the form (R204). -/
def walkWrites : Nat → List Byte → Option (List WriteItem)
  | 0, [] => some []
  | 0, _ :: _ => none
  | k + 1, t :: i :: n :: rest =>
    if 17 < n.toNat ∨ rest.length < n.toNat then none
    else (walkWrites k (rest.drop n.toNat)).map
      ({ table := t, index := i, value := rest.take n.toNat } :: ·)
  | _ + 1, _ => none

/-- `k` read items that fill the bytes exactly, or none. -/
def walkReads : Nat → List Byte → Option (List ReadItem)
  | 0, [] => some []
  | 0, _ :: _ => none
  | k + 1, t :: i :: n :: rest =>
    (walkReads k rest).map ({ table := t, first := i, count := n } :: ·)
  | _ + 1, _ => none

/-- The write items of a MGMT_WRITE payload of good form: an item count of 1..40 and exactly that many
whole write items (R188). -/
def writeItems (payload : List Byte) : Option (List WriteItem) :=
  match payload with
  | [] => none
  | k :: rest => if 1 ≤ k.toNat ∧ k.toNat ≤ 40 then walkWrites k.toNat rest else none

/-- The read items of a MGMT_READ payload of good form (R188). -/
def readItems (payload : List Byte) : Option (List ReadItem) :=
  match payload with
  | [] => none
  | k :: rest => if 1 ≤ k.toNat ∧ k.toNat ≤ 40 then walkReads k.toNat rest else none

end Sys2Proof.Machine
end

