-- ==== Sys2Proof/Machine/Flags.lean ====
section
/-! DEFINITION. The flags of the part: the pending flags and due marks of the Report Unit (R197), and the two
drain marks (R195). -/

namespace Sys2Proof.Machine

open Sys2Proof

/-- What an event of a class does to its cell: the detail becomes this event's; a class not pending
becomes pending, and due if it is enabled; a pending class changes its detail alone (R197). -/
def raiseCell (detail : List Byte) (x : ReportCell) : ReportCell :=
  if x.pending then { x with detail := detail }
  else { x with detail := detail, pending := true, due := x.enable }

/-- A block raises a report class (R197). -/
def raise (cls : ReportClass) (detail : List Byte) (s : State) : State :=
  { s with reports := { s.reports with
      cells := updAt (reportNum cls) (raiseCell detail) s.reports.cells } }

/-- A class with its pending flag, due mark and detail cleared (R197). -/
def clearCell (x : ReportCell) : ReportCell := { x with pending := false, due := false, detail := [] }

/-- Clears each class whose place is set in the mask, from place `i` on (R197). -/
def clearMasked (mask i : Nat) : List ReportCell → List ReportCell
  | [] => []
  | x :: xs => (if mask.testBit i then clearCell x else x) :: clearMasked mask (i + 1) xs

/-- The pending report set: class n at bit n (R205). -/
def pendingSet (cells : List ReportCell) : Nat :=
  match cells with
  | [] => 0
  | x :: xs => bit x.pending + 2 * pendingSet xs

/-- The report class of a port (R13). -/
def portClass : PortId → ReportClass
  | .A => .portA
  | .B => .portB

/-- Raises OVERFLOW with its place code and port byte (section 12.8). -/
def raiseOverflow (place : Nat) (port : Option PortId) (s : State) : State :=
  raise .overflow [byteOf place, byteOf (match port with | some p => portCode p | none => 255)] s

/-- Raises CONSIST with the detail of R44, all as they stand. -/
def raiseConsist (s : State) : State :=
  raise .consist
    ([byteOf (consistStateCode s.consist.state), byteOf s.consist.ordinal, byteOf s.consist.label]
      ++ beBytes 2 s.consist.rollId.toNat ++ [byteOf (facingCode s.consist.facing)]) s

/-- Whether the Raster Engine is idle in the sense of section 9.4. -/
def Engine.isIdle (e : Engine) : Bool :=
  e.running.isNone && e.suspended.isNone && e.composerQ.isEmpty && e.inBandQ.isEmpty

/-- During a drain the Raster Engine, when idle, tells the Management Unit so (R169). -/
def noteEngineIdle (s : State) : State :=
  if s.mgmt.draining && s.engine.isIdle then
    { s with mgmt := { s.mgmt with engineIdle := true } }
  else s

/-- During a drain the Batch Assembler, with no slot ASSEMBLING, tells the Management Unit so (R74). -/
def noteNoBatch (s : State) : State :=
  if s.mgmt.draining && s.slots.slot0.isNone && s.slots.slot1.isNone then
    { s with mgmt := { s.mgmt with noBatch := true } }
  else s

end Sys2Proof.Machine
end

