-- ==== Sys2Proof/Machine/Ops.lean ====
section
/-! DEFINITION. The operations that several blocks share: access to ports, lanes and panels, the page store, the
transmit arbiter and the offers to its queues (R20, R23, R24), pause decisions (R21), dirty marks (R181,
R183), the completion of a flip (R176), and the journey facts that units read (R60, R97, R109). -/

namespace Sys2Proof.Machine

open Sys2Proof

/-- What a command answers. -/
abbrev Out := Host.Outcome State Fault Refusal

/-! ## Ports and lanes -/

def Link.port (k : Link) : PortId → Port
  | .A => k.portA
  | .B => k.portB

def Link.setPort (k : Link) (p : PortId) (x : Port) : Link :=
  match p with
  | .A => { k with portA := x }
  | .B => { k with portB := x }

def State.port (s : State) (p : PortId) : Port := s.link.port p

def State.setPort (s : State) (p : PortId) (x : Port) : State :=
  { s with link := s.link.setPort p x }

def Port.lane (p : Port) : LaneId → Lane
  | .zero => p.lane0
  | .one => p.lane1

def Port.setLane (p : Port) (l : LaneId) (x : Lane) : Port :=
  match l with
  | .zero => { p with lane0 := x }
  | .one => { p with lane1 := x }

/-- "UP" means UP_DUAL or UP_SINGLE (section 1.2). -/
def Port.isUp (p : Port) : Bool := decide (p.state = .upDual) || decide (p.state = .upSingle)

/-! ## The transmit arbiter (section 1.7) -/

/-- Rows 4 to 6 of R23 with the count of R24: the frame the queues give, and the port without it. -/
def Port.fromQueues (p : Port) : Option (Frame × Port) :=
  match p.gate with
  | .closed => none
  | .opened =>
    match p.ltx, p.ftx with
    | [], [] => none
    | [], f :: fs => some (f, { p with ftx := fs })
    | g :: gs, [] => some (g, { p with ltx := gs, fairness := 0 })
    | g :: gs, f :: fs =>
      if 4 ≤ p.fairness then some (g, { p with ltx := gs, fairness := 0 })
      else some (f, { p with ftx := fs, fairness := p.fairness + 1 })

/-- What a free ACTIVE lane of a port in UP starts, in the order of R23. -/
def Port.startActive (p : Port) (l : LaneId) : Port :=
  match p.waitingPause with
  | some q =>
    { p with waitingPause := none }.setLane l { p.lane l with tx := some (pauseFrame q) }
  | none =>
    if (p.lane l).syncAnswer then
      p.setLane l { p.lane l with tx := some (trainFrame .sync), syncAnswer := false }
    else if (p.lane l).beaconDue then
      p.setLane l { p.lane l with tx := some beaconFrame, beaconDue := false }
    else
      match p.fromQueues with
      | some (f, p') => p'.setLane l { p.lane l with tx := some f }
      | none => p

/-- What a free lane starts: by the arbiter when the lane is ACTIVE and the port UP; otherwise a TRAIN that
fell due while the lane was sending (R6). -/
def Port.startLane (p : Port) (l : LaneId) : Port :=
  match (p.lane l).tx with
  | some _ => p
  | none =>
    if p.isUp && decide ((p.lane l).state = .active) then p.startActive l
    else
      match (p.lane l).trainDue with
      | some ph => p.setLane l { p.lane l with tx := some (trainFrame ph), trainDue := none }
      | none => p

/-- Starts what can start on the port's free lanes, lane 0 first (R23). -/
def Port.arbitrate (p : Port) : Port := (p.startLane .zero).startLane .one

/-- Runs a port's transmit arbiter. -/
def arbitrate (p : PortId) (s : State) : State := s.setPort p (s.port p).arbitrate

/-! ## Offers to FTX and LTX (R20) -/

/-- A forward copy offered to the FTX of a port: placed, dropped with OVERFLOW, or discarded (R20). -/
def offerFtx (p : PortId) (f : Frame) (s : State) : State :=
  if (s.port p).isUp then
    if (s.port p).ftx.length < 12 then
      s.setPort p { s.port p with ftx := (s.port p).ftx ++ [f] }.arbitrate
    else raiseOverflow 1 (some p) s
  else s

/-- Whether an LTX offer to the port is settled at once, by placing or by discarding (R20). -/
def Port.ltxTakes (p : Port) : Bool := !p.isUp || decide (p.ltx.length < 4)

/-- An LTX offer that is settled at once: placed when the port is UP, else taken and discarded (R20). -/
def placeLtx (p : PortId) (f : Frame) (s : State) : State :=
  if (s.port p).isUp then
    s.setPort p { s.port p with ltx := (s.port p).ltx ++ [f] }.arbitrate
  else s

/-! ## Pause decisions (R21) -/

/-- The resend period for pause quanta `q`: q/2 quanta rounded down, at least 1 (R21). -/
def resendPeriod (q : Nat) : Nat := max 1 (q / 2)

/-- The port decides to send PAUSE(q), sets its pause-asserted mark and starts its resend timer (R21).
DESIGN CHOICE (log 46): a PAUSE that waits for a free lane keeps the q of its decision, though the pause quanta
be written before it is sent (R1). -/
def Port.assertPause (p : Port) (q : Nat) : Port :=
  { p with waitingPause := some (byteOf q), pauseAsserted := true,
           resendTimer := some (resendPeriod q) }

/-- The port decides to send PAUSE(0), clears the mark and stops the resend timer (R21). -/
def Port.resumePause (p : Port) : Port :=
  { p with waitingPause := some 0, pauseAsserted := false, resendTimer := none }

/-- Places a frame at the tail of a port's RXQ, subject to the RX_FULL check, with the high mark (R16,
R18, R21). -/
def placeRxq (p : PortId) (f : Frame) (s : State) : State :=
  if 8 ≤ (s.port p).rxq.length then raiseOverflow 0 (some p) s
  else
    let q := { s.port p with rxq := (s.port p).rxq ++ [f] }
    s.setPort p (if q.rxq.length = 6 && q.isUp then q.assertPause s.link.pauseQuanta else q)

/-! ## The page store -/

/-- A page keeps the pixel (x, y) at address y × 512 + x: no panel is wider than 512 (section 10.1). -/
def pixelAddr (x y : Nat) : Nat := y * 512 + x

/-- Reads an address; an unlisted address reads 0 (R175). -/
def Store.get : Store → Nat → Pixel
  | [], _ => 0
  | (b, v) :: m, a => if b = a then v else Store.get m a

/-- Writes an address, keeping the canonical form: rising addresses, no 0 listed. -/
def Store.set : Store → Nat → Pixel → Store
  | [], a, v => if v = 0 then [] else [(a, v)]
  | (b, w) :: m, a, v =>
    if a < b then (if v = 0 then (b, w) :: m else (a, v) :: (b, w) :: m)
    else if a = b then (if v = 0 then m else (a, v) :: m)
    else (b, w) :: Store.set m a v

/-- Addresses rising strictly from above `lo`, and no entry 0. -/
def Store.wfFrom : Option Nat → Store → Bool
  | _, [] => true
  | lo, (a, v) :: m =>
    (match lo with | none => true | some b => decide (b < a)) && decide (v ≠ 0) &&
      Store.wfFrom (some a) m

/-- The canonical form of a page's pixels. -/
def Store.wf (m : Store) : Bool := Store.wfFrom none m

/-! ## Panels -/

def Panels.panel (k : Panels) : PanelId → Panel
  | .p0 => k.panel0
  | .p1 => k.panel1
  | .p2 => k.panel2
  | .p3 => k.panel3

def Panels.setPanel (k : Panels) (p : PanelId) (x : Panel) : Panels :=
  match p with
  | .p0 => { k with panel0 := x }
  | .p1 => { k with panel1 := x }
  | .p2 => { k with panel2 := x }
  | .p3 => { k with panel3 := x }

def State.panel (s : State) (p : PanelId) : Panel := s.panels.panel p

def State.setPanel (s : State) (p : PanelId) (x : Panel) : State :=
  { s with panels := s.panels.setPanel p x }

/-- A panel is enabled when its enable is set and its role is not OFF (section 10.1). -/
def Panel.enabled (p : Panel) : Bool := p.config.enable && decide (p.config.role ≠ .off)

/-- An enabled NOTICE panel (section 6.6). -/
def Panel.noticeEnabled (p : Panel) : Bool := p.config.enable && decide (p.config.role = .notice)

/-- Whether any NOTICE panel is enabled (R114). -/
def Panels.anyNotice (k : Panels) : Bool :=
  k.panel0.noticeEnabled || k.panel1.noticeEnabled || k.panel2.noticeEnabled || k.panel3.noticeEnabled

/-- Column "Marked dirty" of R181; a panel of role FREE or OFF has no composer state (R183). -/
def Panel.markDirty (p : Panel) : Panel :=
  match p.composer with
  | none => p
  | some .clean => { p with composer := some .dirty }
  | some .dirty => p
  | some .composing => { p with redo := true }
  | some .flipWait => { p with redo := true }

/-- Marks a panel dirty when it has the role. -/
def Panel.markRole (r : Role) (p : Panel) : Panel :=
  if p.config.role = r then p.markDirty else p

/-- Marks every panel of a role dirty (R183). -/
def markRole (r : Role) (s : State) : State :=
  { s with panels := { s.panels with
      panel0 := s.panels.panel0.markRole r
      panel1 := s.panels.panel1.markRole r
      panel2 := s.panels.panel2.markRole r
      panel3 := s.panels.panel3.markRole r } }

/-- Marks every MAP and NOTICE panel dirty. -/
def markAll (s : State) : State := markRole .notice (markRole .map s)

/-- Column "Flip of the panel completes" of R181. -/
def Panel.flipComposer (p : Panel) : Panel :=
  match p.composer with
  | some .flipWait =>
    if p.redo then { p with composer := some .dirty, redo := false }
    else { p with composer := some .clean }
  | _ => p

/-- The exchange of the pages: each page carries its tag (R175, R176). -/
def Panel.exchange (p : Panel) : Panel :=
  { p with shown := p.back, back := p.shown, flipPending := false }

/-- A pending flip completes: the pages are exchanged, the Page Composer is told, and for a NOTICE panel the
Notice Unit is handed the tag now SHOWN (R176). -/
def completeFlip (p : PanelId) (s : State) : State :=
  let x := (s.panel p).exchange.flipComposer
  let s := s.setPanel p x
  if x.config.role = .notice then
    { s with notices := { s.notices with
        fromPanels := s.notices.fromPanels ++ [.flipped x.shown.tag x.enabled] } }
  else s

/-! ## Journey facts -/

/-- Stop `i` of a stop list. -/
def stopAt (stops : List Stop) (i : Nat) : Stop := stops.getD i default

/-- The index of the final stop. -/
def lastStop (stops : List Stop) : Nat := stops.length - 1

/-- The next stop: the first STOP-kind stop after `c`; `c` itself when there is none (section 5.1). -/
def nextStop (stops : List Stop) (c : Nat) : Nat :=
  ((List.range stops.length).filter
    (fun i => decide (c < i) && decide ((stopAt stops i).kind = .stop))).headD c

/-- The stop list of the open journey; empty with no journey open. -/
def Tracker.stops (t : Tracker) : List Stop :=
  match t.journey with
  | some j => j.stops
  | none => []

/-- n (section 5.1), 0 with no journey open (R76, R99). -/
def Tracker.n (t : Tracker) : Nat :=
  match t.journey with
  | some j => nextStop j.stops t.c
  | none => 0

/-- E_m: the estimate in whole metres, rounded down (section 5.1). -/
def Tracker.em (t : Tracker) : Nat := t.e / 1000

/-- The journey id, 0 with no journey open (R76). -/
def Tracker.journeyId (t : Tracker) : Nat :=
  match t.journey with
  | some j => j.id
  | none => 0

/-- The forward port for a port facing END1 and a lead end (table of R60). -/
def forwardOf : Option PortId → TrainEnd → PortId
  | some .A, .end1 => .A
  | some .A, .end2 => .B
  | some .B, .end1 => .B
  | some .B, .end2 => .A
  | none, _ => .A

/-- The forward port; none with no open journey (R60, R97). -/
def State.forwardPort (s : State) : Option PortId :=
  match s.tracker.journey with
  | some j => some (forwardOf s.consist.facing j.lead)
  | none => none

/-- A platform side as seen by a viewer facing Port A (table of R97). -/
def exitFor : PortId → Side → Side
  | .A, x => x
  | .B, .left => .right
  | .B, .right => .left
  | .B, .both => .both
  | .B, .none => .none

/-- The local exit side of stop `i`; NONE with no journey open or for a stop the journey does not have. -/
def State.exitSide (s : State) (i : Nat) : Side :=
  match s.tracker.journey, s.forwardPort with
  | some j, some p => if i < j.stops.length then exitFor p (stopAt j.stops i).side else .none
  | _, _ => .none

/-- The side glyph code for a side: nothing for NONE or where the table holds no code (R109). -/
def Panels.sideGlyph (k : Panels) : Side → List Byte
  | .left => k.sideLeft.toList
  | .right => k.sideRight.toList
  | .both => k.sideBoth.toList
  | .none => []

/-- The name codes of stop `i` of the open journey; none where there is no such stop. -/
def Tracker.stopName (t : Tracker) (i : Nat) : List Byte :=
  if i < t.stops.length then (stopAt t.stops i).name else []

/-- Text with its tokens expanded against stop `i` of the open journey: code 254 is its name, code 253 the
side glyph of its local exit side, and each is `closed` with no journey open; cut at 64 codes (R109, R161). -/
def State.expandText (i : Nat) (closed codes : List Byte) (s : State) : List Byte :=
  (codes.flatMap (fun c =>
    if c = 254 then (if s.tracker.journey.isSome then s.tracker.stopName i else closed)
    else if c = 253 then
      (if s.tracker.journey.isSome then s.panels.sideGlyph (s.exitSide i) else closed)
    else [c])).take 64

/-! ## Loads and items -/

/-- Why an owner rejects a load (section 12.8). -/
inductive Cause
  | length | wrongJourney | range | order | kind
  /-- A reservation result, by its code. -/
  | resv (code : Nat)
deriving DecidableEq, Repr

def causeCode : Cause → Nat
  | .length => 1
  | .wrongJourney => 2
  | .range => 3
  | .order => 4
  | .kind => 5
  | .resv code => 16 + code

/-- What an owner answers to a load handed over: committed, or rejected whole with a cause and a record index
(R71, R72). -/
inductive Judged
  | committed (s : State)
  | rejected (cause : Cause) (index : Nat)

/-- A yes/no, set/clear or ON/OFF value, coded 1 and 0 (R200). -/
def flagValue (value : List Byte) : Option Bool :=
  match itemNumber value with
  | some 0 => some false
  | some 1 => some true
  | _ => none

/-- The answer of an item command: its effect, with its result kept (log 6). -/
def answered (a : State × ItemResult) : Out :=
  .next { a.1 with mgmt := { a.1.mgmt with answer := some { result := a.2, values := [] } } }

end Sys2Proof.Machine
end

