-- ==== Sys2Proof/Machine/Journey.lean ====
section
/-! DEFINITION. Chapter 5: the Journey Tracker. -/

namespace Sys2Proof.Machine

open Sys2Proof

/-! ## Loading a journey (section 5.2) -/

/-- The stop record in 34 bytes, its codes read as they stand (section 12.4). -/
def stopOf (bs : List Byte) : Stop :=
  { distance := natAt bs 0 4
    kind := if natAt bs 4 1 = 0 then .stop else .pass
    side := match natAt bs 5 1 with
      | 0 => .left
      | 1 => .right
      | 2 => .both
      | _ => .none
    x := natAt bs 6 2
    y := natAt bs 8 1
    name := slice bs 10 (natAt bs 9 1) }

/-- The RANGE row of R77. -/
def stopInRange (bs : List Byte) : Bool :=
  decide (natAt bs 0 4 ≤ 4194303) && decide (natAt bs 4 1 ≤ 1) && decide (natAt bs 5 1 ≤ 3) &&
  decide (natAt bs 6 2 ≤ 511) && decide (natAt bs 8 1 ≤ 127) &&
  decide (1 ≤ natAt bs 9 1) && decide (natAt bs 9 1 ≤ 24) &&
  (slice bs 10 (natAt bs 9 1)).all (fun c => decide (c ≠ 253) && decide (c ≠ 254))

/-- The checks of the stop records in list order; record `k`, with the distance of the one before it (R77). -/
def checkStops (count : Nat) : Nat → Option Nat → List (List Byte) → Option (Cause × Nat)
  | _, _, [] => none
  | k, before, bs :: rest =>
    if !stopInRange bs then some (.range, k)
    else if (match before with | some d => decide (natAt bs 0 4 ≤ d) | none => false) then some (.order, k)
    else if (k = 1 ∨ k = count) ∧ natAt bs 4 1 ≠ 0 then some (.kind, k)
    else checkStops count (k + 1) (some (natAt bs 0 4)) rest

/-- The stop records of a JOURNEY content. -/
def stopRecords (content : List Byte) (count : Nat) : List (List Byte) :=
  (List.range count).map fun k => slice content (4 + 34 * k) 34

/-- The checks of a JOURNEY content, in their order (R77). -/
def journeyFault (content : List Byte) : Option (Cause × Nat) :=
  let count := natAt content 3 1
  if content.length < 4 ∨ content.length ≠ 4 + 34 * count then some (.length, 0)
  else if natAt content 0 2 = 0 ∨ 1 < natAt content 2 1 ∨ 64 < count then some (.range, 0)
  else checkStops count 1 none (stopRecords content count)

/-- The journey of a content that passes the checks. -/
def journeyOf (content : List Byte) : Journey :=
  { id := natAt content 0 2
    lead := endOfBit (decide (natAt content 2 1 = 1))
    stops := (stopRecords content (natAt content 3 1)).map stopOf }

/-- The tracker with no journey open: the values of R76 and R79. -/
def Tracker.close (t : Tracker) : Tracker :=
  { t with journey := none, state := .idle, c := 0, e := 0, v := 0, motion := .stationary, status := .none,
           tickTimer := false, staleness := none, marker := none }

/-- The tracker with a journey just opened at stop 0 (R78, R98). -/
def Tracker.openAt (j : Journey) (t : Tracker) : Tracker :=
  { t.close with journey := some j, state := .atStop, e := (stopAt j.stops 0).distance * 1000
                 marker := some ((stopAt j.stops 0).x, (stopAt j.stops 0).y) }

/-- What the Reservation Unit keeps of an open journey. -/
def resvJourneyOf (j : Journey) : ResvJourney :=
  { id := j.id, kinds := j.stops.map (·.kind), c := 0, n := nextStop j.stops 0 }

/-- A commit or close is told to the Notice Unit, the Reservation Unit and the Page Composer (R78, R79). -/
def tellJourney (m : ResvMsg) (s : State) : State :=
  markAll
    { s with notices := { s.notices with fromTracker := s.notices.fromTracker ++ [.journeyReset] }
             resv := { s.resv with inbox := s.resv.inbox ++ [m] } }

/-- A JOURNEY load handed over (R77, R78, R79). -/
def loadJourney (content : List Byte) (s : State) : Judged :=
  match journeyFault content with
  | some (c, k) => .rejected c k
  | none =>
    let j := journeyOf content
    if j.stops = [] then .committed (tellJourney .closed { s with tracker := s.tracker.close })
    else
      .committed (tellJourney (.journey (resvJourneyOf j)) { s with tracker := s.tracker.openAt j })

/-! ## The handling (section 5.5) -/

/-- What a handling works on and records (R85). -/
structure Handling where
  state : TrackerState
  c : Nat
  /-- The stops reached, in index order. -/
  reached : List Nat := []
  departed : Option Nat := none
  arrived : Option Nat := none
  firstSkipped : Option Nat := none
  skipped : Nat := 0
deriving DecidableEq, Repr

/-- Whether the train is between stops. -/
def Handling.running (h : Handling) : Bool := decide (h.state = .cruise) || decide (h.state = .approach)

/-- The stops from after `c` up to and including `n`. -/
def stopsUpTo (c n : Nat) : List Nat := (List.range (n - c)).map (c + 1 + ·)

/-- Departure (R86). -/
def Handling.depart (stops : List Stop) (em m : Nat) (moving : Bool) (h : Handling) : Handling :=
  if h.state = .atStop ∧ h.c < lastStop stops ∧ moving ∧ (stopAt stops h.c).distance + m < em then
    { h with state := .cruise, departed := some h.c }
  else h

/-- Passing, at most `fuel` stops (R87). -/
def Handling.pass (stops : List Stop) (em : Nat) : Nat → Handling → Handling
  | 0, h => h
  | fuel + 1, h =>
    if h.running ∧ h.c < lastStop stops ∧ (stopAt stops (h.c + 1)).kind = .pass ∧
        (stopAt stops (h.c + 1)).distance ≤ em then
      Handling.pass stops em fuel { h with c := h.c + 1, reached := h.reached ++ [h.c + 1] }
    else h

/-- Passing and skipping, again and again until neither applies; each turn but the last moves c (R87, R88). -/
def Handling.passAndSkip (stops : List Stop) (em w : Nat) : Nat → Handling → Handling
  | 0, h => h
  | fuel + 1, h =>
    let p := h.pass stops em stops.length
    let n := nextStop stops p.c
    if p.running ∧ p.c < lastStop stops ∧ (stopAt stops n).distance + w < em then
      Handling.passAndSkip stops em w fuel
        { p with c := n, reached := p.reached ++ stopsUpTo p.c n
                 firstSkipped := p.firstSkipped.orElse (fun _ => some n), skipped := p.skipped + 1 }
    else p

/-- The approach test (R89). -/
def Handling.approach (stops : List Stop) (em a : Nat) (h : Handling) : Handling :=
  let d := (stopAt stops (nextStop stops h.c)).distance
  if h.state = .cruise ∧ d ≤ em + a then { h with state := .approach }
  else if h.state = .approach ∧ em + a < d then { h with state := .cruise }
  else h

/-- The arrival at n, of a handling or by door release (R90, R96). -/
def Handling.arrive (stops : List Stop) (h : Handling) : Handling :=
  let n := nextStop stops h.c
  { h with c := n, state := .atStop, reached := h.reached ++ stopsUpTo h.c n, arrived := some n }

/-- Arrival by report: in APPROACH, cause POSITION, STATIONARY, within W of D_n (R90). -/
def Handling.arrival (stops : List Stop) (em w : Nat) (byReport stationary : Bool) (h : Handling) :
    Handling :=
  let d := (stopAt stops (nextStop stops h.c)).distance
  if h.state = .approach ∧ byReport ∧ stationary ∧ em ≤ d + w ∧ d ≤ em + w then h.arrive stops else h

/-- One handling of the stop state machine (R85). -/
def Tracker.handle (byReport : Bool) (stops : List Stop) (t : Tracker) : Handling :=
  let start : Handling := { state := t.state, c := t.c }
  let stationary := decide (t.motion = .stationary)
  let left := start.depart stops t.em t.marginM (!stationary)
  let passed := left.passAndSkip stops t.em t.windowW (stops.length + 1)
  let near := passed.approach stops t.em t.approachA
  near.arrival stops t.em t.windowW byReport stationary

/-- A map coordinate between two stops, the quotient truncated toward zero (R98). -/
def markerCoord (a b progress length : Nat) : Nat :=
  ((a : Int) + (((b : Int) - a) * progress).tdiv length).toNat

/-- The marker point (R98). -/
def Tracker.markerPoint (stops : List Stop) (t : Tracker) : Nat × Nat :=
  let a := stopAt stops t.c
  if t.state = .cruise ∨ t.state = .approach then
    let b := stopAt stops (t.c + 1)
    let length := b.distance - a.distance
    let progress := min (t.em - a.distance) length
    (markerCoord a.x b.x progress length, markerCoord a.y b.y progress length)
  else (a.x, a.y)

/-- The hand-off record of a handling (R105). -/
def handoffOf (t : Tracker) (h : Handling) : Handoff :=
  { em := t.em, c := t.c, n := t.n, reached := h.reached, departed := h.departed, arrived := h.arrived
    state := t.state }

/-- The Page Composer's part of a hand-off: MAP panels for a change of c, of the marker or of the status, NOTICE
panels for a change of n or of its local exit side (R92, R99, R183). -/
def markHandoff (before after : State) : State :=
  let onMap := before.tracker.c ≠ after.tracker.c ∨ before.tracker.marker ≠ after.tracker.marker ∨
    before.tracker.status ≠ after.tracker.status
  let onNotice := before.tracker.n ≠ after.tracker.n ∨
    before.exitSide before.tracker.n ≠ after.exitSide after.tracker.n
  let t := if onMap then markRole .map after else after
  if onNotice then markRole .notice t else t

/-- The Reservation Unit is told of a change of c (R92). -/
def tellAdvance (before : Nat) (s : State) : State :=
  if before = s.tracker.c then s
  else { s with resv := { s.resv with inbox := s.resv.inbox ++ [.advance s.tracker.c s.tracker.n] } }

/-- STOP_SKIPPED, once for a handling that skipped a stop (R88). -/
def reportSkipped (h : Handling) (s : State) : State :=
  match h.firstSkipped with
  | none => s
  | some f =>
    raise .stopSkipped
      (beBytes 2 s.tracker.journeyId ++ [byteOf f, byteOf h.skipped] ++ beBytes 4 s.tracker.em) s

/-- The outcome of a handling or door arrival taken and handed on; `before` is the state the event began with
(R92). -/
def handOn (before : State) (stops : List Stop) (h : Handling) (s : State) : State :=
  let t := { s.tracker with state := h.state, c := h.c }
  let t := { t with marker := some (t.markerPoint stops) }
  let after := { s with
    tracker := t
    notices := { s.notices with fromTracker := s.notices.fromTracker ++ [.handoff (handoffOf t h)] } }
  reportSkipped h (tellAdvance before.tracker.c (markHandoff before after))

/-! ## Position reports and the estimate (sections 5.3 and 5.4) -/

/-- Whether a POSITION is accepted by the open journey (R80). -/
def positionAccepted (f : Frame) (j : Journey) : Bool :=
  decide (f.payload.length = 9) && decide (natAt f.payload 8 1 ≤ 1) &&
  decide (natAt f.payload 0 2 = j.id) && decide (f.origin = j.lead)

/-- What an accepted POSITION sets (R81). -/
def Tracker.report (payload : List Byte) (stops : List Stop) (t : Tracker) : Tracker :=
  let moving := decide (natAt payload 8 1 = 1)
  { t with
    e := clampTo (stopAt stops 0).distance (stopAt stops (lastStop stops)).distance (natAt payload 2 4) * 1000
    motion := if moving then .moving else .stationary
    v := if moving then min (natAt payload 6 2) 10000 else 0
    status := .fresh
    staleness := some t.staleLimit
    tickTimer := true }

/-- TAKE_POSITION (R80, R81). -/
def execTakePosition (s : State) : Out :=
  match s.classifier.position with
  | none => .next s
  | some c =>
    let s := { s with classifier := { s.classifier with position := none } }
    match s.tracker.journey with
    | none => .next s
    | some j =>
      if positionAccepted c.frame j then
        let t := s.tracker.report c.frame.payload j.stops
        .next (handOn s j.stops (t.handle true j.stops) { s with tracker := t })
      else .next s

/-- The hold point H (R83). -/
def Tracker.holdPoint (stops : List Stop) (t : Tracker) : Nat :=
  (stopAt stops (nextStop stops t.c)).distance * 1000

/-- TICK (R82). -/
def execTick (s : State) : Out :=
  match s.tracker.journey with
  | none => .next s
  | some j =>
    let e := min (s.tracker.e + s.tracker.v) (s.tracker.holdPoint j.stops)
    if s.tracker.tickTimer = true ∧ s.tracker.e < e then
      let t := { s.tracker with e := e }
      .next (handOn s j.stops (t.handle false j.stops) { s with tracker := t })
    else .next s

/-- STALENESS_EXPIRY (R84). -/
def execStalenessExpiry (s : State) : Out :=
  match s.tracker.staleness with
  | none => .next s
  | some _ =>
    let t := { s.tracker with status := .stale, staleness := none, tickTimer := false }
    .next (raise .positionStale (beBytes 2 t.journeyId ++ [byteOf t.c] ++ beBytes 4 t.em)
      (markHandoff s { s with tracker := t }))

/-! ## Doors (section 5.6) -/

def Tracker.door (t : Tracker) : DoorId → Door
  | .left => t.doorL
  | .right => t.doorR

def Tracker.setDoor (t : Tracker) (d : DoorId) (x : Door) : Tracker :=
  match d with
  | .left => { t with doorL := x }
  | .right => { t with doorR := x }

/-- A pin takes a level: a change starts the debounce timer, a return to the debounced level stops it (R94). -/
def Door.level (b : Bool) (x : Door) : Door :=
  if x.pin = b then x else { x with pin := b, timer := decide (b ≠ x.debounced) }

/-- DOOR_LEVEL_CHANGE (R94). -/
def execDoorLevelChange (d : DoorId) (level : Bool) (s : State) : Out :=
  .next { s with tracker := s.tracker.setDoor d ((s.tracker.door d).level level) }

/-- Whether an edge is counted by a mode (R94). -/
def DoorMode.counts (m : DoorMode) (rising : Bool) : Bool :=
  match m with
  | .off => false
  | .rising => rising
  | .falling => !rising
  | .both => true

def doorCode : DoorId → Nat
  | .left => 0
  | .right => 1

/-- DOOR_UNEXPECTED, its detail as of `s` (R95). -/
def doorUnexpected (d : DoorId) (rising : Bool) (s : State) : State :=
  raise .doorUnexpected
    ([byteOf (doorCode d), byteOf (bit (!rising)), byteOf (trackerStateCode s.tracker.state),
      byteOf s.tracker.c, byteOf s.tracker.n] ++ beBytes 4 s.tracker.em) s

/-- The edge came from the side on which passengers do not leave (R95). -/
def wrongSide (d : DoorId) : Side → Bool
  | .left => decide (d = .right)
  | .right => decide (d = .left)
  | _ => false

/-- An arrival by door release (R96). -/
def doorArrival (stops : List Stop) (s : State) : State :=
  let t := { s.tracker with motion := .stationary, v := 0 }
  handOn s stops (Handling.arrive stops { state := t.state, c := t.c }) { s with tracker := t }

/-- A counted edge judged against the tracker state (R95). -/
def judgeEdge (d : DoorId) (rising : Bool) (s : State) : State :=
  match s.tracker.journey with
  | none => s
  | some j =>
    match s.tracker.state with
    | .idle => s
    | .atStop => s
    | .cruise => doorUnexpected d rising s
    | .approach =>
      if s.tracker.em + s.tracker.windowW < (stopAt j.stops s.tracker.n).distance then
        doorUnexpected d rising s
      else
        doorArrival j.stops
          (if wrongSide d (s.exitSide s.tracker.n) then doorUnexpected d rising s else s)

/-- DEBOUNCE_EXPIRY (R94, R95). -/
def execDebounceExpiry (d : DoorId) (s : State) : Out :=
  let x := s.tracker.door d
  if x.timer then
    let t := { s with tracker := s.tracker.setDoor d { x with timer := false, debounced := x.pin } }
    .next (if x.pin ≠ x.debounced ∧ x.mode.counts x.pin then judgeEdge d x.pin t else t)
  else .next s

/-- The mode a value names (R205). -/
def doorModeOf : Nat → Option DoorMode
  | 0 => some .off
  | 1 => some .rising
  | 2 => some .falling
  | 3 => some .both
  | _ => none

/-- A write item of DOORS (R94). -/
def writeDoors (index : Nat) (value : List Byte) (s : State) : State × ItemResult :=
  if 2 ≤ index then (s, .badIndex)
  else if s.mgmt.locked then (s, .locked)
  else
    match (itemNumber value).bind doorModeOf with
    | none => (s, .badValue)
    | some m =>
      let d : DoorId := if index = 0 then .left else .right
      ({ s with tracker := s.tracker.setDoor d { s.tracker.door d with mode := m } }, .ok)

/-- DOORS_WRITE (R94). -/
def execDoorsWrite (index : Byte) (value : List Byte) (s : State) : Out :=
  answered (writeDoors index.toNat value s)

end Sys2Proof.Machine
end

