-- ==== Sys2Proof/Machine/Notices.lean ====
section
/-! DEFINITION. Chapter 6: the Notice Unit. -/

namespace Sys2Proof.Machine

open Sys2Proof

/-! ## The notice queue (section 6.5) -/

/-- Starts the dwell timer of the head, when there is one and the timer is not running (R114). -/
def startDwell (u : NoticeUnit) : NoticeUnit :=
  match u.queue, u.dwell with
  | h :: _, none => { u with dwell := some h.dwell }
  | _, _ => u

/-- The queue takes a new content. When the head has changed, or the queue has become empty, the timer stops,
the timer of the new head starts if no NOTICE panel is enabled, and every NOTICE panel is marked dirty (R111,
R114). -/
def setQueue (q : List Notice) (s : State) : State :=
  let t := { s with notices := { s.notices with queue := q } }
  if q.head?.map (·.number) = s.notices.queue.head?.map (·.number) then t
  else
    let u := { t.notices with dwell := none }
    markRole .notice { t with notices := if s.panels.anyNotice then u else startDwell u }

/-- A notice of kind NEXT_STOP or ARRIVING supersedes every queued entry of its kind (R112). -/
def supersede (k : NoticeKind) (s : State) : State :=
  match k with
  | .nextStop => setQueue (s.notices.queue.filter (fun e => decide (e.kind ≠ .nextStop))) s
  | .arriving => setQueue (s.notices.queue.filter (fun e => decide (e.kind ≠ .arriving))) s
  | .connection => s
  | .custom => s

/-- NOTICE_DROPPED for a notice lost; reason 0 FULL, 1 DISPLACED (R113). -/
def noticeDropped (reason : Nat) (n : Notice) (s : State) : State :=
  raise .noticeDropped
    [byteOf reason, byteOf (noticeKindCode n.kind), byteOf (priorityCode n.priority),
     byteOf (noticeSourceCode n.source), byteOf (n.target.getD 255)] s

/-- A newcomer among the WAITING entries: after every one of its own or higher priority (R111). -/
def insertWaiting (n : Notice) (waiting : List Notice) : List Notice :=
  match n.priority with
  | .normal => waiting ++ [n]
  | .urgent =>
    waiting.filter (fun e => decide (e.priority = .urgent)) ++ [n] ++
      waiting.filter (fun e => decide (e.priority = .normal))

/-- A notice placed with the next entry number (R111). -/
def placeNotice (n : Notice) (s : State) : State :=
  let number := s.notices.count + 1
  let m := { n with number := number }
  let t := { s with notices := { s.notices with count := number } }
  match t.notices.queue with
  | [] => setQueue [m] t
  | h :: waiting => setQueue (h :: insertWaiting m waiting) t

/-- The waiting list split at its last NORMAL entry, the most recently entered (R113). -/
def splitNormal : List Notice → Option (List Notice × Notice × List Notice)
  | [] => none
  | e :: es =>
    match splitNormal es with
    | some (a, x, b) => some (e :: a, x, b)
    | none => if e.priority = .normal then some ([], e, es) else none

/-- A newcomer that finds 8 entries (R113). -/
def displace (n : Notice) (s : State) : State :=
  match n.priority, s.notices.queue with
  | .urgent, h :: waiting =>
    match splitNormal waiting with
    | some (a, x, b) => placeNotice n (noticeDropped 1 x (setQueue (h :: (a ++ b)) s))
    | none => noticeDropped 0 n s
  | _, _ => noticeDropped 0 n s

/-- A notice offered to the queue (R111, R112, R113). -/
def offerNotice (n : Notice) (s : State) : State :=
  let t := supersede n.kind s
  if t.notices.queue.length < 8 then placeNotice n t else displace n t

/-! ## Firing (section 6.3) -/

/-- Trigger entry `k` fires: it becomes FIRED and its notice is offered (R108). -/
def fireTrigger (k : Nat) (s : State) : State :=
  match s.notices.table[k]? with
  | none => s
  | some e =>
    let t := { s with notices := { s.notices with
      table := updAt k (fun e => { e with state := .fired }) s.notices.table } }
    offerNotice
      { number := 0, kind := e.trigger.kind, target := some e.trigger.stop
        text := s.expandText e.trigger.stop [] e.trigger.text
        dwell := e.trigger.dwell, priority := e.trigger.priority, source := .trigger } t

/-- The places of the entries that are ARMED and satisfy a test, in table order. -/
def armedWhere (test : Trigger → Bool) (table : List TriggerEntry) : List Nat :=
  (List.range table.length).filter fun k =>
    match table[k]? with
    | some e => decide (e.state = .armed) && test e.trigger
    | none => false

/-- Fires entries one after another. -/
def fireAll (ks : List Nat) (s : State) : State := ks.foldl (fun s k => fireTrigger k s) s

/-- The threshold T of a trigger: D_s − o, or 0 when that is below 0 (R104). -/
def Trigger.threshold (stops : List Stop) (t : Trigger) : Nat := (stopAt stops t.stop).distance - t.offset

/-- An entry's place put among others by ascending threshold, after those of equal threshold (R107). -/
def insertByThreshold (T : Nat → Nat) (k : Nat) : List Nat → List Nat
  | [] => [k]
  | j :: js => if T k < T j then k :: j :: js else j :: insertByThreshold T k js

/-- Places in ascending order of threshold, equal ones in table order (R107). -/
def byThreshold (T : Nat → Nat) (ks : List Nat) : List Nat :=
  ks.foldl (fun acc k => insertByThreshold T k acc) []

/-- Whether step 3 voids an ARMED entry (R106). -/
def voided (c : Nat) (st : TrackerState) (t : Trigger) : Bool :=
  match t.event with
  | .departure => decide (t.stop < c) || (decide (t.stop = c) && decide (st ≠ .atStop))
  | .distance => decide (t.stop ≤ c)
  | .arrival => decide (t.stop ≤ c)

/-- Step 3 of a hand-off (R106). -/
def voidEntry (c : Nat) (st : TrackerState) (e : TriggerEntry) : TriggerEntry :=
  if e.state = .armed ∧ voided c st e.trigger then { e with state := .void } else e

/-- Steps 1 and 2 of a hand-off: the entries of an event of a stop fire (R105). -/
def fireEvent (ev : TriggerEvent) (stop : Option Nat) (s : State) : State :=
  match stop with
  | none => s
  | some d =>
    fireAll (armedWhere (fun t => decide (t.event = ev) && decide (t.stop = d)) s.notices.table) s

/-- Step 3 on the table. -/
def voidTable (h : Handoff) (s : State) : State :=
  { s with notices := { s.notices with table := s.notices.table.map (voidEntry h.c h.state) } }

/-- Step 4: the DISTANCE entries whose threshold is E_m or less fire in ascending order of threshold (R107). An
entry of a stop that the open journey does not have has no threshold (log 24). DESIGN CHOICE (log 50): D_s is that
of the journey open when the hand-off is taken, also for a hand-off made before a JOURNEY commit and taken between
that commit and its reset (R104). -/
def fireDistance (em : Nat) (s : State) : State :=
  let stops := s.tracker.stops
  let crossed := armedWhere
    (fun t => decide (t.event = .distance) && decide (t.stop < stops.length) &&
      decide (t.threshold stops ≤ em)) s.notices.table
  fireAll (byThreshold
    (fun k => match s.notices.table[k]? with
      | some e => e.trigger.threshold stops
      | none => 0) crossed) s

/-- A hand-off acted on, in its four steps (R105). -/
def actHandoff (h : Handoff) (s : State) : State :=
  fireDistance h.em (voidTable h (fireEvent .arrival h.arrived (fireEvent .departure h.departed s)))

/-- A JOURNEY commit or close acted on: table and queue emptied, the timer stopped (R103). -/
def actJourneyReset (s : State) : State :=
  setQueue [] { s with notices := { s.notices with table := [], dwell := none } }

/-- A message of the Journey Tracker acted on. -/
def actTracker (m : TrackerMsg) (s : State) : State :=
  match m with
  | .handoff h => actHandoff h s
  | .journeyReset => actJourneyReset s

/-- The messages of the Journey Tracker that are left. -/
def setFromTracker (q : List TrackerMsg) (s : State) : State :=
  { s with notices := { s.notices with fromTracker := q } }

/-- NOTICE_JOURNEY_RESET (R103). -/
def execNoticeJourneyReset (s : State) : Out :=
  match s.notices.fromTracker with
  | .journeyReset :: rest => .next (actJourneyReset (setFromTracker rest s))
  | _ => .next s

/-- NOTICE_HANDOFF (R105). -/
def execNoticeHandoff (s : State) : Out :=
  match s.notices.fromTracker with
  | .handoff h :: rest => .next (actHandoff h (setFromTracker rest s))
  | _ => .next s

/-! ## Immediate notices (section 6.4) -/

/-- The notice of a NOTICE payload, its text not yet expanded; none for a payload that is discarded (R110). -/
def noticeOf (payload : List Byte) : Option Notice :=
  if payload.length < 3 ∨ payload.length ≠ 3 + natAt payload 2 1 ∨ 1 < natAt payload 0 1 then none
  else
    some { number := 0, kind := .custom, target := none, text := (payload.drop 3).take 64
           dwell := max 1 (natAt payload 1 1)
           priority := if natAt payload 0 1 = 0 then .normal else .urgent, source := .immediate }

/-- TAKE_NOTICE (R109, R110). -/
def execTakeNotice (s : State) : Out :=
  match s.classifier.notice with
  | [] => .next s
  | c :: rest =>
    let s := { s with classifier := { s.classifier with notice := rest } }
    match noticeOf c.frame.payload with
    | none => .next s
    | some n => .next (offerNotice { n with text := s.expandText s.tracker.n [] n.text } s)

/-! ## Dwell (section 6.6) -/

/-- DWELL_EXPIRY (R115). -/
def execDwellExpiry (s : State) : Out :=
  match s.notices.dwell with
  | none => .next s
  | some _ => .next (setQueue s.notices.queue.tail s)

/-- The messages of the Panel Unit that are left. -/
def setFromPanels (q : List PanelMsg) (s : State) : State :=
  { s with notices := { s.notices with fromPanels := q } }

/-- NOTICE_FLIP_REPORT (R114). -/
def execNoticeFlipReport (s : State) : Out :=
  match s.notices.fromPanels with
  | .flipped tag enabled :: rest =>
    let t := setFromPanels rest s
    .next (if enabled ∧ tag.isSome ∧ tag = t.notices.queue.head?.map (·.number) then
        { t with notices := startDwell t.notices }
      else t)
  | _ => .next s

/-- NOTICE_ENABLE_CHANGE (R114): when no NOTICE panel was left enabled, the head's timer starts. -/
def execNoticeEnableChange (s : State) : Out :=
  match s.notices.fromPanels with
  | .enableChange noneEnabled :: rest =>
    let t := setFromPanels rest s
    .next (if noneEnabled then { t with notices := startDwell t.notices } else t)
  | _ => .next s

/-! ## Loading triggers (section 6.2) -/

/-- The trigger record in 72 bytes (section 12.4). -/
def triggerOf (bs : List Byte) : Trigger :=
  { stop := natAt bs 0 1
    event := match natAt bs 1 1 with
      | 0 => .distance
      | 1 => .arrival
      | _ => .departure
    offset := natAt bs 2 2
    kind := match natAt bs 4 1 with
      | 0 => .nextStop
      | 1 => .arriving
      | 2 => .connection
      | _ => .custom
    priority := if natAt bs 5 1 = 0 then .normal else .urgent
    dwell := natAt bs 6 1
    text := slice bs 8 (natAt bs 7 1) }

/-- The RANGE checks of a trigger record (R101). -/
def triggerInRange (stops : List Stop) (bs : List Byte) : Bool :=
  decide (natAt bs 0 1 < stops.length) && decide (natAt bs 1 1 ≤ 2) && decide (natAt bs 4 1 ≤ 3) &&
  decide (natAt bs 5 1 ≤ 1) && decide (1 ≤ natAt bs 6 1) && decide (natAt bs 7 1 ≤ 64)

/-- The checks of the trigger records in load order (R101). -/
def checkTriggers (stops : List Stop) : Nat → List (List Byte) → Option (Cause × Nat)
  | _, [] => none
  | k, bs :: rest =>
    if !triggerInRange stops bs then some (.range, k)
    else if natAt bs 1 1 ≠ 0 ∧ (stopAt stops (natAt bs 0 1)).kind ≠ .stop then some (.kind, k)
    else checkTriggers stops (k + 1) rest

/-- The trigger records of a TRIGGERS content. -/
def triggerRecords (content : List Byte) : List (List Byte) :=
  (List.range (natAt content 2 1)).map fun k => slice content (3 + 72 * k) 72

/-- The checks of a TRIGGERS content, in their order (R101). -/
def triggersFault (content : List Byte) (journey : Option Journey) : Option (Cause × Nat) :=
  if content.length < 3 ∨ content.length ≠ 3 + 72 * natAt content 2 1 then some (.length, 0)
  else if 128 < natAt content 2 1 then some (.range, 0)
  else
    match journey with
    | none => some (.wrongJourney, 0)
    | some j =>
      if natAt content 0 2 ≠ j.id then some (.wrongJourney, 0)
      else checkTriggers j.stops 1 (triggerRecords content)

/-- An entry of a table just committed, set against c and the tracker state (R102). -/
def armEntry (c : Nat) (st : TrackerState) (t : Trigger) : TriggerEntry :=
  { trigger := t
    state :=
      if c < t.stop ∨ (t.event = .departure ∧ t.stop = c ∧ st = .atStop) then .armed else .void }

/-- The messages up to and including the last journey reset, and those after it. -/
def splitReset : List TrackerMsg → Option (List TrackerMsg × List TrackerMsg)
  | [] => none
  | m :: ms =>
    match splitReset ms with
    | some (a, b) => some (m :: a, b)
    | none => if m = .journeyReset then some ([m], ms) else none

/-- The Notice Unit acts on what it was told before and with the last commit or close, so that a load handed
over after a commit meets the state the commit left (R63, R103, log 4). -/
def catchUpNotices (s : State) : State :=
  match splitReset s.notices.fromTracker with
  | none => s
  | some (past, rest) => past.foldl (fun s m => actTracker m s) (setFromTracker rest s)

/-- A TRIGGERS load handed over (R101, R102). -/
def loadTriggers (content : List Byte) (s : State) : Judged :=
  match triggersFault content s.tracker.journey with
  | some (c, k) => .rejected c k
  | none =>
    .committed { s with notices := { s.notices with
      table := (triggerRecords content).map
        (fun bs => armEntry s.tracker.c s.tracker.state (triggerOf bs)) } }

/-- The soft reset effects at the Notice Unit: all emptied but the entry count (R100). -/
def NoticeUnit.softReset (u : NoticeUnit) : NoticeUnit := { count := u.count }

end Sys2Proof.Machine
end

