-- ==== Sys2Proof/Machine/Raster.lean ====
section
/-! DEFINITION. Chapter 9: the Raster Engine, its units of work, its arbiter, and its commands. -/

namespace Sys2Proof.Machine

open Sys2Proof

/-! ## Pixels (section 9.1.1) -/

/-- A pixel is in the panel (R149). -/
def Panel.holds (x : Panel) (px py : Int) : Bool :=
  decide (0 ≤ px) && decide (px < x.config.width) && decide (0 ≤ py) && decide (py < x.config.height)

/-- A pixel is in the record's clip rectangle (R149). -/
def Record.inClip (r : Record) (px py : Int) : Bool :=
  decide (r.clipX ≤ px) && decide (px < r.clipX + r.clipW) &&
    decide (r.clipY ≤ py) && decide (py < r.clipY + r.clipH)

/-- The value a raster op gives from the source colour and the present value (R150). -/
def rasterOp (rop : Byte) (src old : Pixel) : Pixel :=
  match rop.toNat with
  | 0 => src
  | 1 => src ||| old
  | 2 => src &&& old
  | 3 => src ^^^ old
  | 4 => 15 - old
  | _ => old

/-- The source colour of a colour byte, 0..15 (R150, log 10). -/
def sourceColour (c : Byte) : Pixel :=
  if c.toNat ≤ 15 then BitVec.ofNat 4 c.toNat else Config.wideColour c

/-- A pixel of a page. -/
def Page.at' (g : Page) (px py : Int) : Pixel := g.pixels.get (pixelAddr px.toNat py.toNat)

/-- A pixel of the back page written under a raster op (R149, R150). -/
def Panel.write (rop : Byte) (c : Pixel) (px py : Int) (x : Panel) : Panel :=
  { x with back := { x.back with
      pixels := x.back.pixels.set (pixelAddr px.toNat py.toNat) (rasterOp rop c (x.back.at' px py)) } }

/-- A pixel of a record: written when in the panel and in the clip, else clipped (R149). -/
def Panel.plot (r : Record) (c : Pixel) (px py : Int) (x : Panel) : Panel :=
  if x.holds px py && r.inClip px py then x.write r.rop c px py else x

/-! ## Units of work -/

/-- Bit (i, j) of a glyph bitmap: rows of ceil(width / 8) bytes, leftmost pixel bit 7 (section 12.5). -/
def glyphBit (width : Nat) (bitmap : List Byte) (i j : Nat) : Bool :=
  (byteAt bitmap (j * ((width + 7) / 8) + i / 8)).getLsbD (7 - i % 8)

/-- The bitmap of a code; none held, or a code of 253 or more, is blank (R159). -/
def Font.bitmap (f : Font) (code : Nat) : List Byte :=
  if 253 ≤ code then [] else ((f.bitmaps.find? (fun b => b.1 = code)).map (·.2)).getD []

/-- The font a byte names, as the glyph store stands. -/
def fontOf (fonts : List (Option Font)) (b : Byte) : Option Font := fonts.getD b.toNat none

/-- The pixels of one glyph cell with its top-left at (ox, oy), row by row (R159). -/
def glyphJobs (r : Record) (f : Font) (code : Byte) (ox oy : Int) (fg bg : Byte) (transparent : Bool) :
    List (Panel → Panel) :=
  (List.range f.height).flatMap fun j =>
    (List.range f.width).map fun i =>
      if glyphBit f.width (f.bitmap code.toNat) i j then
        Panel.plot r (sourceColour fg) (ox + i) (oy + j)
      else if transparent then id
      else Panel.plot r (sourceColour bg) (ox + i) (oy + j)

/-- The pixel of step `i` of a line, its minor coordinate rounded to nearest with halves down (R153). -/
def LineRun.point (l : LineRun) (i : Nat) : Int × Int :=
  let dx := l.x1 - l.x0
  let dy := l.y1 - l.y0
  let span : Int := max dx.natAbs dy.natAbs
  let minor (m0 dm : Int) : Int := m0 + -((span - 2 * dm * i) / (2 * span))
  if dy.natAbs ≤ dx.natAbs then (l.x0 + dx.sign * i, minor l.y0 dy)
  else (minor l.x0 dx, l.y0 + dy.sign * i)

/-- A record's clip mode: that of a LINE, and INSIDE for a CONTINUE (R154, R157). -/
def Record.clipMode (r : Record) : Nat :=
  match r.body with
  | .line _ _ _ _ _ _ _ _ mode => mode.toNat
  | _ => 0

/-- Whether the clip mode lets a considered pixel with bit 1 be written (table of R154). -/
def Panel.lineWrites (r : Record) (px py : Int) (x : Panel) : Bool :=
  x.holds px py &&
    (match r.clipMode with | 0 => r.inClip px py | 1 => !r.inClip px py | _ => true)

/-- The considering of the line's next pixel (R153, R154). -/
def Panel.consider (r : Record) (l : LineRun) (x : Panel) : Panel :=
  let pt := l.point l.step
  if l.pattern.getLsbD l.position && x.lineWrites r pt.1 pt.2 then
    x.write l.rop (sourceColour l.colour) pt.1 pt.2
  else x

/-- The pattern position after one considered pixel (R154). -/
def nextPosition (p : Nat) : Nat := if p = 0 then 15 else p - 1

/-- Whether the line's next pixel is in the panel and in the clip rectangle (R155). -/
def Panel.nextInside (r : Record) (l : LineRun) (x : Panel) : Bool :=
  let pt := l.point l.step
  x.holds pt.1 pt.2 && r.inClip pt.1 pt.2

/-- The line after its next pixel has been considered. -/
def LineRun.next (inside : Bool) (l : LineRun) : LineRun :=
  { l with step := l.step + 1, left := l.left - 1, position := nextPosition l.position,
           inside := some inside }

/-- Whether the line halts before its next pixel: it would step from inside to outside (R155). -/
def Panel.halts (r : Record) (l : LineRun) (x : Panel) : Bool :=
  l.clipStop && decide (l.inside = some true) && !x.nextInside r l

/-- The rows a record takes. -/
def Body.rows : Body → Nat
  | .fillRect _ _ _ h => h
  | .trapezoid yTop yBot _ _ _ _ => (yBot - yTop + 1).toNat
  | .copyPage _ _ _ _ h _ _ => h
  | _ => 0

/-- The pixels of the row of a FILL_RECT, TRAPEZOID or page copy that comes after `done` rows (R152, R158,
R160). -/
def rowJobs (r : Record) (x : Panel) (done : Nat) : List (Panel → Panel) :=
  match r.body with
  | .fillRect x0 y0 w _ =>
    (List.range w).map fun i => Panel.plot r (sourceColour r.colour) (x0 + i) (y0 + done)
  | .trapezoid yTop _ xl xr sl sr =>
    (List.range x.config.width).map fun i =>
      if xl + done * sl ≤ 256 * (i : Int) ∧ 256 * (i : Int) ≤ xr + done * sr then
        Panel.plot r (sourceColour r.colour) i (yTop + done)
      else id
  | .copyPage page sx sy w h dx dy =>
    let k : Nat := if sy < dy then h - 1 - done else done
    let offsets := if sx < dx then (List.range w).reverse else List.range w
    offsets.map fun i x =>
      if x.holds (sx + i) (sy + k) then
        x.plot r ((if page = 0 then x.shown else x.back).at' (sx + i) (sy + k)) (dx + i) (dy + k)
      else x
  | _ => []

/-- The font a record draws its glyphs from, as the glyph store stands; none for a record without glyphs. -/
def Record.fontIn (r : Record) (fonts : List (Option Font)) : Option Font :=
  match r.body with
  | .copyGlyph font _ _ _ _ _ _ => fontOf fonts font
  | .text font _ _ _ _ _ _ => fontOf fonts font
  | _ => none

/-- What the next unit of work does to the panel, pixel by pixel; a glyph is drawn from the font `cell`. -/
def unitJobs (cell : Option Font) (r : Record) (x : Panel) : Work → List (Panel → Panel)
  | .rows done => rowJobs r x done
  | .line l => [Panel.consider r l]
  | .glyph _ =>
    match r.body with
    | .copyGlyph _ code ox oy fg bg transparent =>
      match cell with
      | some f => glyphJobs r f code ox oy fg bg transparent
      | none => []
    | _ => []
  | .text [] _ => []
  | .text (c :: _) cursor =>
    match r.body with
    | .text _ _ oy fg bg transparent _ =>
      match cell with
      | some f => glyphJobs r f c cursor oy fg bg transparent
      | none => []
    | _ => []

/-- The working state after the next unit of work; the cursor of a TEXT moves by the width of the font `cell`
that the unit was drawn from (R161). -/
def nextWork (cell : Option Font) (r : Record) (x : Panel) : Work → Work
  | .rows done => .rows (done + 1)
  | .line l => .line (l.next (x.nextInside r l))
  | .glyph _ => .glyph true
  | .text [] cursor => .text [] cursor
  | .text (_ :: cs) cursor =>
    match cell with
    | some f => .text cs (cursor + f.width)
    | none => .text cs cursor

/-- The record has reached its end: no work is left, or its line halts (R155). -/
def finished (r : Record) (x : Panel) : Work → Bool
  | .rows done => decide (r.body.rows ≤ done)
  | .line l => decide (l.left = 0) || x.halts r l
  | .glyph d => d
  | .text cs _ => cs.isEmpty

/-- A bound on the units that are left. -/
def unitsLeft (r : Record) : Work → Nat
  | .rows done => r.body.rows - done
  | .line l => l.left
  | .glyph _ => 1
  | .text cs _ => cs.length

/-- Applies a run of pixel jobs. -/
def applyJobs (jobs : List (Panel → Panel)) (x : Panel) : Panel := jobs.foldl (fun x f => f x) x

/-- The font a glyph is drawn from: the one held for the glyph under way, else that of the glyph store as it
stands when the glyph begins (R161, R179). -/
def Record.cell (r : Record) (fonts : List (Option Font)) (held : Option Font) : Option Font :=
  held.orElse fun _ => r.fontIn fonts

/-- Completes up to `n` units of work, the first from its pixel `part` and in its font `held`, and stops at the
record's end. -/
def runUnits (fonts : List (Option Font)) (r : Record) :
    Nat → Nat → Option Font → Panel → Work → Panel × Work
  | 0, _, _, x, w => (x, w)
  | n + 1, part, held, x, w =>
    if finished r x w then (x, w)
    else
      let cell := r.cell fonts held
      runUnits fonts r n 0 none (applyJobs ((unitJobs cell r x w).drop part) x) (nextWork cell r x w)

/-- How far a record has got where another event meets it: the panel, the working state, the pixels done of the
unit under way, and the font that unit is drawn from. -/
structure Met where
  panel : Panel
  work : Work
  part : Nat
  cell : Option Font
deriving DecidableEq, Repr

/-- Completes up to `n` units of work and `k` pixels of the next, and never the last of them: the record is
still running (log 7). -/
def runPart (fonts : List (Option Font)) (r : Record) : Nat → Nat → Nat → Option Font → Panel → Work → Met
  | 0, k, part, held, x, w =>
    if finished r x w then ⟨x, w, part, held⟩
    else
      let cell := r.cell fonts held
      let jobs := (unitJobs cell r x w).drop part
      let m := min k (jobs.length - 1)
      ⟨applyJobs (jobs.take m) x, w, part + m, if part + m = 0 then none else cell⟩
  | n + 1, k, part, held, x, w =>
    if finished r x w then ⟨x, w, part, held⟩
    else
      let cell := r.cell fonts held
      let x' := applyJobs ((unitJobs cell r x w).drop part) x
      let w' := nextWork cell r x w
      if finished r x' w' then ⟨x, w, part, held⟩ else runPart fonts r n k 0 none x' w'

/-! ## Starting and ending a record -/

/-- The panel a record targets. -/
def Record.target (r : Record) : Option PanelId := panelOfNat r.panel.toNat

/-- The panel of a record that has passed the check of its target. -/
def Record.panelId (r : Record) : PanelId := r.target.getD .p0

/-- The results of R167. -/
inductive DrawResult | done | clipped | refused | aborted
deriving DecidableEq, Repr

def drawResultCode : DrawResult → Nat
  | .done => 0
  | .clipped => 1
  | .refused => 2
  | .aborted => 3

/-- An in-band record that ends CLIPPED, REFUSED or ABORTED raises DRAW_EVENT (R167). -/
def reportDraw (src : DrawSource) (r : Record) (res : DrawResult) (s : State) : State :=
  if src = .inBand ∧ res ≠ .done then
    raise .drawEvent [byteOf (bodyCode r.body), byteOf (drawResultCode res), r.panel] s
  else s

/-- Every coded field of the record holds one of its values (R151, section 12.6). -/
def Record.coded (r : Record) : Bool :=
  match r.body with
  | .cont => true
  | .flip => true
  | .line _ _ _ _ _ _ _ _ mode => decide (r.rop.toNat ≤ 5) && decide (mode.toNat ≤ 2)
  | .copyPage page _ _ _ _ _ _ => decide (r.rop.toNat ≤ 5) && decide (page.toNat ≤ 1)
  | .copyOther _ => false
  | .text _ _ _ _ _ _ codes => decide (r.rop.toNat ≤ 5) && decide (codes.length ≤ 64)
  | _ => decide (r.rop.toNat ≤ 5)

/-- The check of R151 that belongs to the record's kind. -/
def Record.kindOk (r : Record) (s : State) : Bool :=
  match r.body with
  | .trapezoid yTop yBot _ _ _ _ => decide (yTop ≤ yBot)
  | .copyGlyph font _ _ _ _ _ _ => (fontOf s.panels.fonts font).isSome
  | .text font _ _ _ _ _ _ => (fontOf s.panels.fonts font).isSome
  | .cont =>
    match s.engine.heldLine with
    | some h => decide (h.panel = r.panel)
    | none => false
  | _ => true

/-- The target panel is 0..3, and FREE for an in-band record (R151). -/
def Record.targetOk (src : DrawSource) (r : Record) (s : State) : Bool :=
  match r.target with
  | none => false
  | some p => decide (src = .composer) || decide ((s.panel p).config.role = .free)

/-- The start checks of R151. -/
def startOk (src : DrawSource) (r : Record) (s : State) : Bool :=
  r.targetOk src s && r.coded && r.kindOk s

/-- The pattern position of a source (R154). -/
def Engine.patternOf (e : Engine) : DrawSource → Nat
  | .composer => e.composerPattern
  | .inBand => e.inBandPattern

/-- Leaves a source's pattern position (R154). -/
def Engine.setPattern (e : Engine) (src : DrawSource) (k : Nat) : Engine :=
  match src with
  | .composer => { e with composerPattern := k }
  | .inBand => { e with inBandPattern := k }

/-- The working state of a LINE at its start (R153, R154, R155). A line that considers no pixel, of D = 0 with
OMIT_LAST, keeps the pattern position it finds, PATTERN_RESET or not (R154). -/
def lineStart (src : DrawSource) (r : Record) (position : Nat) (x0 y0 x1 y1 : Int) (pattern : BitVec 16)
    (patternReset omitLast clipStop : Bool) (mode : Byte) : LineRun :=
  let span := max (x1 - x0).natAbs (y1 - y0).natAbs
  { x0, y0, x1, y1, rop := r.rop, colour := r.colour, pattern, omitLast
    step := 0
    left := if omitLast then span else span + 1
    position := if patternReset ∧ ¬ (omitLast ∧ span = 0) then 15 else position
    inside := none
    clipStop := clipStop && decide (src = .inBand) && decide (mode = 0) }

/-- The working state of a CONTINUE at its start: the held line's (R157). -/
def HeldLine.resume (h : HeldLine) : LineRun :=
  { x0 := h.x0, y0 := h.y0, x1 := h.x1, y1 := h.y1, rop := h.rop, colour := h.colour
    pattern := h.pattern, omitLast := h.omitLast, step := h.step, left := h.left
    position := h.position, inside := none, clipStop := true }

/-- The working state of a record at its start. -/
def beginWork (src : DrawSource) (r : Record) (s : State) : Work :=
  match r.body with
  | .line x0 y0 x1 y1 pattern patternReset omitLast clipStop mode =>
    .line (lineStart src r (s.engine.patternOf src) x0 y0 x1 y1 pattern patternReset omitLast clipStop mode)
  | .cont =>
    match s.engine.heldLine with
    | some h => .line h.resume
    | none => .rows 0
  | .copyGlyph _ _ _ _ _ _ _ => .glyph false
  | .text _ x _ _ _ _ codes =>
    .text (if src = .inBand then s.expandText s.tracker.n [255] codes else codes) x
  | _ => .rows 0

/-- Whether the record is a LINE. -/
def Body.isLine : Body → Bool
  | .line _ _ _ _ _ _ _ _ _ => true
  | _ => false

/-- A FLIP marks its panel flip-pending; on a panel that is not enabled the flip completes at once (R162,
R177). -/
def markFlip (p : PanelId) (s : State) : State :=
  let s := s.setPanel p { s.panel p with flipPending := true }
  if (s.panel p).enabled then s else completeFlip p s

/-- A record taken from the head of its queue: it starts, or ends REFUSED (R151); a FLIP ends in the event it
starts (R162); an in-band LINE that starts clears the continuation record (R156). -/
def startRecord (src : DrawSource) (r : Record) (s : State) : State :=
  if startOk src r s then
    match r.body with
    | .flip => markFlip r.panelId s
    | _ =>
      { s with engine := { s.engine with
          running := some { source := src, record := r, work := beginWork src r s }
          heldLine := if src = .inBand ∧ r.body.isLine then none else s.engine.heldLine } }
  else reportDraw src r .refused s

/-- The pattern position that a record leaves when it ends (R154). -/
def Engine.leavePattern (e : Engine) (src : DrawSource) : Work → Engine
  | .line l => e.setPattern src l.position
  | _ => e

/-- The suspended record leaves the slot: it runs again, or ends REFUSED when its panel is no longer FREE or its
role-change mark is set (R166). -/
def resumeRecord (u : Running) (s : State) : State :=
  if (s.panel u.record.panelId).config.role = .free ∧ u.roleChanged = false then
    { s with engine := { s.engine with suspended := none, running := some u } }
  else
    reportDraw u.source u.record .refused
      { s with engine := { s.engine with suspended := none }.leavePattern u.source u.work }

/-- No flip is pending on the record's target; a target outside 0..3 has none (R164). -/
def flipFree (r : Record) (s : State) : Bool :=
  match r.target with
  | some p => !(s.panel p).flipPending
  | none => true

/-- One choice of the engine arbiter, or none when a record runs or no candidate qualifies (R164). -/
def chooseOnce (s : State) : Option State :=
  match s.engine.running with
  | some _ => none
  | none =>
    match s.engine.composerQ with
    | r :: rest =>
      if flipFree r s then
        some (startRecord .composer r { s with engine := { s.engine with composerQ := rest } })
      else none
    | [] =>
      match s.engine.suspended with
      | some u => if flipFree u.record s then some (resumeRecord u s) else none
      | none =>
        match s.engine.inBandQ with
        | r :: rest =>
          if flipFree r s then
            some (startRecord .inBand r { s with engine := { s.engine with inBandQ := rest } })
          else none
        | [] => none

/-- The arbiter's choices one after another, at most `fuel` of them. -/
def chooseLoop : Nat → State → State
  | 0, s => s
  | fuel + 1, s =>
    match chooseOnce s with
    | none => s
    | some s' => chooseLoop fuel s'

/-- Runs the engine arbiter until a record runs or none qualifies: each choice takes one record out of the
queues and the slot. During a drain an idle engine says so (R164, R169). -/
def runEngine (s : State) : State :=
  noteEngineIdle (chooseLoop (s.engine.composerQ.length + s.engine.inBandQ.length + 2) s)

/-- The continuation record of a halted line (R155). -/
def heldOf (r : Record) (l : LineRun) : HeldLine :=
  { panel := r.panel, x0 := l.x0, y0 := l.y0, x1 := l.x1, y1 := l.y1, rop := l.rop, colour := l.colour
    pattern := l.pattern, omitLast := l.omitLast, step := l.step, left := l.left, position := l.position }

/-- The result of a record that has reached its end: CLIPPED for a line with pixels left (R155, R167). -/
def endResult : Work → DrawResult
  | .line l => if l.left = 0 then .done else .clipped
  | _ => .done

/-- What the continuation record becomes at the end of a record (R155, R156, R157). -/
def heldAfter (u : Running) (held : Option HeldLine) : Option HeldLine :=
  match u.work with
  | .line l =>
    if l.left ≠ 0 then some (heldOf u.record l)
    else if u.record.body = .cont then none
    else held
  | _ => held

/-- The running record, whose work is `u.work`, ends; the arbiter chooses again (R164, R167). -/
def endRecord (u : Running) (s : State) : State :=
  let ended := { s.engine with running := none, heldLine := heldAfter u s.engine.heldLine }
  runEngine (reportDraw u.source u.record (endResult u.work)
    { s with engine := ended.leavePattern u.source u.work })

/-- The running record after up to `n` more units, and the state with what they wrote. -/
def workOn (n : Nat) (u : Running) (s : State) : State × Running :=
  let res := runUnits s.panels.fonts u.record n u.part u.cell (s.panel u.record.panelId) u.work
  (s.setPanel u.record.panelId res.1, { u with work := res.2, part := 0, cell := none })

/-- Another event meets the running record: how far it has got is free, short of its end (log 7). -/
def meetRunning (s : State) : State :=
  match s.engine.running with
  | none => s
  | some u =>
    let met := runPart s.panels.fonts u.record (Config.unitsDone s.freeCount) (Config.pixelsDone s.freeCount)
      u.part u.cell (s.panel u.record.panelId) u.work
    let s := s.setPanel u.record.panelId met.panel
    { s with engine := { s.engine with
               running := some { u with work := met.work, part := met.part, cell := met.cell } }
             freeCount := s.freeCount + 1 }

/-! ## Commands -/

/-- DRAW_RECORD_END (R152 to R161, R167): the running record completes its work, all of it, and ends. -/
def execDrawRecordEnd (s : State) : Out :=
  match s.engine.running with
  | none => .next s
  | some u =>
    let a := workOn (unitsLeft u.record u.work) u s
    .next (endRecord a.2 a.1)

/-- DRAW_RECORD_SUSPEND (R165): with a record waiting in the composer queue, the in-band record completes the
unit it is in (`units` counts it and those before it), and is set aside, or ends if that was its end. -/
def execDrawRecordSuspend (units : Nat) (s : State) : Out :=
  match s.engine.running with
  | none => .next s
  | some u =>
    if u.source = .inBand ∧ s.engine.composerQ ≠ [] then
      let a := workOn (max 1 units) u s
      if finished u.record (a.1.panel u.record.panelId) a.2.work then .next (endRecord a.2 a.1)
      else
        .next (runEngine { a.1 with engine := { a.1.engine with
          running := none, suspended := some { a.2 with roleChanged := false } } })
    else .next s

/-- The in-band record that is running or suspended (R165: at most one). -/
def Engine.inBandRecord (e : Engine) : Option Record :=
  match e.running with
  | some u => if u.source = DrawSource.inBand then some u.record else e.suspended.map (·.record)
  | none => e.suspended.map (·.record)

/-- The ABORT_DRAW action: all in-band drawing is discarded (R168). -/
def abortDraw (s : State) : State × ItemResult :=
  if s.engine.inBandRecord = none ∧ s.engine.inBandQ = [] ∧ s.engine.heldLine = none then (s, .ok)
  else
    let met := match s.engine.running with
      | some u => if u.source = DrawSource.inBand then meetRunning s else s
      | none => s
    let stopped := { met with engine := { met.engine with
        inBandQ := [], suspended := none, heldLine := none, inBandPattern := 15
        running := match met.engine.running with
          | some u => if u.source = DrawSource.inBand then none else some u
          | none => none } }
    let told := match s.engine.inBandRecord with
      | some r => reportDraw .inBand r .aborted stopped
      | none => stopped
    (runEngine told, .ok)

/-- ABORT_DRAW (R168) as an item of ACTIONS. -/
def execAbortDraw (s : State) : Out := answered (abortDraw s)

end Sys2Proof.Machine
end

