-- ==== Sys2Proof/Machine/Panels.lean ====
section
/-! DEFINITION. Chapter 10: the Panel Unit and the Page Composer. -/

namespace Sys2Proof.Machine

open Sys2Proof

/-! ## Refresh (section 10.1.1) -/

/-- The colour a pixel of row `y` is shifted as: palette entry 0 while force-blank is set (R172). -/
def Panel.colourAt (x : Panel) (y px : Nat) : Colour :=
  x.palette.getD (if x.config.forceBlank then 0 else (x.shown.pixels.get (pixelAddr px y)).toNat) 0

/-- How many pixels of a row its row period lets out: 12.5 MHz, 12 bits a pixel (R172). -/
def Panel.pixelsPerRow (x : Panel) : Nat := min x.config.width (x.rowPeriod * 25 / 24)

/-- The colours of row `y` from pixel `k` up to pixel `n`, as the palette and the page stand. -/
def Panel.rowFrom (x : Panel) (y k n : Nat) : List Colour :=
  (List.range (n - k)).map fun i => x.colourAt y (k + i)

/-- The end of a row period of an enabled panel (R172): a visible row is latched as far as it has gone, and the
next row begins; after the last visible row comes the frame boundary. -/
def Panel.rowEnd (x : Panel) (f : Refresh) : Refresh :=
  match f.position with
  | .visible y =>
    { position := if y + 1 < x.config.height then .visible (y + 1) else .blank 0
      shifted := []
      latched := f.shifted ++ x.rowFrom y f.shifted.length x.pixelsPerRow
      boundaryDue := decide (x.config.height ≤ y + 1) }
  | .blank k =>
    { f with position := if k + 1 < x.blankRows then .blank (k + 1) else .visible 0 }

/-- PANEL_ROW_END (R172). A frame boundary that is due is taken before the blank row ends. -/
def execPanelRowEnd (p : PanelId) (s : State) : Out :=
  match (s.panel p).refresh with
  | none => .next s
  | some f =>
    if f.boundaryDue then .next s
    else .next (s.setPanel p { s.panel p with refresh := some ((s.panel p).rowEnd f) })

/-- A written row period and blank rows are adopted (R173). -/
def Panel.adoptTiming (x : Panel) : Panel :=
  { x with rowPeriod := x.config.rowPeriod, blankRows := x.config.blankRows }

/-- FRAME_BOUNDARY (R173, R176): written timing is adopted, a pending flip completes, and the engine arbiter may
start records for the panel. -/
def execFrameBoundary (p : PanelId) (s : State) : Out :=
  match (s.panel p).refresh with
  | none => .next s
  | some f =>
    if f.boundaryDue then
      let s := s.setPanel p
        { (s.panel p).adoptTiming with refresh := some { f with boundaryDue := false } }
      .next (if (s.panel p).flipPending then runEngine (completeFlip p s) else s)
    else .next s

/-- Before a write that changes what pixels show, the pixels of the row already shifted keep their colours; how
many they are is free (R172, R174, log 8). -/
def keepShifted (p : PanelId) (s : State) : State :=
  let x := s.panel p
  match x.refresh with
  | none => s
  | some f =>
    match f.position with
    | .blank _ => s
    | .visible y =>
      let n := min x.pixelsPerRow (max f.shifted.length (Config.pixelsShifted s.freeCount))
      let g := { f with shifted := f.shifted ++ x.rowFrom y f.shifted.length n }
      { s with panels := s.panels.setPanel p { x with refresh := some g }
               freeCount := s.freeCount + 1 }

/-! ## Enable and role -/

/-- Whether a panel is an enabled NOTICE panel has changed; the Notice Unit is told (R114, R177). -/
def noteEnableChange (was : Bool) (p : PanelId) (s : State) : State :=
  if (s.panel p).noticeEnabled = was then s
  else
    { s with notices := { s.notices with
        fromPanels := s.notices.fromPanels ++ [.enableChange (!s.panels.anyNotice)] } }

/-- A panel that becomes enabled begins its first panel frame at row 0 at once (R172). -/
def startRefresh (p : PanelId) (s : State) : State :=
  s.setPanel p { s.panel p with refresh := some {} }

/-- A panel that stops being enabled stops its refresh, adopts written timing, and completes a pending flip
(R172, R173, R177). -/
def stopRefresh (p : PanelId) (s : State) : State :=
  let s := s.setPanel p { (s.panel p).adoptTiming with refresh := none }
  if (s.panel p).flipPending then completeFlip p s else s

/-- The effects of a change in whether a panel is enabled, after the write: `was` and `wasNotice` say what it was
before (R172, R177). -/
def settleEnabled (was wasNotice : Bool) (p : PanelId) (s : State) : State :=
  let told := noteEnableChange wasNotice p s
  if (s.panel p).enabled = was then told
  else if was then stopRefresh p told
  else startRefresh p told

/-- Marks one panel dirty when it is MAP or NOTICE; one of another role has no composer state (R183). -/
def markPanel (p : PanelId) (s : State) : State := s.setPanel p (s.panel p).markDirty

/-- A write of enable (R171, R177). -/
def writePanelEnable (p : PanelId) (value : List Byte) (s : State) : State × ItemResult :=
  match flagValue value with
  | none => (s, .badValue)
  | some b =>
    let x := s.panel p
    if b = x.config.enable then (s, .ok)
    else
      let t := settleEnabled x.enabled x.noticeEnabled p
        (s.setPanel p { x with config := { x.config with enable := b } })
      (runEngine (if b then markPanel p t else t), .ok)

/-- The role a value names (R205). -/
def roleOf : Nat → Option Role
  | 0 => some .off
  | 1 => some .map
  | 2 => some .notice
  | 3 => some .free
  | _ => none

/-- The composer state a panel has on taking a role: DIRTY for MAP and NOTICE (R186). -/
def Role.composer : Role → Option ComposerState
  | .map => some .dirty
  | .notice => some .dirty
  | .off => none
  | .free => none

/-- The suspended record's role-change mark is set by a change of its panel's role (R166). -/
def Engine.markRoleChange (p : PanelId) (e : Engine) : Engine :=
  { e with suspended := e.suspended.map fun u =>
      if u.record.target = some p then { u with roleChanged := true } else u }

/-- The Page Composer stops placing the records of a panel's composition (R186). -/
def dropComposition (p : PanelId) (c : Option Composition) : Option Composition :=
  match c with
  | some k => if k.panel = p then none else some k
  | none => none

/-- A write of role (R171, R186). -/
def writePanelRole (p : PanelId) (value : List Byte) (s : State) : State × ItemResult :=
  if s.mgmt.locked then (s, .locked)
  else
    match (itemNumber value).bind roleOf with
    | none => (s, .badValue)
    | some r =>
      let x := s.panel p
      if r = x.config.role then (s, .ok)
      else
        let t := s.setPanel p
          { x with config := { x.config with role := r }, composer := r.composer, redo := false }
        let t := { t with engine := t.engine.markRoleChange p
                          panels := { t.panels with composing := dropComposition p t.panels.composing } }
        (runEngine (settleEnabled x.enabled x.noticeEnabled p t), .ok)

/-! ## Geometry and timing (R171, R173) -/

/-- The value a geometry field takes: the width also rounded down to a multiple of 8 (R171). -/
def geometryStored : GeometryField → Nat → Nat
  | .width, n => clampTo 16 512 n / 8 * 8
  | .height, n => clampTo 8 128 n

def PanelConfig.geometry (c : PanelConfig) : GeometryField → Nat
  | .width => c.width
  | .height => c.height

def PanelConfig.setGeometry (c : PanelConfig) (f : GeometryField) (n : Nat) : PanelConfig :=
  match f with
  | .width => { c with width := n }
  | .height => { c with height := n }

/-- A panel whose geometry has changed: both pages cleared, both tags none, an enabled panel's refresh at row 0
of a new panel frame, and a MAP or NOTICE panel dirty (R173). -/
def Panel.regeometry (c : PanelConfig) (x : Panel) : Panel :=
  { x with config := c, shown := {}, back := {}
           refresh := x.refresh.map fun (f : Refresh) => { latched := f.latched } }.markDirty

/-- A write of width or height (R171, R173). -/
def writePanelGeometry (p : PanelId) (f : GeometryField) (value : List Byte) (s : State) :
    State × ItemResult :=
  if s.mgmt.locked then (s, .locked)
  else
    match itemNumber value with
    | none => (s, .badValue)
    | some n =>
      let v := geometryStored f n
      if v = (s.panel p).config.geometry f then (s, storedResult n v)
      else
        let t := meetRunning s
        (t.setPanel p ((t.panel p).regeometry ((t.panel p).config.setGeometry f v)), storedResult n v)

def timingStored : TimingField → Nat → Nat
  | .rowPeriod, n => clampTo 20 2000 n
  | .blankRows, n => clampTo 1 64 n

def PanelConfig.setTiming (c : PanelConfig) (f : TimingField) (n : Nat) : PanelConfig :=
  match f with
  | .rowPeriod => { c with rowPeriod := n }
  | .blankRows => { c with blankRows := n }

/-- A write of row period or blank rows: adopted at once by a panel that is not enabled, else at its next frame
boundary (R173). -/
def writePanelTiming (p : PanelId) (f : TimingField) (value : List Byte) (s : State) :
    State × ItemResult :=
  if s.mgmt.locked then (s, .locked)
  else
    match itemNumber value with
    | none => (s, .badValue)
    | some n =>
      let v := timingStored f n
      let x := { s.panel p with config := (s.panel p).config.setTiming f v }
      (s.setPanel p (if x.enabled then x else x.adoptTiming), storedResult n v)

/-! ## The other fields (R171, R183) -/

/-- A map colour field 9..13 set. -/
def PanelConfig.setColour (c : PanelConfig) (field : Nat) (v : Pixel) : PanelConfig :=
  match field with
  | 9 => { c with travelled := v }
  | 10 => { c with future := v }
  | 11 => { c with stopMark := v }
  | 12 => { c with marker := v }
  | _ => { c with markerStale := v }

/-- A changed field of a panel marks it dirty when it has the role that reads the field (R183). -/
def setConfig (p : PanelId) (r : Role) (c : PanelConfig) (s : State) : State :=
  let x := s.panel p
  if c = x.config then s else s.setPanel p ({ x with config := c }.markRole r)

/-- A write of force-blank (R172). -/
def writeForceBlank (p : PanelId) (value : List Byte) (s : State) : State × ItemResult :=
  match flagValue value with
  | none => (s, .badValue)
  | some b =>
    if b = (s.panel p).config.forceBlank then (s, .ok)
    else
      let t := keepShifted p s
      (t.setPanel p { t.panel p with config := { (t.panel p).config with forceBlank := b } }, .ok)

/-- A numeric field of a panel, clamped to 0..hi (R171). -/
def writeClamped (p : PanelId) (r : Role) (hi : Nat) (value : List Byte)
    (set : Nat → PanelConfig → PanelConfig) (s : State) : State × ItemResult :=
  match itemNumber value with
  | none => (s, .badValue)
  | some n => (setConfig p r (set (clampTo 0 hi n) (s.panel p).config) s, storedResult n (clampTo 0 hi n))

/-- A write of the default page prefix (R171, R204). -/
def writePrefix (p : PanelId) (value : List Byte) (s : State) : State × ItemResult :=
  if 16 < value.length then (s, .badValue)
  else (setConfig p .notice { (s.panel p).config with prefixText := value } s, .ok)

/-- A write of one of the fields 6 to 14 (R171); field 15 holds no field. -/
def writePanelField (p : PanelId) (field : Nat) (value : List Byte) (s : State) : State × ItemResult :=
  match field with
  | 6 => writeForceBlank p value s
  | 7 => writeClamped p .notice 3 value (fun n c => { c with font := n }) s
  | 8 => writePrefix p value s
  | 9 | 10 | 11 | 12 | 13 =>
    writeClamped p .map 15 value (fun n c => c.setColour field (BitVec.ofNat 4 n)) s
  | 14 => writeClamped p .map 0xFFFF value (fun n c => { c with pattern := BitVec.ofNat 16 n }) s
  | _ => (s, .badIndex)

/-- A write item of PANELS, index panel × 16 + field (R171). -/
def writePanels (index : Nat) (value : List Byte) (s : State) : State × ItemResult :=
  match panelOfNat (index / 16) with
  | none => (s, .badIndex)
  | some p =>
    match index % 16 with
    | 0 => writePanelRole p value s
    | 1 => writePanelGeometry p .width value s
    | 2 => writePanelGeometry p .height value s
    | 3 => writePanelTiming p .rowPeriod value s
    | 4 => writePanelTiming p .blankRows value s
    | 5 => writePanelEnable p value s
    | k => writePanelField p k value s

/-- A write item of PALETTES, index panel × 16 + entry (R174). -/
def writePalettes (index : Nat) (value : List Byte) (s : State) : State × ItemResult :=
  match panelOfNat (index / 16) with
  | none => (s, .badIndex)
  | some p =>
    match itemNumber value with
    | none => (s, .badValue)
    | some n =>
      let v := clampTo 0 0xFFF n
      let t := keepShifted p s
      (t.setPanel p { t.panel p with
        palette := updAt (index % 16) (fun _ => BitVec.ofNat 12 v) (t.panel p).palette },
        storedResult n v)

/-! ## Glyphs and side glyphs (section 10.3) -/

/-- A side glyph entry set. -/
def Panels.setSide (k : Panels) (index : Nat) (v : Option Byte) : Panels :=
  match index with
  | 0 => { k with sideLeft := v }
  | 1 => { k with sideRight := v }
  | _ => { k with sideBoth := v }

/-- A write item of SIDEGLYPHS: a code 0..252, or 255 for no code; a change marks every NOTICE panel dirty
(R180, R205). -/
def writeSideglyphs (index : Nat) (value : List Byte) (s : State) : State × ItemResult :=
  if 3 ≤ index then (s, .badIndex)
  else
    match itemNumber value with
    | none => (s, .badValue)
    | some n =>
      if 252 < n ∧ n ≠ 255 then (s, .badValue)
      else
        let k := s.panels.setSide index (if n = 255 then none else some (byteOf n))
        if k = s.panels then (s, .ok) else (markRole .notice { s with panels := k }, .ok)

/-- The bytes of one bitmap of a cell (section 12.5). -/
def bitmapSize (width height : Nat) : Nat := height * ((width + 7) / 8)

/-- A font after a load of glyphs with the header's cell size: another cell size, or a font not known, discards
every bitmap first; the bitmaps of the load replace those of its range (R179). -/
def Font.load (old : Option Font) (width height first : Nat) (bitmaps : List (Nat × List Byte)) : Font :=
  let kept := match old with
    | some f => if f.width = width ∧ f.height = height then f.bitmaps else []
    | none => []
  { width, height
    bitmaps := kept.filter (fun b => decide (b.1 < first)) ++ bitmaps ++
      kept.filter (fun b => decide (first + bitmaps.length ≤ b.1)) }

/-- A GLYPHS load handed over: judged and committed (R178, R179). -/
def loadGlyphs (content : List Byte) (s : State) : Judged :=
  if content.length < 5 then .rejected .length 0
  else
    let font := natAt content 0 1
    let width := natAt content 1 1
    let height := natAt content 2 1
    let first := natAt content 3 1
    let count := natAt content 4 1
    if 3 < font ∨ width < 4 ∨ 16 < width ∨ height < 4 ∨ 16 < height ∨ 252 < first ∨ count < 1 ∨
        253 < count ∨ 253 < first + count then .rejected .range 0
    else if content.length ≠ 5 + count * bitmapSize width height then .rejected .length 0
    else
      let size := bitmapSize width height
      let bitmaps := (List.range count).map fun k => (first + k, slice content (5 + k * size) size)
      let t := meetRunning s
      .committed (markRole .notice { t with panels := { t.panels with
        fonts := updAt font (fun old => some (Font.load old width height first bitmaps)) t.panels.fonts } })

/-! ## The pages composed (section 10.5) -/

/-- A composer record of panel `p`: clip the whole panel, raster op REPLACE (section 10.5). -/
def composerRecord (p : PanelId) (c : PanelConfig) (colour : Pixel) (body : Body) : Record :=
  { panel := byteOf (panelNum p), rop := 0, colour := byteOf colour.toNat
    clipX := 0, clipY := 0, clipW := c.width, clipH := c.height, body := body }

/-- A LINE of a MAP page: clip mode NONE, OMIT_LAST clear (R184). -/
def mapLine (p : PanelId) (c : PanelConfig) (colour : Pixel) (pattern : BitVec 16) (patternReset : Bool)
    (a b : Nat × Nat) : Record :=
  composerRecord p c colour (.line a.1 a.2 b.1 b.2 pattern patternReset false false 2)

/-- The map point of a stop. -/
def Stop.point (x : Stop) : Nat × Nat := (x.x, x.y)

/-- The mark of a stop (row 5 of R184). -/
def stopMarkRecord (p : PanelId) (c : PanelConfig) (x : Stop) : Record :=
  match x.kind with
  | .stop => composerRecord p c c.stopMark (.fillRect ((x.x : Int) - 1) ((x.y : Int) - 1) 3 3)
  | .pass => composerRecord p c c.stopMark (.fillRect x.x x.y 1 1)

/-- The future lines of a page: the first has PATTERN_RESET set, each later one clear (R184). -/
def futureLines (p : PanelId) (c : PanelConfig) : Bool → List ((Nat × Nat) × (Nat × Nat)) → List Record
  | _, [] => []
  | first, (a, b) :: legs => mapLine p c c.future c.pattern first a b :: futureLines p c false legs

/-- The legs from stop i to stop i + 1, for i from `lo` up to but not including `hi`. -/
def legs (stops : List Stop) (lo hi : Nat) : List ((Nat × Nat) × (Nat × Nat)) :=
  (List.range (hi - lo)).map fun k =>
    ((stopAt stops (lo + k)).point, (stopAt stops (lo + k + 1)).point)

/-- The records of a MAP page, less its FLIP (R184). -/
def mapPage (p : PanelId) (s : State) : List Record :=
  let cfg := (s.panel p).config
  let clear := composerRecord p cfg 0 (.fillRect 0 0 cfg.width cfg.height)
  match s.tracker.journey with
  | none => [clear]
  | some j =>
    let c := s.tracker.c
    let last := lastStop j.stops
    let here := (stopAt j.stops c).point
    let ahead := (stopAt j.stops (c + 1)).point
    let mark := s.tracker.marker.getD here
    let running := decide (s.tracker.state = .cruise) || decide (s.tracker.state = .approach)
    let done := legs j.stops 0 c ++ (if c < last ∧ running then [(here, mark)] else [])
    let todo := (if c < last then [(if running then mark else here, ahead)] else []) ++
      legs j.stops (c + 1) last
    [clear]
      ++ done.map (fun l => mapLine p cfg cfg.travelled 0xFFFF true l.1 l.2)
      ++ futureLines p cfg true todo
      ++ j.stops.map (stopMarkRecord p cfg)
      ++ [composerRecord p cfg (if s.tracker.status = .stale then cfg.markerStale else cfg.marker)
            (.fillRect ((mark.1 : Int) - 2) ((mark.2 : Int) - 2) 5 5)]

/-- The default text: the name of n and the side glyph of its local exit side (R116). -/
def defaultText (s : State) : List Byte :=
  s.tracker.stopName s.tracker.n ++ s.panels.sideGlyph (s.exitSide s.tracker.n)

/-- The text of a NOTICE page (R185). -/
def noticeText (cfg : PanelConfig) (s : State) : List Byte :=
  match s.notices.queue with
  | h :: _ => h.text
  | [] => if s.tracker.journey.isSome then cfg.prefixText ++ defaultText s else []

/-- The lines of a text: at most `k` lines of `n` codes. -/
def textLines (n : Nat) : Nat → List Byte → List (List Byte)
  | 0, _ => []
  | _ + 1, [] => []
  | k + 1, codes => codes.take n :: textLines n k (codes.drop n)

/-- The TEXT records of the lines, line j at y = j × (h + 1) (R185). -/
def textRecords (p : PanelId) (cfg : PanelConfig) (h : Nat) : Nat → List (List Byte) → List Record
  | _, [] => []
  | j, l :: ls =>
    composerRecord p cfg 0 (.text (byteOf cfg.font) 0 (j * (h + 1) : Nat) 15 0 false l) ::
      textRecords p cfg h (j + 1) ls

/-- The records of a NOTICE page, less its FLIP (R185). -/
def noticePage (p : PanelId) (s : State) : List Record :=
  let cfg := (s.panel p).config
  composerRecord p cfg 0 (.fillRect 0 0 cfg.width cfg.height) ::
    (match s.panels.fonts.getD cfg.font none with
     | none => []
     | some f => textRecords p cfg f.height 0
        (textLines (cfg.width / f.width) ((cfg.height + 1) / (f.height + 1)) (noticeText cfg s)))

/-- The whole record list of a page (R184, R185). -/
def pageRecords (p : PanelId) (s : State) : List Record :=
  (if (s.panel p).config.role = .notice then noticePage p s else mapPage p s) ++
    [composerRecord p (s.panel p).config 0 .flip]

/-- The tag of a NOTICE page: the head's entry number, or none (R175, R185). -/
def pageTag (s : State) : Option EntryNumber := s.notices.queue.head?.map (·.number)

/-- A DIRTY panel's turn has come: it is enabled and its flip state is NONE (R181). -/
def Panel.qualifies (x : Panel) : Bool :=
  x.enabled && !x.flipPending && decide (x.composer = some .dirty)

/-- The panel whose turn comes: the lowest that qualifies, while no other is being composed (R181). -/
def turnOf (s : State) : Option PanelId :=
  match s.panels.composing with
  | some _ => none
  | none => allPanels.find? fun p => (s.panel p).qualifies

/-- Places up to `k` records of the composition in the composer queue; with the last, the FLIP, the panel enters
FLIP_WAIT (R163, R181). -/
def placeRecords (k : Nat) (s : State) : State :=
  match s.panels.composing with
  | none => s
  | some c =>
    let s := { s with engine := { s.engine with composerQ := s.engine.composerQ ++ c.records.take k } }
    match c.records.drop k with
    | [] =>
      let k := { s.panels with composing := none }
      { s with panels := k.setPanel c.panel { s.panel c.panel with composer := some .flipWait } }
    | rest => { s with panels := { s.panels with composing := some { c with records := rest } } }

/-- The panel enters COMPOSING and its list is built; a NOTICE page gives the BACK page its tag (R175, R181).
DESIGN CHOICE (log 48): a page of any other role leaves the tag of the BACK page as it was. -/
def beginPage (p : PanelId) (s : State) : State :=
  let x := s.panel p
  let back := if x.config.role = .notice then { x.back with tag := pageTag s } else x.back
  let t := s.setPanel p { x with composer := some .composing, back := back }
  { t with panels := { t.panels with composing := some { panel := p, records := pageRecords p s } } }

/-- COMPOSE_TURN (R181). -/
def execComposeTurn (s : State) : Out :=
  match turnOf s with
  | none => .next s
  | some p => .next (runEngine (placeRecords (16 - s.engine.composerQ.length) (beginPage p s)))

/-- COMPOSER_PLACE_RECORD (R163, R181): a place is free and the next record is placed. -/
def execComposerPlaceRecord (s : State) : Out :=
  if s.panels.composing.isSome ∧ s.engine.composerQ.length < 16 then .next (runEngine (placeRecords 1 s))
  else .next s

/-! ## Item commands -/

/-- PANEL_ROLE_WRITE (R186). -/
def execPanelRoleWrite (p : PanelId) (value : List Byte) (s : State) : Out :=
  answered (writePanelRole p value s)

/-- PANEL_ENABLE_WRITE (R177). -/
def execPanelEnableWrite (p : PanelId) (value : List Byte) (s : State) : Out :=
  answered (writePanelEnable p value s)

/-- PANEL_GEOMETRY_WRITE (R173). -/
def execPanelGeometryWrite (p : PanelId) (f : GeometryField) (value : List Byte) (s : State) : Out :=
  answered (writePanelGeometry p f value s)

/-- PANEL_TIMING_WRITE (R173). -/
def execPanelTimingWrite (p : PanelId) (f : TimingField) (value : List Byte) (s : State) : Out :=
  answered (writePanelTiming p f value s)

/-- PANEL_FIELD_WRITE (R183). -/
def execPanelFieldWrite (p : PanelId) (field : Byte) (value : List Byte) (s : State) : Out :=
  answered (writePanelField p field.toNat value s)

/-- PALETTES_WRITE (R174). -/
def execPalettesWrite (index : Byte) (value : List Byte) (s : State) : Out :=
  answered (writePalettes index.toNat value s)

/-- SIDEGLYPHS_WRITE (R180). -/
def execSideglyphsWrite (index : Byte) (value : List Byte) (s : State) : Out :=
  answered (writeSideglyphs index.toNat value s)

end Sys2Proof.Machine
end

