-- ==== Sys2Proof/Machine/Reservations.lean ====
section
/-! DEFINITION. Chapter 7: the Reservation Unit. -/

namespace Sys2Proof.Machine

open Sys2Proof

/-! ## Lamp states (section 7.5) -/

/-- Row 4 of R134: a segment with from equal to c or below it and to above c. -/
def reservedNow (c : Nat) (segs : List Segment) : Bool :=
  segs.any fun g => decide (g.fromStop ≤ c) && decide (c < g.toStop)

/-- Row 5 of R134: the segment with the smallest from above c has from equal to n. -/
def reservedSoon (c n : Nat) (segs : List Segment) : Bool :=
  match segs.find? (fun g => decide (c < g.fromStop)) with
  | some g => decide (g.fromStop = n)
  | none => false

/-- The lamp state of a position (R134). -/
def lampOf (j : Option ResvJourney) (x : Seat) : LampState :=
  if x.number = 0 then .dark
  else if x.service = .outOfService then .blocked
  else
    match x.data, j with
    | .unknown, _ => .unknown
    | .known, none => .unknown
    | .known, some j =>
      if reservedNow j.c x.segments then .reserved
      else if reservedSoon j.c j.n x.segments then .reservedSoon
      else .free

/-- The lamp image worked out again and replaced whole (R135). -/
def Resv.relamp (r : Resv) : Resv := { r with image := r.seats.map (lampOf r.journey) }

/-! ## The segment pool (section 7.2) -/

/-- The segment records in use. -/
def inUse (seats : List Seat) : Nat := (seats.map (fun x => x.segments.length)).sum

/-- The free count: what the lists leave of 384 (R119). -/
def Resv.freeSegments (r : Resv) : Nat := 384 - inUse r.seats

/-! ## Operations (section 7.3.1) -/

/-- An operation record that has passed the structural checks. -/
inductive ResvOp
  | reserve (seat fromStop toStop : Nat) (tag : Option Nat)
  | release (seat fromStop : Nat)
  | clearSeat (seat : Nat)
  | dropTag (tag : Nat)
  | seatService (seat : Nat) (service : ServiceState)
deriving DecidableEq, Repr

/-- The result codes of an operation. -/
inductive ResvResult | ok | badSeat | badRange | passStop | stale | overlap | poolFull | notFound
deriving DecidableEq, Repr

def resvResultCode : ResvResult → Nat
  | .ok => 0
  | .badSeat => 1
  | .badRange => 2
  | .passStop => 3
  | .stale => 4
  | .overlap => 5
  | .poolFull => 6
  | .notFound => 7

/-- The position that carries a seat number; 0 names none (R122). -/
def findSeat (seats : List Seat) (number : Nat) : Option Nat :=
  if number = 0 then none else seats.findIdx? (fun x => x.number = number)

/-- Whether a stretch overlaps a segment of a list. -/
def overlapsAny (f t : Nat) (segs : List Segment) : Bool :=
  segs.any fun g => decide (f < g.toStop) && decide (g.fromStop < t)

/-- A segment placed in a list in ascending order of from. -/
def insertSegment (g : Segment) : List Segment → List Segment
  | [] => [g]
  | h :: hs => if g.fromStop < h.fromStop then g :: h :: hs else h :: insertSegment g hs

/-- RESERVE on the seat at a position (R123, checks 2 to 6). -/
def applyReserve (j : ResvJourney) (i f t : Nat) (tag : Option Nat) (seats : List Seat) :
    List Seat × ResvResult :=
  let segs := (seats.getD i {}).segments
  if ¬ f < t ∨ j.kinds.length ≤ t then (seats, .badRange)
  else if j.kinds.getD f .pass = .pass ∨ j.kinds.getD t .pass = .pass then (seats, .passStop)
  else if t ≤ j.c then (seats, .stale)
  else if overlapsAny f t segs then (seats, .overlap)
  else if 384 ≤ inUse seats then (seats, .poolFull)
  else
    (updAt i (fun x => { x with
      segments := insertSegment { fromStop := f, toStop := t, tag := tag } x.segments }) seats, .ok)

/-- One operation applied to a seat table, with its result; a refused one changes nothing (R122 to R127). -/
def applyOp (j : ResvJourney) (op : ResvOp) (seats : List Seat) : List Seat × ResvResult :=
  match op with
  | .reserve seat f t tag =>
    match findSeat seats seat with
    | none => (seats, .badSeat)
    | some i => applyReserve j i f t tag seats
  | .release seat f =>
    match findSeat seats seat with
    | none => (seats, .badSeat)
    | some i =>
      if (seats.getD i {}).segments.any (fun g => decide (g.fromStop = f)) then
        (updAt i (fun x => { x with
          segments := x.segments.filter (fun g => decide (g.fromStop ≠ f)) }) seats, .ok)
      else (seats, .notFound)
  | .clearSeat seat =>
    match findSeat seats seat with
    | none => (seats, .badSeat)
    | some i => (updAt i (fun x => { x with segments := [], data := .known }) seats, .ok)
  | .dropTag tag =>
    (seats.map (fun x => { x with
      segments := x.segments.filter (fun g => decide (g.tag ≠ some tag)) }), .ok)
  | .seatService seat service =>
    match findSeat seats seat with
    | none => (seats, .badSeat)
    | some i => (updAt i (fun x => { x with service := service }) seats, .ok)

/-! ## Loads (sections 7.3.2 and 7.3.3) -/

/-- The tag field of a record: absent, or a present tag of 1..65,535; none when it is neither (R121). -/
def tagOf (bs : List Byte) : Option (Option Nat) :=
  if natAt bs 4 1 = 0 then some none
  else if natAt bs 4 1 = 1 ∧ natAt bs 6 2 ≠ 0 then some (some (natAt bs 6 2))
  else none

/-- The operation in 8 bytes, when it passes the structural checks (R121); fields that it does not use are not
read (log 17). -/
def opOf (bs : List Byte) : Option ResvOp :=
  match natAt bs 0 1 with
  | 0 => (tagOf bs).map fun tag => .reserve (natAt bs 1 1) (natAt bs 2 1) (natAt bs 3 1) tag
  | 1 => some (.release (natAt bs 1 1) (natAt bs 2 1))
  | 2 => some (.clearSeat (natAt bs 1 1))
  | 3 =>
    match tagOf bs with
    | some (some tag) => some (.dropTag tag)
    | _ => none
  | 4 =>
    match natAt bs 5 1 with
    | 0 => some (.seatService (natAt bs 1 1) .inService)
    | 1 => some (.seatService (natAt bs 1 1) .outOfService)
    | _ => none
  | _ => none

/-- The operations of a content, or the index of the first record that fails (R121). -/
def opsOf : Nat → List (List Byte) → Except Nat (List ResvOp)
  | _, [] => .ok []
  | k, bs :: rest =>
    match opOf bs with
    | none => .error k
    | some op => (opsOf (k + 1) rest).map (op :: ·)

/-- The operation records of a RESERVATIONS content. -/
def resvRecords (content : List Byte) : List (List Byte) :=
  (List.range (natAt content 3 2)).map fun k => slice content (5 + 8 * k) 8

/-- The header checks of R121. -/
def resvHeaderFault (content : List Byte) (j : Option ResvJourney) : Option Cause :=
  if content.length < 5 ∨ content.length ≠ 5 + 8 * natAt content 3 2 then some .length
  else if 1 < natAt content 2 1 then some .range
  else
    match j with
    | none => some .wrongJourney
    | some j => if natAt content 0 2 ≠ j.id then some .wrongJourney else none

/-- What the records of an INCREMENTAL load gave: the first refusal and how many were refused (R130). -/
structure Failures where
  first : Option (Nat × ResvResult) := none
  count : Nat := 0
deriving DecidableEq, Repr

/-- Records applied one after another, each with its own result; record `k` is the next (R128). -/
def applyEach (j : ResvJourney) : Nat → List ResvOp → List Seat → Failures → List Seat × Failures
  | _, [], seats, fs => (seats, fs)
  | k, op :: ops, seats, fs =>
    match applyOp j op seats with
    | (seats', .ok) => applyEach j (k + 1) ops seats' fs
    | (_, res) =>
      applyEach j (k + 1) ops seats
        { first := fs.first.orElse (fun _ => some (k, res)), count := fs.count + 1 }

/-- Records tried one after another up to the first refusal (R129). -/
def applyAll (j : ResvJourney) : Nat → List ResvOp → List Seat → Except (Nat × ResvResult) (List Seat)
  | _, [], seats => .ok seats
  | k, op :: ops, seats =>
    match applyOp j op seats with
    | (seats', .ok) => applyAll j (k + 1) ops seats'
    | (_, res) => .error (k, res)

/-- RESV_ERROR at the commit of an INCREMENTAL load with refusals (R130). -/
def reportFailures (origin : TrainEnd) (batchId : Byte) (fs : Failures) (s : State) : State :=
  match fs.first with
  | none => s
  | some (k, res) =>
    raise .resvError
      ([byteOf (endCode origin), batchId] ++ beBytes 2 k ++ [byteOf (resvResultCode res)]
        ++ beBytes 2 fs.count) s

/-- The seat table a REPLACE load is tried against (R129). -/
def emptied (seats : List Seat) : List Seat := seats.map fun x => { x with segments := [] }

/-- Every position with a seat number made KNOWN (R129). -/
def allKnown (seats : List Seat) : List Seat :=
  seats.map fun x => if x.number = 0 then x else { x with data := .known }

/-- A seat table committed, with the lamp image worked out from it. -/
def commitSeats (seats : List Seat) (s : State) : State :=
  { s with resv := { s.resv with seats := seats }.relamp }

/-- A RESERVATIONS load handed over (R121, R128, R129). -/
def loadReservations (origin : TrainEnd) (batchId : Byte) (content : List Byte) (s : State) : Judged :=
  match resvHeaderFault content s.resv.journey, s.resv.journey with
  | some c, _ => .rejected c 0
  | none, none => .rejected .wrongJourney 0
  | none, some j =>
    match opsOf 1 (resvRecords content) with
    | .error k => .rejected .range k
    | .ok ops =>
      if natAt content 2 1 = 0 then
        let res := applyEach j 1 ops s.resv.seats {}
        .committed (reportFailures origin batchId res.2 (commitSeats res.1 s))
      else
        match applyAll j 1 ops (emptied s.resv.seats) with
        | .error (k, res) => .rejected (.resv (resvResultCode res)) k
        | .ok seats => .committed (commitSeats (allKnown seats) s)

/-! ## Flush and purge (section 7.4) -/

/-- Every segment freed and every position UNKNOWN (R131). -/
def Resv.flush (r : Resv) : Resv :=
  { r with seats := r.seats.map fun x => { x with segments := [], data := .unknown } }

/-- The new c and n taken, and every segment freed whose to is c or below it (R132). -/
def Resv.purge (c n : Nat) (r : Resv) : Resv :=
  { r with
    journey := r.journey.map fun j => { j with c := c, n := n }
    seats := r.seats.map fun x => { x with
      segments := x.segments.filter (fun g => decide (c < g.toStop)) } }

/-- A message acted on: the flush or the purge, and the lamp image worked out again (R131, R132, R135). -/
def actResv (m : ResvMsg) (r : Resv) : Resv :=
  match m with
  | .journey j => { r.flush with journey := some j }.relamp
  | .closed => { r.flush with journey := none }.relamp
  | .labelChange => r.flush.relamp
  | .advance c n => (r.purge c n).relamp

/-- FLUSH (R131): the Reservation Unit takes a commit, a close or a label change. -/
def execFlush (s : State) : Out :=
  match s.resv.inbox with
  | .journey j :: rest => .next { s with resv := actResv (.journey j) { s.resv with inbox := rest } }
  | .closed :: rest => .next { s with resv := actResv .closed { s.resv with inbox := rest } }
  | .labelChange :: rest => .next { s with resv := actResv .labelChange { s.resv with inbox := rest } }
  | _ => .next s

/-- PURGE (R132): the Reservation Unit takes a change of c. -/
def execPurge (s : State) : Out :=
  match s.resv.inbox with
  | .advance c n :: rest =>
    .next { s with resv := actResv (.advance c n) { s.resv with inbox := rest } }
  | _ => .next s

/-- Whether a message is a commit or a close. -/
def ResvMsg.opens : ResvMsg → Bool
  | .journey _ => true
  | .closed => true
  | .labelChange => false
  | .advance _ _ => false

/-- The messages up to and including the last commit or close, and those after it. -/
def splitOpens : List ResvMsg → Option (List ResvMsg × List ResvMsg)
  | [] => none
  | m :: ms =>
    match splitOpens ms with
    | some (a, b) => some (m :: a, b)
    | none => if m.opens then some ([m], ms) else none

/-- The Reservation Unit acts on what it was told up to the last commit or close: JOURNEY and RESERVATIONS
commits reach it in the order of their final parts (R63, R133, log 4). -/
def catchUpResv (s : State) : State :=
  match splitOpens s.resv.inbox with
  | none => s
  | some (past, rest) =>
    { s with resv := past.foldl (fun r m => actResv m r) { s.resv with inbox := rest } }

/-- The soft reset effects at the Reservation Unit (R117). -/
def Resv.softReset (r : Resv) : Resv := { r.flush with journey := none, inbox := [] }.relamp

/-! ## The seat map (section 7.1) -/

/-- A write item of SEATMAP (R118). -/
def writeSeatmap (index : Nat) (value : List Byte) (s : State) : State × ItemResult :=
  if 96 ≤ index then (s, .badIndex)
  else if s.mgmt.locked then (s, .locked)
  else
    match itemNumber value with
    | none => (s, .badValue)
    | some n =>
      if 255 < n then (s, .badValue)
      else if (s.resv.seats.getD index {}).number = n then (s, .ok)
      else if n ≠ 0 ∧ s.resv.seats.any (fun x => decide (x.number = n)) then (s, .badValue)
      else
        (commitSeats (updAt index
          (fun x => { x with number := n, segments := [], data := .unknown }) s.resv.seats) s, .ok)

/-- SEATMAP_WRITE (R118). -/
def execSeatmapWrite (index : Byte) (value : List Byte) (s : State) : Out :=
  answered (writeSeatmap index.toNat value s)

end Sys2Proof.Machine
end

