-- ==== Sys2Proof/Machine/Batches.lean ====
section
/-! DEFINITION. Chapter 4: the Batch Assembler. -/

namespace Sys2Proof.Machine

open Sys2Proof

/-- The load class of a frame class code. -/
def loadClassOf (cls : Nat) : Option LoadClass :=
  match cls with
  | 7 => some .journey
  | 8 => some .triggers
  | 9 => some .reservations
  | 12 => some .glyphs
  | _ => none

/-! ## Slots (section 4.1) -/

def Slots.slot (k : Slots) : SlotId → Option Batch
  | .zero => k.slot0
  | .one => k.slot1

def Slots.setSlot (k : Slots) (i : SlotId) (b : Option Batch) : Slots :=
  match i with
  | .zero => { k with slot0 := b }
  | .one => { k with slot1 := b }

/-- A slot set; one that becomes FREE may leave no batch assembling (R74). -/
def setSlot (i : SlotId) (b : Option Batch) (s : State) : State :=
  { s with slots := s.slots.setSlot i b }

/-- The slot, of the two, whose batch satisfies a test. -/
def Slots.findSlot (k : Slots) (test : Batch → Bool) : Option SlotId :=
  if (k.slot0.map test).getD false then some .zero
  else if (k.slot1.map test).getD false then some .one
  else none

/-- A FREE slot; slot 0 when both are (R62). -/
def Slots.freeSlot (k : Slots) : Option SlotId :=
  if k.slot0.isNone then some .zero else if k.slot1.isNone then some .one else none

/-- A part belongs to a batch: class, origin end and batch id are equal (section 4.1). -/
def belongs (cls : LoadClass) (f : Frame) (b : Batch) : Bool :=
  decide (b.cls = cls) && decide (b.origin = f.origin) && decide (b.batchId = f.batchId)

/-- The batch sequence of the last part accepted (R69). -/
def Batch.lastSeq (b : Batch) : Nat :=
  match b.expected with
  | some n => n - 1
  | none => 255

/-! ## Reports (section 4.5) -/

/-- The reasons of BATCH_REJECTED (section 12.8). -/
inductive BatchReason | superseded | gap | tooLarge | timeout | noSlot | draining | invalid
deriving DecidableEq, Repr

def batchReasonCode : BatchReason → Nat
  | .superseded => 0
  | .gap => 1
  | .tooLarge => 2
  | .timeout => 3
  | .noSlot => 4
  | .draining => 5
  | .invalid => 6

/-- BATCH_REJECTED (R73). -/
def batchRejected (cls : LoadClass) (origin : TrainEnd) (batchId : Byte) (why : BatchReason) (seq index cause : Nat)
    (s : State) : State :=
  raise .batchRejected
    ([byteOf (loadClassCode cls), byteOf (endCode origin), batchId, byteOf (batchReasonCode why), byteOf seq]
      ++ beBytes 2 index ++ [byteOf cause]) s

/-- A START or SINGLE refused (R64, R65, R74). DESIGN CHOICE (log 49): for NO_SLOT, whose part sequence no rule
gives, the detail carries the batch sequence of the refused part itself. -/
def refusePart (cls : LoadClass) (f : Frame) (why : BatchReason) (s : State) : State :=
  batchRejected cls f.origin f.batchId why f.seq.toNat 0 0 s

/-- A batch abandoned: its slot FREE, BATCH_REJECTED with its identity (R69). -/
def abandonBatch (i : SlotId) (b : Batch) (why : BatchReason) (seq : Nat) (s : State) : State :=
  noteNoBatch (batchRejected b.cls b.origin b.batchId why seq 0 0 (setSlot i none s))

/-! ## Handover (R71) -/

/-- What the owner has been told and not yet taken, up to the last commit or close, is taken before its load
(R63, log 4). -/
def catchUp (cls : LoadClass) (s : State) : State :=
  match cls with
  | .triggers => catchUpNotices s
  | .reservations => catchUpResv s
  | .journey => s
  | .glyphs => s

/-- The owner's verdict (R71). -/
def judge (cls : LoadClass) (origin : TrainEnd) (batchId : Byte) (content : List Byte) (s : State) : Judged :=
  match cls with
  | .journey => loadJourney content s
  | .triggers => loadTriggers content s
  | .reservations => loadReservations origin batchId content s
  | .glyphs => loadGlyphs content s

/-- A load handed over to its owner and reported (R71, R72, R73). -/
def handover (cls : LoadClass) (f : Frame) (parts : Nat) (content : List Byte) (s : State) : State :=
  let t := catchUp cls s
  match judge cls f.origin f.batchId content t with
  | .committed t' =>
    raise .batchDone
      ([byteOf (loadClassCode cls), byteOf (endCode f.origin), f.batchId] ++ beBytes 2 parts
        ++ beBytes 2 content.length) t'
  | .rejected cause index =>
    batchRejected cls f.origin f.batchId .invalid f.seq.toNat index (causeCode cause) t

/-! ## Taking parts (sections 4.2 to 4.4) -/

/-- The head of the intake when its part flag is `part`: its class, the frame, and the intake without it. -/
def partOf (part : PartFlag) (s : State) : Option (LoadClass × Frame × List Copy) :=
  match s.classifier.batch with
  | [] => none
  | c :: rest =>
    if c.frame.part = part then
      (loadClassOf c.frame.cls.toNat).map fun cls => (cls, c.frame, rest)
    else none

def setBatchIntake (q : List Copy) (s : State) : State :=
  { s with classifier := { s.classifier with batch := q } }

/-- The slot for a START or SINGLE of a class: the slot of its class, its batch abandoned with SUPERSEDED, else a
FREE slot; none when neither is (R64, R65). -/
def claimSlot (cls : LoadClass) (s : State) : Option (SlotId × State) :=
  match s.slots.findSlot (fun b => decide (b.cls = cls)) with
  | some i =>
    match s.slots.slot i with
    | some b => some (i, batchRejected b.cls b.origin b.batchId .superseded b.lastSeq 0 0 (setSlot i none s))
    | none => some (i, s)
  | none => s.slots.freeSlot.map fun i => (i, s)

/-- BATCH_SINGLE (R64, R74). -/
def execBatchSingle (s : State) : Out :=
  match partOf .single s with
  | none => .next s
  | some (cls, f, rest) =>
    let s := setBatchIntake rest s
    if s.mgmt.draining then .next (refusePart cls f .draining s)
    else
      match claimSlot cls s with
      | none => .next (refusePart cls f .noSlot s)
      | some (_, t) => .next (noteNoBatch (handover cls f 1 f.payload t))

/-- BATCH_START (R65, R74). -/
def execBatchStart (s : State) : Out :=
  match partOf .start s with
  | none => .next s
  | some (cls, f, rest) =>
    let s := setBatchIntake rest s
    if s.mgmt.draining then .next (refusePart cls f .draining s)
    else if f.seq ≠ 0 then .next (refusePart cls f .gap s)
    else
      match claimSlot cls s with
      | none => .next (refusePart cls f .noSlot s)
      | some (i, t) =>
        .next (setSlot i (some
          { cls := cls, origin := f.origin, batchId := f.batchId, expected := some 1, parts := 1
            content := f.payload }) t)

/-- How a MIDDLE or END part is judged against the batch it belongs to (R66, R70). -/
def partFault (b : Batch) (f : Frame) : Option BatchReason :=
  if b.expected ≠ some f.seq.toNat then some .gap
  else if 16384 < b.content.length + f.payload.length then some .tooLarge
  else none

/-- A batch with an accepted part (R66). -/
def Batch.accept (b : Batch) (f : Frame) : Batch :=
  { b with content := b.content ++ f.payload, parts := b.parts + 1
           expected := if f.seq.toNat = 255 then none else some (f.seq.toNat + 1) }

/-- BATCH_MIDDLE (R66, R68). -/
def execBatchMiddle (s : State) : Out :=
  match partOf .middle s with
  | none => .next s
  | some (cls, f, rest) =>
    let s := setBatchIntake rest s
    match s.slots.findSlot (belongs cls f) with
    | none => .next s
    | some i =>
      match s.slots.slot i with
      | none => .next s
      | some b =>
        match partFault b f with
        | some why => .next (abandonBatch i b why f.seq.toNat s)
        | none => .next (setSlot i (some (b.accept f)) s)

/-- BATCH_END (R68, R70). -/
def execBatchEnd (s : State) : Out :=
  match partOf .finish s with
  | none => .next s
  | some (cls, f, rest) =>
    let s := setBatchIntake rest s
    match s.slots.findSlot (belongs cls f) with
    | none => .next s
    | some i =>
      match s.slots.slot i with
      | none => .next s
      | some b =>
        match partFault b f with
        | some why => .next (abandonBatch i b why f.seq.toNat s)
        | none =>
          .next (noteNoBatch (handover cls f (b.accept f).parts (b.accept f).content (setSlot i none s)))

/-- BATCH_TIMEOUT (R69). -/
def execBatchTimeout (i : SlotId) (s : State) : Out :=
  match s.slots.slot i with
  | none => .next s
  | some b => .next (abandonBatch i b .timeout b.lastSeq s)

end Sys2Proof.Machine
end

