-- ==== Sys2Proof/Machine/Classify.lean ====
section
/-! DEFINITION. Chapter 2: the Frame Classifier takes a frame and settles its two copies. -/

namespace Sys2Proof.Machine

open Sys2Proof

/-- Whether a frame matches this part, judged against own identity as it stands (R27, R28). -/
def destinationMatches (s : State) (f : Frame) : Bool :=
  match f.kind.toNat with
  | 0 => true
  | 1 =>
    (decide (s.consist.state = .valid) || decide (s.consist.state = .stale)) &&
      decide (1 ≤ f.dest.toNat) && decide (f.dest.toNat ≤ 24) &&
      decide (f.dest.toNat = s.consist.ordinal)
  | 2 => decide (s.consist.label ≠ 0) && decide (f.dest.toNat ≤ 99) &&
      decide (f.dest.toNat = s.consist.label)
  | 3 => decide (f.dest.toNat < 64) && s.classifier.groups.getLsbD f.dest.toNat
  | 4 => decide (f.dest = s.consist.unitId)
  | _ => false

/-- Whether a matching frame has reached the one part it names (R31, R35). -/
def namesOnePart (f : Frame) : Bool := decide (f.kind.toNat = 4) || decide (f.kind.toNat = 1)

/-- What the classification calls for, before the hop limit. -/
structure Verdict where
  consume : Bool
  forward : Bool
deriving DecidableEq, Repr

/-- The classification of a matching or non-matching frame by an entry's three flags (R31). -/
def verdictBy (e : ClassEntry) (isMatch onePart : Bool) : Verdict :=
  if isMatch then { consume := e.consumeOnMatch, forward := e.forwardOnMatch && !onePart }
  else { consume := false, forward := e.forwardOnNomatch }

/-- The entry of the classification table for a class code: 0 to 6 for classes 6 to 12, 7 for the undefined
codes (section 2.4). -/
def entryIndex (cls : Nat) : Nat := if cls ≤ 12 then cls - 6 else 7

/-- The classification of a frame by class group (R31 to R36). A link-control class never enters an RXQ
(R17); one found there has neither copy (log 28). -/
def classify (s : State) (f : Frame) : Verdict :=
  let cls := f.cls.toNat
  let hit := destinationMatches s f
  if cls ≤ 2 then { consume := false, forward := false }
  else if cls ≤ 4 then { consume := true, forward := false }
  else if cls = 5 ∨ cls = 13 ∨ cls = 14 then verdictBy {} hit (namesOnePart f)
  else if cls = 15 ∨ cls = 16 then { consume := false, forward := true }
  else verdictBy (s.classifier.entries.getD (entryIndex cls) {}) hit (namesOnePart f)

/-- A consume copy offered to an intake of a capacity: placed at the tail, or dropped with OVERFLOW and the
place code (R38). -/
def offerIntake (cap place : Nat) (q : List Copy) (c : Copy) (put : List Copy → State → State)
    (s : State) : State :=
  if q.length < cap then put (q ++ [c]) s else raiseOverflow place none s

/-- A DRAW consume copy: all of its records placed in the in-band queue or none (R40). -/
def consumeDraw (f : Frame) (s : State) : State :=
  if s.mgmt.draining then raise .drawEvent [255, 2, 255] s
  else
    match drawRecords f.payload with
    | none => raise .drawEvent [255, 2, 255] s
    | some rs =>
      if s.engine.inBandQ.length + rs.length ≤ 16 then
        runEngine { s with engine := { s.engine with inBandQ := s.engine.inBandQ ++ rs } }
      else raiseOverflow 6 none s

/-- A consume copy handed to the unit that owns the frame's class (R29, R38, R39, R40). -/
def consumeCopy (c : Copy) (s : State) : State :=
  match c.frame.cls.toNat with
  | 3 | 4 | 5 =>
    offerIntake 2 2 s.classifier.consist c
      (fun q s => { s with classifier := { s.classifier with consist := q } }) s
  | 6 => { s with classifier := { s.classifier with position := some c } }
  | 7 | 8 | 9 | 12 =>
    offerIntake 4 3 s.classifier.batch c
      (fun q s => { s with classifier := { s.classifier with batch := q } }) s
  | 10 =>
    offerIntake 2 4 s.classifier.notice c
      (fun q s => { s with classifier := { s.classifier with notice := q } }) s
  | 11 => consumeDraw c.frame s
  | 13 | 14 =>
    offerIntake 2 5 s.classifier.mgmt c
      (fun q s => { s with classifier := { s.classifier with mgmt := q } }) s
  | _ => s

/-- A forward copy, unless the hop limit stops it, offered to the FTX of the port opposite the arrival port
(R37). -/
def forwardCopy (c : Copy) (s : State) : State :=
  if c.frame.hop = 31 then s else offerFtx (opposite c.port) c.frame.forward s

/-- The frame at the head of the RXQ is removed, and the low mark applied (R19, R21). -/
def takeRxq (p : PortId) (rest : List Frame) (s : State) : State :=
  let q := { s.port p with rxq := rest }
  s.setPort p (if rest.length = 2 && q.pauseAsserted && q.isUp then q.resumePause.arbitrate else q)

/-- CLASSIFY_FRAME (R30): the frame at the head of the RXQ is settled at once, consume copy and forward copy.
DESIGN CHOICE (log 47): the consume copy is settled before the forward copy, so that where both overflow the
detail of OVERFLOW that stands is FTX. -/
def execClassifyFrame (p : PortId) (s : State) : Out :=
  match (s.port p).rxq with
  | [] => .next s
  | f :: rest =>
    let s1 := takeRxq p rest s
    let v := classify s1 f
    let s2 := if v.consume then consumeCopy { frame := f, port := p } s1 else s1
    .next (if v.forward then forwardCopy { frame := f, port := p } s2 else s2)

/-! ## The classification table and the group map -/

/-- Sets flag `k` of an entry (R33). -/
def ClassEntry.setFlag (k : Nat) (b : Bool) (e : ClassEntry) : ClassEntry :=
  match k with
  | 0 => { e with consumeOnMatch := b }
  | 1 => { e with forwardOnMatch := b }
  | _ => { e with forwardOnNomatch := b }

/-- Flag `k` of an entry. -/
def ClassEntry.flag (k : Nat) (e : ClassEntry) : Bool :=
  match k with
  | 0 => e.consumeOnMatch
  | 1 => e.forwardOnMatch
  | _ => e.forwardOnNomatch

/-- A write item of CLASSIFY, index entry × 3 + flag (R32, R33). -/
def writeClassify (index : Nat) (value : List Byte) (s : State) : State × ItemResult :=
  if 24 ≤ index then (s, .badIndex)
  else if s.mgmt.locked then (s, .locked)
  else
    match flagValue value with
    | none => (s, .badValue)
    | some b =>
      if index = 21 ∧ b = true then (s, .badValue)
      else
        ({ s with classifier := { s.classifier with
            entries := updAt (index / 3) (ClassEntry.setFlag (index % 3) b) s.classifier.entries } }, .ok)

/-- A write item of GROUPS (R41). -/
def writeGroups (index : Nat) (value : List Byte) (s : State) : State × ItemResult :=
  if 64 ≤ index then (s, .badIndex)
  else
    match flagValue value with
    | none => (s, .badValue)
    | some b =>
      ({ s with classifier := { s.classifier with
          groups := if b then s.classifier.groups ||| BitVec.twoPow 64 index
            else s.classifier.groups &&& ~~~ BitVec.twoPow 64 index } }, .ok)

end Sys2Proof.Machine
end

