-- ==== Sys2Proof/Machine/Consist.lean ====
section
/-! DEFINITION. Chapter 3: the Consist Manager. -/

namespace Sys2Proof.Machine

open Sys2Proof

/-! ## Rolls on the wire (section 12.3) -/

/-- A roll or its return: roll id, OVERFULL flag, and the bytes of its entries, 8 each. -/
structure Roll where
  rollId : BitVec 16
  overfull : Bool
  count : Nat
  entries : List Byte
deriving DecidableEq, Repr

/-- The roll in a payload, when the payload is well formed (R45). -/
def rollOf (payload : List Byte) : Option Roll :=
  let count := natAt payload 3 1
  if payload.length = 4 + 8 * count ∧ count ≤ 24 then
    some { rollId := BitVec.ofNat 16 (natAt payload 0 2)
           overfull := (byteAt payload 2).getLsbD 7
           count := count
           entries := payload.drop 4 }
  else none

/-- The payload of a roll. -/
def Roll.payload (r : Roll) : List Byte :=
  beBytes 2 r.rollId.toNat ++ [byteOf (bit r.overfull * 128), byteOf r.count] ++ r.entries

/-- The bytes of a roll entry. -/
def entryBytes (e : ConsistEntry) : List Byte :=
  beBytes 6 e.unitId.toNat ++ [byteOf e.label, byteOf (orientationCode e.orientation)]

/-- An entry as it is adopted: a label above 99 is stored as 0, an orientation other than 0 as B_TOWARD_END1
(R202). -/
def entryOf (bs : List Byte) : ConsistEntry :=
  { unitId := BitVec.ofNat 48 (natAt bs 0 6)
    label := if natAt bs 6 1 ≤ 99 then natAt bs 6 1 else 0
    orientation := if natAt bs 7 1 = 0 then .aTowardEnd1 else .bTowardEnd1 }

/-- The entries of a roll's list. -/
def Roll.list (r : Roll) : List ConsistEntry :=
  (List.range r.count).map fun i => entryOf (slice r.entries (8 * i) 8)

/-! ## Taking a roll -/

/-- The port that faces END1, from a roll's arrival port and origin end (R47). -/
def facingOf (arrival : PortId) : TrainEnd → PortId
  | .end1 => arrival
  | .end2 => opposite arrival

/-- The orientation of a part whose port facing END1 is given (R47). -/
def orientationOf : PortId → Orientation
  | .A => .aTowardEnd1
  | .B => .bTowardEnd1

/-- The part adds itself to a roll, or finds that it cannot; with its roll ordinal (table of R48). -/
def Roll.append (r : Roll) (own : ConsistEntry) : Roll × Nat :=
  if r.overfull then (r, 0)
  else if r.count < 24 then
    ({ r with count := r.count + 1, entries := r.entries ++ entryBytes own }, r.count + 1)
  else ({ r with overfull := true }, 0)

/-- The port facing END1 is set; a change of the local exit side of n marks every NOTICE panel (R47, R60,
R183). -/
def setFacing (p : PortId) (s : State) : State :=
  let t := { s with consist := { s.consist with facing := some p } }
  if t.exitSide t.tracker.n = s.exitSide s.tracker.n then t else markRole .notice t

/-! ## The check of a roll's list (R54) -/

/-- The reasons of ROLL_FAILED (section 12.8). -/
inductive RollFailure | overfull | duplicateId | notListed | timeout
deriving DecidableEq, Repr

def rollFailureCode : RollFailure → Nat
  | .overfull => 0
  | .duplicateId => 1
  | .notListed => 2
  | .timeout => 3

/-- The part becomes UNINAUGURATED and raises ROLL_FAILED (R54, R55). -/
def failRoll (why : RollFailure) (s : State) : State :=
  raise .rollFailed (byteOf (rollFailureCode why) :: beBytes 2 s.consist.rollId.toNat)
    { s with consist := { s.consist with
        state := .uninaugurated, record := none, table := [], ordinal := 0 } }

/-- The first failing row of R54, or none. -/
def rollFault (r : Roll) (ordinal : Nat) (own : UnitId) : Option RollFailure :=
  if r.overfull then some .overfull
  else if ¬ (r.list.map (·.unitId)).Nodup then some .duplicateId
  else if ordinal = 0 ∨ r.count < ordinal ∨ (r.list.map (·.unitId))[ordinal - 1]? ≠ some own then
    some .notListed
  else none

/-- The own label is set; a change tells the Reservation Unit (R58). -/
def setLabel (label : Nat) (s : State) : State :=
  if label = s.consist.label then s
  else
    { s with consist := { s.consist with label := label }
             resv := { s.resv with inbox := s.resv.inbox ++ [.labelChange] } }

/-- The list is adopted in ordinal order (VALID row of R54, R202). -/
def adoptRoll (r : Roll) (rr : RollRecord) (s : State) : State :=
  let own := r.list.getD (rr.ordinal - 1) default
  setLabel own.label
    { s with consist := { s.consist with
        state := .valid, record := none
        table := match rr.origin with | .end1 => r.list | .end2 => r.list.reverse
        ordinal := match rr.origin with | .end1 => rr.ordinal | .end2 => r.count + 1 - rr.ordinal } }

/-- The check of a roll's list (R54), less the CONSIST it raises. -/
def checkRoll (r : Roll) (rr : RollRecord) (s : State) : State :=
  match rollFault r rr.ordinal s.consist.unitId with
  | some why => failRoll why s
  | none => adoptRoll r rr s

/-- A return built by this part is offered to the LTX of a port; refused, it becomes the waiting return, and an
earlier waiting return is lost (R51). -/
def offerReturn (p : PortId) (f : Frame) (s : State) : State :=
  if (s.port p).ltxTakes then
    placeLtx p f { s with consist := { s.consist with waiting := none } }
  else { s with consist := { s.consist with waiting := some { frame := f, port := p } } }

/-- Raises CONSIST once when an event has changed the state, the own label or the port facing END1 (R44). -/
def consistChanged (before after : State) : State :=
  if before.consist.state = after.consist.state ∧ before.consist.label = after.consist.label ∧
      before.consist.facing = after.consist.facing then after
  else raiseConsist after

/-- A new roll taken (R47 to R50). A chain end passes through ROLLING to the outcome of its check in this one
event, so it raises CONSIST whatever state it was in before (R44, R48, R54). -/
def newRoll (c : Copy) (r : Roll) (s : State) : State :=
  let facing := facingOf c.port c.frame.origin
  let s1 := setFacing facing s
  let own : ConsistEntry :=
    { unitId := s1.consist.unitId, label := s1.consist.label, orientation := orientationOf facing }
  let grown := r.append own
  let rr : RollRecord := { arrival := c.port, origin := c.frame.origin, ordinal := grown.2 }
  let s2 := { s1 with consist := { s1.consist with
    rollId := r.rollId, state := .rolling, table := [], ordinal := 0, record := some rr } }
  if (s2.port (opposite c.port)).isUp = true ∧ c.frame.hop ≠ 31 then
    offerFtx (opposite c.port) { c.frame.forward with payload := grown.1.payload }
      (consistChanged s s2)
  else
    offerReturn c.port (endFrame 4 c.frame.origin (endValue c.frame.origin) grown.1.payload)
      (raiseConsist (checkRoll grown.1 rr s2))

/-- The head of the Consist Manager's intake, when its class is `cls`; and the intake without it. -/
def headOf (cls : Nat) (q : List Copy) : Option (Copy × List Copy) :=
  match q with
  | c :: rest => if c.frame.cls.toNat = cls then some (c, rest) else none
  | [] => none

/-- The intake of the Consist Manager loses its head. -/
def setConsistIntake (q : List Copy) (s : State) : State :=
  { s with classifier := { s.classifier with consist := q } }

/-- TAKE_ROLL (R45, R46). -/
def execTakeRoll (s : State) : Out :=
  match headOf 3 s.classifier.consist with
  | none => .next s
  | some (c, rest) =>
    let s := setConsistIntake rest s
    match rollOf c.frame.payload with
    | none => .next s
    | some r =>
      if s.consist.state = .rolling ∧ r.rollId = s.consist.rollId then .next s
      else .next (newRoll c r s)

/-- A return matches: ROLLING, its roll id, and the port away from the roll's origin (R52). -/
def returnMatches (c : Copy) (r : Roll) (s : State) : Option RollRecord :=
  match s.consist.record with
  | some rr =>
    if s.consist.state = .rolling ∧ r.rollId = s.consist.rollId ∧ c.port = opposite rr.arrival then some rr
    else none
  | none => none

/-- A return's onward copy to a port, subject to the hop limit (R37, R52, R53). -/
def returnOnward (p : PortId) (f : Frame) (s : State) : State :=
  if f.hop = 31 then s else offerFtx p f.forward s

/-- TAKE_ROLL_RETURN (R45, R52, R53, R54). -/
def execTakeRollReturn (s : State) : Out :=
  match headOf 4 s.classifier.consist with
  | none => .next s
  | some (c, rest) =>
    let s := setConsistIntake rest s
    match rollOf c.frame.payload with
    | none => .next s
    | some r =>
      match returnMatches c r s with
      | none => .next (returnOnward (opposite c.port) c.frame s)
      | some rr =>
        let s1 := returnOnward rr.arrival c.frame s
        .next (consistChanged s1 (checkRoll r rr s1))

/-- ROLL_RETURN_RETRY (R51): the waiting return is offered again. -/
def execRollReturnRetry (s : State) : Out :=
  match s.consist.waiting with
  | none => .next s
  | some c => .next (offerReturn c.port c.frame s)

/-- ROLL_TIMEOUT (R55). -/
def execRollTimeout (s : State) : Out :=
  match s.consist.record with
  | none => .next s
  | some _ => .next (consistChanged s (failRoll .timeout s))

/-- Whether a LABELS payload is applied (R57, section 12.3). -/
def labelsApply (payload : List Byte) (k : Consist) : Bool :=
  decide (k.state = .valid) &&
  decide (natAt payload 0 2 = k.rollId.toNat) &&
  decide (payload.length = 3 + natAt payload 2 1) &&
  decide (3 ≤ payload.length) &&
  decide (natAt payload 2 1 = k.table.length) &&
  decide (1 ≤ k.table.length) &&
  (payload.drop 3).all (fun b => decide (b.toNat ≤ 99))

/-- TAKE_LABELS (R57, R58). -/
def execTakeLabels (s : State) : Out :=
  match headOf 5 s.classifier.consist with
  | none => .next s
  | some (c, rest) =>
    let s := setConsistIntake rest s
    if labelsApply c.frame.payload s.consist then
      let labels := c.frame.payload.drop 3
      let table := (s.consist.table.zip labels).map fun e => { e.1 with label := e.2.toNat }
      let s1 := { s with consist := { s.consist with table := table } }
      .next (consistChanged s (setLabel (labels.getD (s.consist.ordinal - 1) 0).toNat s1))
    else .next s

/-- The soft reset effects at the Consist Manager (R43). -/
def Consist.softReset (k : Consist) : Consist :=
  { k with state := .uninaugurated, ordinal := 0, table := [], record := none, waiting := none }

end Sys2Proof.Machine
end

