-- ==== Sys2Proof/Machine/Lamps.lean ====
section
/-! DEFINITION. Chapter 8: the Lamp Scanner. -/

namespace Sys2Proof.Machine

open Sys2Proof

/-! ## Colours and lines -/

/-- Whether a lamp state calls for red and for green in a blink phase (table of R142). -/
def callsFor (x : LampState) (phaseOn : Bool) : Bool × Bool :=
  match x with
  | .free => (false, true)
  | .reserved => (true, false)
  | .reservedSoon => (phaseOn, false)
  | .blocked => (true, true)
  | .unknown => (phaseOn, phaseOn)
  | .dark => (false, false)

/-- What a column line is set to: its lit or unlit level, or released when UNUSED (table of R137). -/
def ColumnLine.drive (x : ColumnLine) (lit : Bool) : Drive :=
  if !x.used then .released
  else
    match x.openDrain, x.activeLow, lit with
    | false, false, true => .high
    | false, false, false => .low
    | false, true, true => .low
    | false, true, false => .high
    | true, false, true => .released
    | true, false, false => .low
    | true, true, true => .low
    | true, true, false => .released

/-- The lamp state of position (r, k) in the working image. -/
def Scanner.lamp (x : Scanner) (r k : Nat) : LampState := x.working.getD (r * 12 + k) .dark

/-- The USED row lines in ascending order (R139). -/
def Lines.usedRows (l : Lines) : List Nat :=
  (List.range 8).filter fun r => l.rows.getD r false

/-! ## The scan frame (section 8.2.2) -/

/-- The column lines set, and the row line sunk, for the row that the plan has in front; with no row, every
USED column line at its unlit level (R139, R140). -/
def Scanner.driveRow (p : FramePlan) (x : Scanner) : Scanner :=
  let row := p.rows.head?
  let lit (k : Nat) : Bool × Bool :=
    match row with
    | some r => callsFor (x.lamp r k) x.phaseOn
    | none => (false, false)
  { x with
    plan := some p
    sunk := row
    red := (List.range 12).map fun k => (p.lines.red.getD k {}).drive (lit k).1
    green := (List.range 12).map fun k => (p.lines.green.getD k {}).drive (lit k).2 }

/-- A scan frame begins: its plan is fixed, the lamp image latched, every frame check unchecked (R139). -/
def Scanner.startFrame (image : List LampState) (x : Scanner) : Scanner :=
  { x with working := image, checks := List.replicate 96 none }.driveRow
    { rows := x.lines.usedRows, period := x.rowPeriod, lines := x.lines }

/-- The blink count and phase at the end of a scan frame (R141). -/
def Scanner.advanceBlink (x : Scanner) : Scanner :=
  if x.blinkDivisor ≤ x.blinkCount + 1 then { x with blinkCount := 0, phaseOn := !x.phaseOn }
  else { x with blinkCount := x.blinkCount + 1 }

/-- The lines that mismatched: 1 red, 2 green, 3 both (section 12.8). -/
def linesCode (red green : Bool) : Nat := bit red + 2 * bit green

/-- LAMP_FAULT for a position just marked (R144). -/
def raiseLampFault (i : Nat) (red green : Bool) (s : State) : State :=
  raise .lampFault
    [byteOf (s.resv.seats.getD i {}).number, byteOf i, byteOf (linesCode red green)] s

/-- The miss count of a position. -/
def Scanner.setMiss (i n : Nat) (x : Scanner) : Scanner := { x with misses := updAt i (fun _ => n) x.misses }

/-- One position judged at the end of a scan frame (R144, R145). -/
def judgePosition (i : Nat) (s : State) : State :=
  if s.scanner.faults.getD i false then s
  else
    match s.scanner.checks.getD i none with
    | none => s
    | some (false, false) => { s with scanner := s.scanner.setMiss i 0 }
    | some (red, green) =>
      if 2 ≤ s.scanner.misses.getD i 0 then
        let x := s.scanner.setMiss i 0
        raiseLampFault i red green { s with scanner := { x with faults := updAt i (fun _ => true) x.faults } }
      else { s with scanner := s.scanner.setMiss i (s.scanner.misses.getD i 0 + 1) }

/-- All positions judged in ascending order (R144). -/
def judgeFrame (s : State) : State := (List.range 96).foldl (fun s i => judgePosition i s) s

/-- LAMP_ROW_PERIOD_END (R139, R140, R141, R144). -/
def execLampRowPeriodEnd (s : State) : Out :=
  match s.scanner.plan with
  | none => .next s
  | some p =>
    match p.rows with
    | _ :: r :: rest =>
      .next { s with scanner := s.scanner.driveRow { p with rows := r :: rest } }
    | _ =>
      let t := judgeFrame s
      .next { t with scanner := t.scanner.advanceBlink.startFrame t.resv.image }

/-! ## Sensing (section 8.3.1) -/

/-- The frame check of a position from the levels of its lit lines: unchecked when neither is lit, else which
mismatched (R143). -/
def frameCheck (red green : ColumnLine) (calls : Bool × Bool) (redLevel greenLevel : Bool) : FrameCheck :=
  let redLit := red.used && calls.1
  let greenLit := green.used && calls.2
  if redLit || greenLit then
    some (redLit && decide (redLevel = red.activeLow), greenLit && decide (greenLevel = green.activeLow))
  else none

/-- SENSE_SAMPLE (R143): the lines of the row being driven are sampled. -/
def execSenseSample (red green : BitVec 12) (s : State) : Out :=
  match s.scanner.plan with
  | none => .next s
  | some p =>
    match p.rows with
    | [] => .next s
    | r :: _ =>
      let x := s.scanner
      let sampled := (List.range 12).foldl (fun checks k =>
        updAt (r * 12 + k) (fun _ => frameCheck (p.lines.red.getD k {}) (p.lines.green.getD k {})
          (callsFor (x.lamp r k) x.phaseOn) (red.getLsbD k) (green.getLsbD k)) checks) x.checks
      .next { s with scanner := { x with checks := sampled } }

/-! ## Settings and actions -/

/-- Scanning begins: blink phase ON, blink count 0, the first scan frame at once (R138). -/
def Scanner.start (image : List LampState) (x : Scanner) : Scanner :=
  { x with enable := true, phaseOn := true, blinkCount := 0 }.startFrame image

/-- Scanning stops: every line released, the frame abandoned, every miss count 0 (R138). -/
def Scanner.stop (x : Scanner) : Scanner :=
  { x with enable := false, plan := none, checks := List.replicate 96 none, misses := List.replicate 96 0
           sunk := none, red := List.replicate 12 .released, green := List.replicate 12 .released }

/-- A write of the scanner enable (R138). -/
def writeScannerEnable (value : List Byte) (s : State) : State × ItemResult :=
  match flagValue value with
  | none => (s, .badValue)
  | some b =>
    if b = s.scanner.enable then (s, .ok)
    else if b then ({ s with scanner := s.scanner.start s.resv.image }, .ok)
    else ({ s with scanner := s.scanner.stop }, .ok)

/-- SCANNER_ENABLE_WRITE (R138). -/
def execScannerEnableWrite (value : List Byte) (s : State) : Out := answered (writeScannerEnable value s)

/-- A column line's configuration from its value (R205). -/
def columnOf (n : Nat) : ColumnLine :=
  { used := n.testBit 0, openDrain := n.testBit 1, activeLow := n.testBit 2 }

/-- A line's configuration set, by its index in LINES (R136). -/
def Lines.setLine (l : Lines) (index n : Nat) : Lines :=
  if index < 8 then { l with rows := updAt index (fun _ => n.testBit 0) l.rows }
  else if index < 20 then { l with red := updAt (index - 8) (fun _ => columnOf n) l.red }
  else { l with green := updAt (index - 20) (fun _ => columnOf n) l.green }

/-- A write item of LINES (R136, R205). -/
def writeLines (index : Nat) (value : List Byte) (s : State) : State × ItemResult :=
  if 32 ≤ index then (s, .badIndex)
  else if s.mgmt.locked then (s, .locked)
  else
    match itemNumber value with
    | none => (s, .badValue)
    | some n =>
      if (if index < 8 then 1 else 7) < n then (s, .badValue)
      else ({ s with scanner := { s.scanner with lines := s.scanner.lines.setLine index n } }, .ok)

/-- LINES_WRITE (R136). -/
def execLinesWrite (index : Byte) (value : List Byte) (s : State) : Out :=
  answered (writeLines index.toNat value s)

/-- Every fault mark clear and every miss count 0 (R145, R147). -/
def Scanner.clearFaults (x : Scanner) : Scanner :=
  { x with faults := List.replicate 96 false, misses := List.replicate 96 0 }

/-- The CLEAR_LAMP_FAULTS action (R145). -/
def clearLampFaults (s : State) : State × ItemResult := ({ s with scanner := s.scanner.clearFaults }, .ok)

/-- CLEAR_LAMP_FAULTS (R145) as an item of ACTIONS. -/
def execClearLampFaults (s : State) : Out := answered (clearLampFaults s)

end Sys2Proof.Machine
end

