-- ==== Sys2Proof/Machine/Link.lean ====
section
/-! DEFINITION. Chapter 1: the commands of the two link ports. -/

namespace Sys2Proof.Machine

open Sys2Proof

/-! ## Port states -/

/-- Whether a lane is within the working lane limit (section 1.1). -/
def Port.within (p : Port) : LaneId → Bool
  | .zero => true
  | .one => decide (p.working.limit = .dual)

/-- Raises the port's class with the port and lane states as they stand (R13); `cause` 1 is
TRAINING_FAILED (R9). -/
def reportPort (p : PortId) (cause : Nat) (s : State) : State :=
  raise (portClass p)
    [byteOf (portStateCode (s.port p).state), byteOf (laneStateCode (s.port p).lane0.state),
     byteOf (laneStateCode (s.port p).lane1.state), byteOf cause] s

/-- A topology change: a part in VALID becomes STALE and raises CONSIST (R59). -/
def topologyChange (s : State) : State :=
  if s.consist.state = .valid then
    raiseConsist { s with consist := { s.consist with state := .stale } }
  else s

/-- A lane of a port entering DOWN: SEEKING with the first SEEK due, or OFF outside the limit (R5). -/
def Lane.toDown (within : Bool) (x : Lane) : Lane :=
  if within then { state := .seeking, tx := x.tx, trainDue := some .seek } else {}

/-- The port adopts its held settings and stands in DOWN, its first SEEK sent (R1, R5). -/
def Port.toDown (p : Port) : Port :=
  let q := { p with working := p.heldSettings }
  { q with state := .down, windowCount := 0, windowTimer := false, seekTimer := true, syncTimer := false,
           lane0 := q.lane0.toDown (q.within .zero), lane1 := q.lane1.toDown (q.within .one) }.arbitrate

/-- The port stands in OFF: its lanes OFF and quiet, its timers stopped (R4). -/
def Port.toOff (p : Port) : Port :=
  { p with state := .off, windowCount := 0, windowTimer := false, seekTimer := false, syncTimer := false,
           lane0 := {}, lane1 := {} }

/-- With an adopted presence of ABSENT a port that entered DOWN passes directly to OFF (R1). -/
def passToOff (p : PortId) (s : State) : State :=
  if (s.port p).working.presence = .absent then
    reportPort p 0 (s.setPort p (s.port p).toOff)
  else s

/-- The port enters DOWN from another state (R1, R5, R13, log 26). -/
def enterDown (p : PortId) (cause : Nat) (s : State) : State :=
  passToOff p (reportPort p cause (s.setPort p (s.port p).toDown))

/-- A port already in DOWN is taken to enter DOWN again: no state change and no report (R1). -/
def reenterDown (p : PortId) (s : State) : State :=
  passToOff p (s.setPort p (s.port p).toDown)

/-- A lane of a port entering TRAINING with the given count, its first SYNC due (R5, R6, R10). -/
def Lane.toTraining (within : Bool) (count : Nat) (x : Lane) : Lane :=
  if within then
    { state := .counting count, tx := x.tx, trainSilence := true, trainDue := some .sync }
  else {}

/-- The port stands in TRAINING with window count 1; lane `l` carried the TRAIN (R5, R10). -/
def Port.toTraining (l : LaneId) (p : Port) : Port :=
  { p with state := .training, windowCount := 1, windowTimer := true, seekTimer := false, syncTimer := true,
           lane0 := p.lane0.toTraining (p.within .zero) (if l = LaneId.zero then 1 else 0)
           lane1 := p.lane1.toTraining (p.within .one) (if l = LaneId.one then 1 else 0) }.arbitrate

/-- The port enters TRAINING (R5, R13). -/
def enterTraining (p : PortId) (l : LaneId) (s : State) : State :=
  reportPort p 0 (s.setPort p ((s.port p).toTraining l))

/-- A lane that becomes ACTIVE: its transmit-idle and receive-silence timers start (R8). -/
def Lane.toActive (x : Lane) : Lane :=
  { state := .active, tx := x.tx, idleTimer := true, rxSilence := true }

/-- A lane that is LOST: it sends nothing (R11, R12); frames it completed that wait on start order stay. -/
def Lane.toLost (x : Lane) : Lane := { state := .lost, held := x.held }

/-- The port stands in UP with the given lanes; with 6 or more frames in the RXQ it sends PAUSE at once
(R8, R9, R21). -/
def Port.toUp (st : PortState) (l0 l1 : Lane) (quanta : Nat) (p : Port) : Port :=
  let q := { p with state := st, windowCount := 0, windowTimer := false, syncTimer := false,
                    gate := .opened, gateTimer := none, pauseAsserted := false,
                    resendTimer := none, waitingPause := none, lane0 := l0, lane1 := l1 }
  (if 6 ≤ q.rxq.length then q.assertPause quanta else q).arbitrate

/-- The port enters UP: reported, and a topology change (R8, R9, R13). -/
def enterUp (p : PortId) (st : PortState) (l0 l1 : Lane) (s : State) : State :=
  topologyChange (reportPort p 0 (s.setPort p ((s.port p).toUp st l0 l1 s.link.pauseQuanta)))

/-- Every lane within the working limit is GOOD (R8). -/
def Port.allGood (p : Port) : Bool :=
  decide (p.lane0.state = .good) && (!p.within .one || decide (p.lane1.state = .good))

/-- A training window that ends early: UP_DUAL or UP_SINGLE by the limit (R8). -/
def endWindowEarly (p : PortId) (s : State) : State :=
  let q := s.port p
  if q.within .one then enterUp p .upDual q.lane0.toActive q.lane1.toActive s
  else enterUp p .upSingle q.lane0.toActive q.lane1 s

/-- A lane of a port leaving UP: frames partly sent are abandoned, what waited is dropped (R14). -/
def Lane.abandon (x : Lane) : Lane := { state := x.state }

/-- The frames that wait on start order, placed into the RXQ in their order (R14, R15). -/
def placeHeld (p : PortId) : List Frame → State → State
  | [], s => s
  | f :: fs, s => placeHeld p fs (placeRxq p f s)

/-- A port leaving UP, before it stands in its next state (R14). -/
def leaveUp (p : PortId) (s : State) : State :=
  let s := placeHeld p ((s.port p).lane0.held ++ (s.port p).lane1.held) s
  let q := s.port p
  topologyChange
    (s.setPort p { q with ftx := [], ltx := [], gate := .opened, gateTimer := none,
                          pauseAsserted := false, resendTimer := none, waitingPause := none,
                          fairness := 0, lane0 := q.lane0.abandon, lane1 := q.lane1.abandon })

/-! ## Reception (section 1.4) -/

/-- The frames held on the lane are placed, the earlier-begun frame of the other lane being placed or
discarded (R15). -/
def releaseHeld (p : PortId) (l : LaneId) (s : State) : State :=
  let fs := ((s.port p).lane l).held
  placeHeld p fs (s.setPort p ((s.port p).setLane l { (s.port p).lane l with held := [] }))

/-- A COUNTING or GOOD lane back to COUNTING with count 0 (R7). -/
def Lane.breakRun (x : Lane) : Lane :=
  match x.state with
  | .counting _ => { x with state := .counting 0 }
  | .good => { x with state := .counting 0 }
  | _ => x

/-- A frame that fails a reception check: RX_ERROR, the lane-count effect of R7 in TRAINING, and the frames
that waited on it (R15, R16). -/
def receiveBad (p : PortId) (l : LaneId) (r : RxReason) (s : State) : State :=
  let s := raise .rxError [byteOf (portCode p), byteOf (laneCode l), byteOf (rxReasonCode r)] s
  let s := if (s.port p).state = .training then
      s.setPort p ((s.port p).setLane l ((s.port p).lane l).breakRun)
    else s
  if (s.port p).isUp then arbitrate p (releaseHeld p (otherLane l) s) else s

/-- What follows a valid frame on an ACTIVE lane of a port in UP: its receive-silence timer restarts (R12) and
the frames that waited on it are placed (R15). -/
def afterValid (p : PortId) (l : LaneId) (s : State) : State :=
  let q := s.port p
  arbitrate p (releaseHeld p (otherLane l)
    (s.setPort p (q.setLane l { q.lane l with rxSilence := true })))

/-- Whether the lane is ACTIVE and the port UP. -/
def Port.activeOn (p : Port) (l : LaneId) : Bool :=
  p.isUp && decide ((p.lane l).state = .active)

/-- A lane in TRAINING counts a valid TRAIN (R7). -/
def Lane.countTrain (x : Lane) : Lane :=
  match x.state with
  | .counting n => { x with state := if 3 ≤ n then .good else .counting (n + 1), trainSilence := true }
  | .good => { x with trainSilence := true }
  | _ => x

/-- A valid TRAIN, by the port state (R5, R7, R8, R10). -/
def actTrain (p : PortId) (l : LaneId) (ph : TrainPhase) (s : State) : State :=
  match (s.port p).state with
  | .off => s
  | .down => enterTraining p l s
  | .training =>
    let s := s.setPort p ((s.port p).setLane l ((s.port p).lane l).countTrain)
    if (s.port p).allGood then endWindowEarly p s else s
  | .upDual | .upSingle =>
    match ph with
    | .seek => enterTraining p l (leaveUp p s)
    | .sync =>
      if (s.port p).activeOn l then
        afterValid p l
          (s.setPort p ((s.port p).setLane l { (s.port p).lane l with syncAnswer := true }))
      else s

/-- PAUSE(q) at the transmit gate (R22). -/
def Port.gatePause (p : Port) (q : Nat) : Port :=
  if q = 0 then { p with gate := .opened, gateTimer := none }
  else { p with gate := .closed, gateTimer := some q }

/-- A frame of a class that goes to the RXQ, received in UP on an ACTIVE lane: held on start order, or placed
(R15, R18). -/
def acceptFrame (p : PortId) (l : LaneId) (later : Bool) (f : Frame) (s : State) : State :=
  let q := s.port p
  if later && decide (q.state = .upDual) then
    s.setPort p (q.setLane l { q.lane l with rxSilence := true, held := (q.lane l).held ++ [f] })
  else afterValid p l (placeRxq p f s)

/-- RECEIVE_TRAIN (R5, R7, R10, R16, R17). A lane that is OFF is not listened to. -/
def execReceiveTrain (p : PortId) (l : LaneId) (_later : Bool) (bytes : List Byte) (s : State) : Out :=
  if ((s.port p).lane l).state = .off then .next s
  else
    match checkFrame bytes with
    | .bad r => .next (receiveBad p l r s)
    | .valid f => .next (if f.cls = 0 then actTrain p l (trainPhase f) s else s)

/-- RECEIVE_BEACON (R11, R12, R16, R17). -/
def execReceiveBeacon (p : PortId) (l : LaneId) (_later : Bool) (bytes : List Byte) (s : State) : Out :=
  if ((s.port p).lane l).state = .off then .next s
  else
    match checkFrame bytes with
    | .bad r => .next (receiveBad p l r s)
    | .valid f => .next (if f.cls = 1 ∧ (s.port p).activeOn l = true then afterValid p l s else s)

/-- RECEIVE_PAUSE (R16, R17, R22). -/
def execReceivePause (p : PortId) (l : LaneId) (_later : Bool) (bytes : List Byte) (s : State) : Out :=
  if ((s.port p).lane l).state = .off then .next s
  else
    match checkFrame bytes with
    | .bad r => .next (receiveBad p l r s)
    | .valid f =>
      .next (if f.cls = 2 ∧ (s.port p).activeOn l = true then
          afterValid p l (s.setPort p ((s.port p).gatePause (byteAt f.payload 0).toNat))
        else s)

/-- RECEIVE_FRAME (R15, R16, R18): a frame of class 3 to 63. -/
def execReceiveFrame (p : PortId) (l : LaneId) (later : Bool) (bytes : List Byte) (s : State) : Out :=
  if ((s.port p).lane l).state = .off then .next s
  else
    match checkFrame bytes with
    | .bad r => .next (receiveBad p l r s)
    | .valid f =>
      .next (if 3 ≤ f.cls.toNat ∧ (s.port p).activeOn l = true then acceptFrame p l later f s else s)

/-! ## Timers of the ports -/

/-- A TRAIN falls due on a lane in one of the given states. -/
def Lane.trainFallsDue (ph : TrainPhase) (x : Lane) : Lane :=
  match ph, x.state with
  | .seek, .seeking => { x with trainDue := some .seek }
  | .sync, .counting _ => { x with trainDue := some .sync }
  | .sync, .good => { x with trainDue := some .sync }
  | _, _ => x

/-- A TRAIN falls due on each lane of the port. -/
def Port.trainFallsDue (ph : TrainPhase) (p : Port) : Port :=
  { p with lane0 := p.lane0.trainFallsDue ph, lane1 := p.lane1.trainFallsDue ph }.arbitrate

/-- SEEK_TIMER_EXPIRY (R5). -/
def execSeekTimerExpiry (p : PortId) (s : State) : Out :=
  .next (if (s.port p).state = .down ∧ (s.port p).seekTimer = true then
      s.setPort p ((s.port p).trainFallsDue .seek)
    else s)

/-- SYNC_TIMER_EXPIRY (R6). -/
def execSyncTimerExpiry (p : PortId) (s : State) : Out :=
  .next (if (s.port p).state = .training ∧ (s.port p).syncTimer = true then
      s.setPort p ((s.port p).trainFallsDue .sync)
    else s)

/-- WINDOW_EXPIRY (R9). -/
def execWindowExpiry (p : PortId) (s : State) : Out :=
  let q := s.port p
  .next (if q.state = .training ∧ q.windowTimer = true then
      if q.allGood then endWindowEarly p s
      else if q.within .one && decide (q.lane0.state = .good) then
        enterUp p .upSingle q.lane0.toActive q.lane1.toLost s
      else if q.within .one && decide (q.lane1.state = .good) then
        enterUp p .upSingle q.lane0.toLost q.lane1.toActive s
      else if q.windowCount < 16 then
        s.setPort p { q with windowCount := q.windowCount + 1 }
      else enterDown p 1 s
    else s)

/-- TRAIN_SILENCE_EXPIRY (R7). -/
def execTrainSilenceExpiry (p : PortId) (l : LaneId) (s : State) : Out :=
  let q := s.port p
  .next (if q.state = .training ∧ (q.lane l).trainSilence = true then
      s.setPort p (q.setLane l (q.lane l).breakRun)
    else s)

/-- TRANSMIT_IDLE_EXPIRY (R11, R23). -/
def execTransmitIdleExpiry (p : PortId) (l : LaneId) (s : State) : Out :=
  let q := s.port p
  .next (if q.activeOn l = true ∧ (q.lane l).idleTimer = true then
      s.setPort p (q.setLane l { q.lane l with idleTimer := false, beaconDue := true }).arbitrate
    else s)

/-- RECEIVE_SILENCE_EXPIRY (R12, R14). -/
def execReceiveSilenceExpiry (p : PortId) (l : LaneId) (s : State) : Out :=
  let q := s.port p
  .next (if q.activeOn l = true ∧ (q.lane l).rxSilence = true then
      if q.state = .upDual then
        let q := { q with state := .upSingle }.setLane l (q.lane l).toLost
        reportPort p 0 (arbitrate p (releaseHeld p (otherLane l) (s.setPort p q)))
      else enterDown p 0 (leaveUp p s)
    else s)

/-- PAUSE_RESEND_EXPIRY (R21). -/
def execPauseResendExpiry (p : PortId) (s : State) : Out :=
  let q := s.port p
  .next (if q.isUp = true ∧ q.resendTimer.isSome = true then
      if 6 ≤ q.rxq.length then s.setPort p (q.assertPause s.link.pauseQuanta).arbitrate
      else s.setPort p { q with resendTimer := none }
    else s)

/-- GATE_TIMER_EXPIRY (R22). -/
def execGateTimerExpiry (p : PortId) (s : State) : Out :=
  let q := s.port p
  .next (if q.gateTimer.isSome = true then
      s.setPort p { q with gate := .opened, gateTimer := none }.arbitrate
    else s)

/-- TRANSMIT_DONE (R11, R23): the lane finishes its frame, its transmit-idle timer restarts when it is
ACTIVE, and the arbiter chooses again. -/
def execTransmitDone (p : PortId) (l : LaneId) (s : State) : Out :=
  let q := s.port p
  .next (match (q.lane l).tx with
    | none => s
    | some _ =>
      s.setPort p (q.setLane l { q.lane l with
        tx := none
        idleTimer := if q.activeOn l then true else (q.lane l).idleTimer }).arbitrate)

/-! ## Settings of the ports -/

/-- A write that changes the held copy of a port's settings, adopted at once in OFF and DOWN (R1). Until the
settings load ends no port leaves OFF (R2). -/
def writeHeld (p : PortId) (x : PortSettings) (s : State) : State :=
  let q := { s.port p with heldSettings := x }
  match q.state with
  | .off =>
    if x.presence = .present ∧ s.mgmt.loading = false then enterDown p 0 (s.setPort p q)
    else s.setPort p { q with working := x }
  | .down => reenterDown p (s.setPort p q)
  | .training | .upDual | .upSingle => s.setPort p q

/-- At the end of the settings load a port adopts its held copy and, when PRESENT, enters DOWN (R2). -/
def startPort (p : PortId) (s : State) : State :=
  if (s.port p).heldSettings.presence = .present then enterDown p 0 s
  else s.setPort p { s.port p with working := (s.port p).heldSettings }

end Sys2Proof.Machine
end

