-- ==== Sys2Proof/Machine/Reports.lean ====
section
/-! DEFINITION. Section 11.5: the Report Unit's configuration and its REPORT frames. -/

namespace Sys2Proof.Machine

open Sys2Proof

/-! ## Configuration -/

/-- The priority a value names (R205). -/
def priorityOf : Nat → Option Priority
  | 0 => some .normal
  | 1 => some .urgent
  | _ => none

/-- A write of a class's enable: disabling removes the due mark, enabling makes nothing due (R196). -/
def ReportCell.setEnable (b : Bool) (x : ReportCell) : ReportCell :=
  { x with enable := b, due := x.due && b }

/-- One class's cell changed. -/
def setCell (k : Nat) (f : ReportCell → ReportCell) (s : State) : State :=
  { s with reports := { s.reports with cells := updAt k f s.reports.cells } }

/-- A write item of REPORTS, index class × 3 + item (R189, R196). -/
def writeReports (index : Nat) (value : List Byte) (s : State) : State × ItemResult :=
  if 48 ≤ index then (s, .badIndex)
  else
    match index % 3 with
    | 0 =>
      match flagValue value with
      | none => (s, .badValue)
      | some b => (setCell (index / 3) (ReportCell.setEnable b) s, .ok)
    | 1 =>
      match (itemNumber value).bind priorityOf with
      | none => (s, .badValue)
      | some p => (setCell (index / 3) (fun x => { x with priority := p }) s, .ok)
    | _ =>
      match itemNumber value with
      | none => (s, .badValue)
      | some n =>
        (setCell (index / 3) (fun x => { x with offset := clampTo 0 7 n }) s,
          storedResult n (clampTo 0 7 n))

/-- REPORTS_WRITE (R196). -/
def execReportsWrite (index : Byte) (value : List Byte) (s : State) : Out :=
  answered (writeReports index.toNat value s)

/-- The CLEAR_REPORTS action: the classes whose place is set in the low 16 bits of its mask (R197, log 18). -/
def clearReports (value : List Byte) (s : State) : State × ItemResult :=
  match itemNumber value with
  | none => (s, .badValue)
  | some mask =>
    ({ s with reports := { s.reports with cells := clearMasked mask 0 s.reports.cells } }, .ok)

/-- CLEAR_REPORTS (R197) as an item of ACTIONS. -/
def execClearReports (value : List Byte) (s : State) : Out := answered (clearReports value s)

/-- Every pending flag, due mark and detail cleared (R197). -/
def Reports.clearAll (r : Reports) : Reports := { r with cells := r.cells.map clearCell }

/-! ## The REPORT frame -/

/-- The classes with their numbers. -/
def numbered (cells : List ReportCell) : List (Nat × ReportCell) := (List.range cells.length).zip cells

/-- The due classes in class number order. -/
def dueClasses (cells : List ReportCell) : List (Nat × ReportCell) :=
  (numbered cells).filter fun x => x.2.due

/-- The cause: URGENT before NORMAL, and within a priority the lowest class number (R198). -/
def causeOf (due : List (Nat × ReportCell)) : Option (Nat × ReportCell) :=
  (due.find? (fun x => decide (x.2.priority = .urgent))).orElse (fun _ => due.head?)

/-- The channel: the base with its low k bits replaced by those of the offset, the count being 2^k (R198). -/
def channelOf (base count offset : Nat) : Nat := base / count * count + offset % count

/-- The payload of a REPORT (R198, section 12.8). -/
def reportPayload (r : Reports) (cause : Nat × ReportCell) : List Byte :=
  let due := dueClasses r.cells
  [byteOf cause.1, byteOf (channelOf r.base r.count cause.2.offset)]
    ++ beBytes 2 (pendingSet r.cells) ++ [byteOf due.length]
    ++ due.flatMap (fun x => [byteOf x.1, byteOf x.2.detail.length] ++ x.2.detail)

/-- Whether an originator that comes before a REPORT still waits for the LTX of a port in UP (R20, log 35). -/
def returnWaits (p : PortId) (s : State) : Bool :=
  (s.port p).isUp && decide (s.consist.waiting.map (·.port) = some p)

def replyWaits (p : PortId) (s : State) : Bool :=
  (s.port p).isUp && decide (s.mgmt.waiting.map (·.port) = some p)

/-- Whether a REPORT offered to the LTX of a port is settled at once, those before it having gone (R20). -/
def reportFits (p : PortId) (s : State) : Bool :=
  (s.port p).ltxTakes && !returnWaits p s && !replyWaits p s

/-- Every due mark cleared (R198). -/
def Reports.sent (r : Reports) : Reports := { r with cells := r.cells.map fun x => { x with due := false } }

/-- The end toward which a REPORT goes and the port it leaves by; none when it goes both ways (R199). -/
def reportWay (s : State) : Option (TrainEnd × PortId) :=
  match s.tracker.journey, s.consist.facing with
  | some j, some p => some (j.lead, forwardOf (some p) j.lead)
  | _, _ => none

/-- REPORT_BUILD (R198, R199). -/
def execReportBuild (s : State) : Out :=
  match causeOf (dueClasses s.reports.cells) with
  | none => .next s
  | some cause =>
    let payload := reportPayload s.reports cause
    let sent := { s with reports := s.reports.sent }
    match reportWay s with
    | some (lead, p) =>
      if reportFits p s then .next (placeLtx p (endFrame 16 lead (endValue lead) payload) sent)
      else .next s
    | none =>
      if reportFits .A s ∧ reportFits .B s then
        let f := endFrame 16 .end1 3 payload
        .next (placeLtx .B f (placeLtx .A f sent))
      else .next s

end Sys2Proof.Machine
end

