-- ==== Sys2Proof/Machine/Management.lean ====
section
/-! DEFINITION. Sections 11.1 to 11.4: management frames and items, the actions, the settings store, and STATUS. -/

namespace Sys2Proof.Machine

open Sys2Proof

/-! ## Writing SETTINGS (section 11.1.2) -/

/-- A port item of SETTINGS: presence, then lane limit (R1, R205). -/
def writePortItem (p : PortId) (presence : Bool) (value : List Byte) (s : State) : State × ItemResult :=
  if s.mgmt.locked then (s, .locked)
  else
    match itemNumber value with
    | some 0 =>
      let x := (s.port p).heldSettings
      (writeHeld p (if presence then { x with presence := .present } else { x with limit := .dual }) s, .ok)
    | some 1 =>
      let x := (s.port p).heldSettings
      (writeHeld p (if presence then { x with presence := .absent } else { x with limit := .single }) s, .ok)
    | _ => (s, .badValue)

/-- The port items, SETTINGS index 0..3 (R1). -/
def writePortSettings (index : Nat) (value : List Byte) (s : State) : State × ItemResult :=
  match index with
  | 0 => writePortItem .A true value s
  | 1 => writePortItem .A false value s
  | 2 => writePortItem .B true value s
  | 3 => writePortItem .B false value s
  | _ => (s, .badIndex)

/-- A numeric item with its range (R189). -/
def writeNumber (lo hi : Nat) (value : List Byte) (set : Nat → State → State) (s : State) :
    State × ItemResult :=
  match itemNumber value with
  | none => (s, .badValue)
  | some n => (set (clampTo lo hi n) s, storedResult n (clampTo lo hi n))

/-- The report channel count stored for a value: the next lower of 1, 2, 4 and 8, and 1 for 0 (R189). -/
def channelCount (n : Nat) : Nat := if 8 ≤ n then 8 else if 4 ≤ n then 4 else if 2 ≤ n then 2 else 1

/-- The report channel count written (R189). -/
def writeChannelCount (value : List Byte) (s : State) : State × ItemResult :=
  match itemNumber value with
  | none => (s, .badValue)
  | some n =>
    ({ s with reports := { s.reports with count := channelCount n } }, storedResult n (channelCount n))

/-- A write item of SETTINGS (R189, R93, R84, R139, R141). -/
def writeSettings (index : Nat) (value : List Byte) (s : State) : State × ItemResult :=
  match index with
  | 0 | 1 | 2 | 3 => writePortSettings index value s
  | 4 => writeNumber 1 255 value (fun n s => { s with link := { s.link with pauseQuanta := n } }) s
  | 5 => writeNumber 10 255 value (fun n s => { s with tracker := { s.tracker with staleLimit := n } }) s
  | 6 => writeNumber 100 65535 value
      (fun n s => { s with tracker := { s.tracker with approachA := n } }) s
  | 7 => writeNumber 50 2000 value (fun n s => { s with tracker := { s.tracker with windowW := n } }) s
  | 8 => writeNumber 10 1000 value (fun n s => { s with tracker := { s.tracker with marginM := n } }) s
  | 9 => writeNumber 1 8 value (fun n s => { s with scanner := { s.scanner with rowPeriod := n } }) s
  | 10 => writeNumber 1 255 value
      (fun n s => { s with scanner := { s.scanner with blinkDivisor := n } }) s
  | 11 => writeScannerEnable value s
  | 12 => writeNumber 0 255 value (fun n s => { s with reports := { s.reports with base := n } }) s
  | 13 => writeChannelCount value s
  | 14 =>
    if s.mgmt.locked then (s, .locked)
    else writeNumber 0 (2 ^ 48 - 1) value
      (fun n s => { s with mgmt := { s.mgmt with storedId := BitVec.ofNat 48 n } }) s
  | 15 =>
    if s.mgmt.locked then (s, .locked)
    else writeNumber 0 99 value (fun n s => { s with mgmt := { s.mgmt with storedLabel := n } }) s
  | _ => (s, .badIndex)

/-! ## The settings store (R193) -/

/-- Byte 7 of the settings record (R205). -/
def portBits (a b : PortSettings) : Nat :=
  bit (decide (a.presence = .absent)) * 128 + bit (decide (a.limit = .single)) * 64 +
    bit (decide (b.presence = .absent)) * 32 + bit (decide (b.limit = .single)) * 16

/-- The 11 bytes a save writes, the values as they stand (R193, R205). -/
def settingsRecord (s : State) : List Byte :=
  let body := beBytes 6 s.mgmt.storedId.toNat ++
    [byteOf s.mgmt.storedLabel, byteOf (portBits s.link.portA.heldSettings s.link.portB.heldSettings),
     byteOf s.link.pauseQuanta]
  body ++ beBytes 2 (crc16 body).toNat

/-- The SAVE_SETTINGS action (R193). -/
def saveSettings (s : State) : State × ItemResult :=
  match s.mgmt.save with
  | some _ => (s, .busy)
  | none =>
    ({ s with mgmt := { s.mgmt with
        save := some { record := settingsRecord s, phase := .writeEnable }
        bus := some { command := 0x06, driven := [], reads := 0 } } }, .ok)

/-- The save stands at a phase, with a transaction on the lines or none. -/
def setSave (v : Save) (bus : Option Transaction) (s : State) : State :=
  { s with mgmt := { s.mgmt with save := some v, bus := bus } }

/-- The save ends: the store is IDLE and SETTINGS is raised, 0 OK or 1 WRITE_FAILED (R193). -/
def endSave (code : Nat) (s : State) : State :=
  raise .settings [byteOf code] { s with mgmt := { s.mgmt with save := none, bus := none } }

/-- Every byte of a read transaction reads FFh: the memory does not answer (R193). -/
def noAnswer (data : List Byte) : Bool := data.all (fun b => decide (b = 0xFF))

/-- SETTINGS_TRANSACTION_DONE (R193). -/
def execSettingsTransactionDone (data : List Byte) (s : State) : Out :=
  match s.mgmt.save with
  | none => .next s
  | some v =>
    match v.phase with
    | .writeEnable =>
      .next (setSave { v with phase := .write }
        (some { command := 0x02, driven := [0, 0] ++ v.record, reads := 0 }) s)
    | .write => .next (setSave { v with phase := .pollWait } none s)
    | .pollWait => .next s
    | .status =>
      if (data.getD 0 0xFF).getLsbD 0 then .next (setSave { v with phase := .pollWait } none s)
      else .next (setSave { v with phase := .readBack } (some { command := 0x03, driven := [0, 0], reads := 11 }) s)
    | .readBack => .next (endSave (if !noAnswer data && decide (data = v.record) then 0 else 1) s)

/-- SAVE_STATUS_POLL (R193). -/
def execSaveStatusPoll (s : State) : Out :=
  match s.mgmt.save with
  | none => .next s
  | some v =>
    match v.phase with
    | .pollWait =>
      .next (setSave { v with phase := .status } (some { command := 0x05, driven := [], reads := 1 }) s)
    | _ => .next s

/-- SAVE_TIMEOUT (R193): the status bit has not read 0 within 100 ms of the write transaction. -/
def execSaveTimeout (s : State) : Out :=
  match s.mgmt.save with
  | none => .next s
  | some v =>
    match v.phase with
    | .pollWait => .next (endSave 1 s)
    | .status => .next (endSave 1 s)
    | _ => .next s

/-! ## Lock and soft reset (R192, R195) -/

/-- The SERVICE_LOCK action (R192). -/
def serviceLock (s : State) : State × ItemResult := ({ s with mgmt := { s.mgmt with locked := true } }, .ok)

/-- The SOFT_RESET action: the drain begins, and each block already free says so (R74, R169, R195). -/
def softReset (s : State) : State × ItemResult :=
  if s.mgmt.draining then (s, .busy)
  else
    (noteNoBatch (noteEngineIdle { s with mgmt := { s.mgmt with
      draining := true, engineIdle := false, noBatch := false, drainTimer := true } }), .ok)

/-- SERVICE_LOCK (R192) as an item of ACTIONS. -/
def execServiceLock (s : State) : Out := answered (serviceLock s)

/-- SOFT_RESET (R195) as an item of ACTIONS. -/
def execSoftReset (s : State) : Out := answered (softReset s)

/-- SAVE_SETTINGS (R193) as an item of ACTIONS. -/
def execSaveSettings (s : State) : Out := answered (saveSettings s)

/-- DRAIN_TIMEOUT (R195): the 50 ms have passed; the drain is over and its effects follow. -/
def execDrainTimeout (s : State) : Out :=
  .next { s with mgmt := { s.mgmt with drainTimer := false } }

/-- A write item of ACTIONS (section 11.2). -/
def writeActions (index : Nat) (value : List Byte) (s : State) : State × ItemResult :=
  match index with
  | 0 => serviceLock s
  | 1 => softReset s
  | 2 => saveSettings s
  | 3 => clearReports value s
  | 4 => clearLampFaults s
  | 5 => abortDraw s
  | _ => (s, .badIndex)

/-- A write item applied, with its result (R189). -/
def applyWrite (i : WriteItem) (s : State) : State × ItemResult :=
  match i.table.toNat with
  | 0 => writeSettings i.index.toNat i.value s
  | 1 => writeClassify i.index.toNat i.value s
  | 2 => writeGroups i.index.toNat i.value s
  | 3 => writeSeatmap i.index.toNat i.value s
  | 4 => writePanels i.index.toNat i.value s
  | 5 => writePalettes i.index.toNat i.value s
  | 6 => writeLines i.index.toNat i.value s
  | 7 => writeDoors i.index.toNat i.value s
  | 8 => writeReports i.index.toNat i.value s
  | 9 => writeSideglyphs i.index.toNat i.value s
  | 10 => (s, if 104 < i.index.toNat then .badIndex else .readOnly)
  | 11 => writeActions i.index.toNat i.value s
  | _ => (s, .badTable)

/-! ## Reading (R190, R205) -/

def presenceCode : Presence → Nat
  | .present => 0
  | .absent => 1

def limitCode : LaneLimit → Nat
  | .dual => 0
  | .single => 1

def doorModeCode : DoorMode → Nat
  | .off => 0
  | .rising => 1
  | .falling => 2
  | .both => 3

def roleCode : Role → Nat
  | .off => 0
  | .map => 1
  | .notice => 2
  | .free => 3

/-- The value of a SETTINGS item (R189, R190). -/
def readSettings (i : Nat) (s : State) : Nat :=
  match i with
  | 0 => presenceCode s.link.portA.heldSettings.presence
  | 1 => limitCode s.link.portA.heldSettings.limit
  | 2 => presenceCode s.link.portB.heldSettings.presence
  | 3 => limitCode s.link.portB.heldSettings.limit
  | 4 => s.link.pauseQuanta
  | 5 => s.tracker.staleLimit
  | 6 => s.tracker.approachA
  | 7 => s.tracker.windowW
  | 8 => s.tracker.marginM
  | 9 => s.scanner.rowPeriod
  | 10 => s.scanner.blinkDivisor
  | 11 => bit s.scanner.enable
  | 12 => s.reports.base
  | 13 => s.reports.count
  | 14 => s.mgmt.storedId.toNat
  | _ => s.mgmt.storedLabel

/-- The value of a PANELS field but the prefix; field 15 reads 0 (R171). -/
def readPanelField (c : PanelConfig) (field : Nat) : Nat :=
  match field with
  | 0 => roleCode c.role
  | 1 => c.width
  | 2 => c.height
  | 3 => c.rowPeriod
  | 4 => c.blankRows
  | 5 => bit c.enable
  | 6 => bit c.forceBlank
  | 7 => c.font
  | 9 => c.travelled.toNat
  | 10 => c.future.toNat
  | 11 => c.stopMark.toNat
  | 12 => c.marker.toNat
  | 13 => c.markerStale.toNat
  | 14 => c.pattern.toNat
  | _ => 0

/-- The panel of a PANELS or PALETTES index. -/
def panelAt (i : Nat) (s : State) : Panel := s.panel ((panelOfNat (i / 16)).getD .p0)

/-- A PANELS item: a prefix as its codes, every other field as a number (R205). -/
def readPanels (i : Nat) (s : State) : List Byte :=
  if i % 16 = 8 then (panelAt i s).config.prefixText
  else valueBytes (readPanelField (panelAt i s).config (i % 16))

/-- The value of a column line (R205). -/
def columnValue (x : ColumnLine) : Nat := bit x.used + 2 * bit x.openDrain + 4 * bit x.activeLow

/-- The value of a LINES item. -/
def readLines (i : Nat) (l : Lines) : Nat :=
  if i < 8 then bit (l.rows.getD i false)
  else if i < 20 then columnValue (l.red.getD (i - 8) {})
  else columnValue (l.green.getD (i - 20) {})

/-- The value of a REPORTS item. -/
def readReports (i : Nat) (r : Reports) : Nat :=
  let x := r.cells.getD (i / 3) {}
  match i % 3 with
  | 0 => bit x.enable
  | 1 => priorityCode x.priority
  | _ => x.offset

/-- The value of a side glyph entry, 255 for no code. -/
def readSideglyphs (i : Nat) (k : Panels) : Nat :=
  ((match i with
    | 0 => k.sideLeft
    | 1 => k.sideRight
    | _ => k.sideBoth).map (fun (b : Byte) => b.toNat)).getD 255

/-- The five STATUS values of a port (indices 0..9). -/
def statusPort (q : Port) (k : Nat) : List Byte :=
  match k with
  | 0 => valueBytes (portStateCode q.state)
  | 1 => valueBytes (laneStateCode q.lane0.state)
  | 2 => valueBytes (laneStateCode q.lane1.state)
  | 3 => [Config.statusCode .gate (match q.gate with | .opened => 0 | .closed => 1)]
  | _ => valueBytes q.windowCount

/-- A group of 16 fault marks as a number, position 16g + j at bit j (section 11.4). -/
def faultGroup (faults : List Bool) (g : Nat) : Nat :=
  (List.range 16).foldl (fun acc j => acc + bit (faults.getD (16 * g + j) false) * 2 ^ j) 0

/-- The place of a composer state among those of R181; a panel without one has the place after them. -/
def composerPlace : Option ComposerState → Nat
  | some .clean => 0
  | some .dirty => 1
  | some .composing => 2
  | some .flipWait => 3
  | none => 4

def statusOfPosition : PositionStatus → Nat
  | .none => 0
  | .fresh => 1
  | .stale => 2

/-- The engine state's place among IDLE, COMPOSER and IN_BAND. -/
def engineStatePlace (e : Engine) : Nat :=
  match e.running with
  | none => 0
  | some u => match u.source with
    | .composer => 1
    | .inBand => 2

/-- A forward port's place among A, B and none. -/
def forwardPlace : Option PortId → Nat
  | some .A => 0
  | some .B => 1
  | none => 2

/-- STATUS of a panel: flip state, then composer state (indices 49..56). -/
def statusPanel (x : Panel) (k : Nat) : List Byte :=
  if k = 0 then [Config.statusCode .flip (bit x.flipPending)]
  else [Config.statusCode .composer (composerPlace x.composer)]

/-- STATUS of a report detail: all zero while the class has none (indices 65..80). -/
def statusDetail (r : Reports) (k : Nat) : List Byte :=
  let d := (r.cells.getD k {}).detail
  if d = [] then List.replicate (detailLength k) 0 else d

/-- STATUS of a consist table entry, all zero beyond the table (indices 81..104). -/
def statusEntry (t : List ConsistEntry) (k : Nat) : List Byte :=
  match t[k]? with
  | some e => entryBytes e
  | none => List.replicate 8 0

/-- The value of a STATUS index (section 11.4). -/
def readStatus (i : Nat) (s : State) : List Byte :=
  match i with
  | 10 => valueBytes s.link.portA.rxq.length
  | 11 => valueBytes s.link.portA.ftx.length
  | 12 => valueBytes s.link.portA.ltx.length
  | 13 => valueBytes s.link.portB.rxq.length
  | 14 => valueBytes s.link.portB.ftx.length
  | 15 => valueBytes s.link.portB.ltx.length
  | 16 => valueBytes s.classifier.consist.length
  | 17 => valueBytes (bit s.classifier.position.isSome)
  | 18 => valueBytes s.classifier.batch.length
  | 19 => valueBytes s.classifier.notice.length
  | 20 => valueBytes s.classifier.mgmt.length
  | 21 => valueBytes (consistStateCode s.consist.state)
  | 22 => valueBytes s.consist.ordinal
  | 23 => valueBytes s.consist.label
  | 24 => valueBytes s.consist.rollId.toNat
  | 25 => valueBytes (facingCode s.consist.facing)
  | 26 => valueBytes s.consist.unitId.toNat
  | 27 => valueBytes s.tracker.journeyId
  | 28 => valueBytes (trackerStateCode s.tracker.state)
  | 29 => valueBytes s.tracker.c
  | 30 => valueBytes s.tracker.n
  | 31 => valueBytes s.tracker.em
  | 32 => [Config.statusCode .positionStatus (statusOfPosition s.tracker.status)]
  | 33 => [Config.statusCode .forwardPort (forwardPlace s.forwardPort)]
  | 34 => valueBytes s.notices.queue.length
  | 35 => valueBytes s.resv.freeSegments
  | 36 => [Config.statusCode .scanner (bit s.scanner.enable)]
  | 43 => [Config.statusCode .engine (engineStatePlace s.engine)]
  | 44 => valueBytes s.engine.composerQ.length
  | 45 => valueBytes s.engine.inBandQ.length
  | 46 => valueBytes (bit s.engine.suspended.isSome)
  | 47 => valueBytes (bit s.engine.heldLine.isSome)
  | 48 => valueBytes (bit s.slots.slot0.isSome + 2 * bit s.slots.slot1.isSome)
  | 57 => valueBytes (pendingSet s.reports.cells)
  | 58 => valueBytes (bit s.mgmt.locked)
  | 59 => [Config.statusCode .store (bit s.mgmt.save.isSome)]
  | 60 => [Config.statusCode .softReset (bit s.mgmt.draining)]
  | _ =>
    if i < 5 then statusPort s.link.portA i
    else if i < 10 then statusPort s.link.portB (i - 5)
    else if i < 43 then valueBytes (faultGroup s.scanner.faults (i - 37))
    else if i < 57 then statusPanel (s.panel ((panelOfNat ((i - 49) / 2)).getD .p0)) ((i - 49) % 2)
    else if i < 65 then valueBytes (bit (s.panel ((panelOfNat (i - 61)).getD .p0)).enabled)
    else if i < 81 then statusDetail s.reports (i - 65)
    else statusEntry s.consist.table (i - 81)

/-- How many indices a table has, for a table that can be read (sections 11.1.2 and 12.7). -/
def tableSize (table : Nat) : Option Nat :=
  match table with
  | 0 => some 16
  | 1 => some 24
  | 2 => some 64
  | 3 => some 96
  | 4 => some 64
  | 5 => some 64
  | 6 => some 32
  | 7 => some 2
  | 8 => some 48
  | 9 => some 3
  | 10 => some 105
  | _ => none

/-- The value of an item as it stands (R190). -/
def readValue (table i : Nat) (s : State) : List Byte :=
  match table with
  | 0 => valueBytes (readSettings i s)
  | 1 => valueBytes (bit ((s.classifier.entries.getD (i / 3) {}).flag (i % 3)))
  | 2 => valueBytes (bit (s.classifier.groups.getLsbD i))
  | 3 => valueBytes (s.resv.seats.getD i {}).number
  | 4 => readPanels i s
  | 5 => valueBytes ((panelAt i s).palette.getD (i % 16) 0).toNat
  | 6 => valueBytes (readLines i s.scanner.lines)
  | 7 => valueBytes (doorModeCode (s.tracker.door (if i = 0 then .left else .right)).mode)
  | 8 => valueBytes (readReports i s.reports)
  | 9 => valueBytes (readSideglyphs i s.panels)
  | _ => readStatus i s

/-- A read item answered (R190). -/
def applyRead (i : ReadItem) (s : State) : Answer :=
  if 11 < i.table.toNat then { result := .badTable, values := [] }
  else
    match tableSize i.table.toNat with
    | none => { result := .badIndex, values := [] }
    | some size =>
      if i.count.toNat = 0 ∨ 32 < i.count.toNat ∨ size < i.first.toNat + i.count.toNat then
        { result := .badIndex, values := [] }
      else
        { result := .ok
          values := (List.range i.count.toNat).map fun k => readValue i.table.toNat (i.first.toNat + k) s }

/-! ## Frames and replies (sections 11.1.1 and 11.1.3) -/

/-- The port that faces an end, from the port facing END1. -/
def portToward (p : PortId) : TrainEnd → PortId
  | .end1 => p
  | .end2 => opposite p

/-- Whether a management frame is accepted on its arrival port (R61, R188). -/
def mgmtAccepted (facing : Option PortId) (c : Copy) : Bool :=
  match facing with
  | none => true
  | some p => decide (c.port = portToward p c.frame.origin)

/-- Write items applied in order, each to the state that those before it left (R188). -/
def applyWrites : List WriteItem → State → State × List Answer
  | [], s => (s, [])
  | i :: is, s =>
    let a := applyWrite i s
    let b := applyWrites is a.1
    (b.1, { result := a.2, values := [] } :: b.2)

/-- The bytes of an answer in a reply (R205). -/
def Answer.bytes (a : Answer) : List Byte :=
  [byteOf (resultCode a.result), byteOf a.values.length]
    ++ a.values.flatMap (fun v => byteOf v.length :: v)

/-- The answers that fit in the room left, in order, until one does not (R191). -/
def fitAnswers : Nat → List Answer → List Answer
  | _, [] => []
  | room, a :: as => if a.bytes.length ≤ room then a :: fitAnswers (room - a.bytes.length) as else []

/-- The payload of a MGMT_REPLY (R191, R205). -/
def replyPayload (s : State) (answers : List Answer) : List Byte :=
  let fit := fitAnswers (492 - 8) answers
  beBytes 6 s.consist.unitId.toNat ++ [byteOf s.consist.ordinal, byteOf fit.length]
    ++ fit.flatMap Answer.bytes

/-- The MGMT_REPLY to a request (R191). -/
def replyFrame (request : Frame) (payload : List Byte) : Frame :=
  { endFrame 15 request.origin (endValue request.origin) payload with
    batchId := request.batchId, seq := request.seq }

/-- A reply offered to the LTX of a port; refused, it becomes the waiting reply (R20, R191). -/
def offerReply (p : PortId) (f : Frame) (s : State) : State :=
  if (s.port p).ltxTakes then placeLtx p f { s with mgmt := { s.mgmt with waiting := none } }
  else { s with mgmt := { s.mgmt with waiting := some { frame := f, port := p } } }

/-- The head of the Management Unit's intake, when it is of a class and no reply waits (R188). -/
def mgmtHead (cls : Nat) (s : State) : Option (Copy × State) :=
  match s.mgmt.waiting, s.classifier.mgmt with
  | none, c :: rest =>
    if c.frame.cls.toNat = cls then
      some (c, { s with classifier := { s.classifier with mgmt := rest } })
    else none
  | _, _ => none

/-- A reply built from the answers and offered to the port its request came by (R191). -/
def reply (c : Copy) (answers : List Answer) (s : State) : State :=
  offerReply c.port (replyFrame c.frame (replyPayload s answers)) s

/-- MGMT_WRITE_ITEM (R188, R189): the items of the oldest frame, or one item by itself (log 6). -/
def execMgmtWriteItem (job : WriteJob) (s : State) : Out :=
  match job with
  | .item i => answered (applyWrite i s)
  | .frame =>
    match mgmtHead 13 s with
    | none => .next s
    | some (c, t) =>
      if mgmtAccepted t.consist.facing c then
        match writeItems c.frame.payload with
        | none => .next t
        | some items =>
          let a := applyWrites items t
          .next (reply c a.2 a.1)
      else .next t

/-- MGMT_READ_ITEM (R188, R190): the items of the oldest frame, or one item by itself (log 6). -/
def execMgmtReadItem (job : ReadJob) (s : State) : Out :=
  match job with
  | .item i => .next { s with mgmt := { s.mgmt with answer := some (applyRead i s) } }
  | .frame =>
    match mgmtHead 14 s with
    | none => .next s
    | some (c, t) =>
      if mgmtAccepted t.consist.facing c then
        match readItems c.frame.payload with
        | none => .next t
        | some items => .next (reply c (items.map (fun i => applyRead i t)) t)
      else .next t

/-- REPLY_RETRY (R191): the waiting reply is offered again, after a return that waits for the same LTX (R20,
log 35). -/
def execReplyRetry (s : State) : Out :=
  match s.mgmt.waiting with
  | none => .next s
  | some c => .next (if returnWaits c.port s then s else offerReply c.port c.frame s)

/-- PORT_SETTINGS_WRITE (R1). -/
def execPortSettingsWrite (index : Byte) (value : List Byte) (s : State) : Out :=
  answered (writePortSettings index.toNat value s)

/-- CLASSIFY_WRITE (R33). -/
def execClassifyWrite (index : Byte) (value : List Byte) (s : State) : Out :=
  answered (writeClassify index.toNat value s)

/-- GROUPS_WRITE (R41). -/
def execGroupsWrite (index : Byte) (value : List Byte) (s : State) : Out :=
  answered (writeGroups index.toNat value s)

end Sys2Proof.Machine
end

