-- ==== Sys2Proof/Machine/Reset.lean ====
section
/-! DEFINITION. The two resets and the end of the settings load (R2, R194, R195, and each block's reset rule). -/

namespace Sys2Proof.Machine

open Sys2Proof

/-! ## Pin reset -/

/-- A door input after a pin reset: OFF, its debounced level that of the pin (R76). -/
def Door.pinReset (x : Door) : Door := { pin := x.pin, debounced := x.pin }

/-- PIN_RESET: every block at its pin-reset value; the door pins keep their levels, which are not the part's
(R2, R76, log 13), and the commands and the free-value counter are not the part's either. -/
def execPinReset (s : State) : Out :=
  .next { State.reset with
    tracker := { State.reset.tracker with doorL := s.tracker.doorL.pinReset, doorR := s.tracker.doorR.pinReset }
    freeCount := s.freeCount
    pending := s.pending }

/-! ## The settings load (R194) -/

/-- The settings record is accepted: 11 bytes, the memory answers, and the CRC-16 checks (R193, R194). -/
def recordOk (bs : List Byte) : Bool :=
  decide (bs.length = 11) && !noAnswer bs && decide ((crc16 (bs.take 9)).toNat = natAt bs 9 2)

/-- A port's settings in the record: its ABSENT bit and its SINGLE bit of byte 7 (R205). -/
def portSettingsOf (absent single : Bool) : PortSettings :=
  { presence := if absent then .absent else .present, limit := if single then .single else .dual }

/-- The values the load gives: unit ID, label, pause quanta, and both ports' held settings (R2, R42, R194). -/
def loadValues (unitId : UnitId) (label quanta : Nat) (a b : PortSettings) (s : State) : State :=
  { s with
    consist := { s.consist with unitId := unitId, label := label }
    mgmt := { s.mgmt with
      storedId := unitId, storedLabel := label, loading := false
      bus := if s.mgmt.save.isSome then s.mgmt.bus else none }
    link := { s.link with
      pauseQuanta := quanta
      portA := { s.link.portA with heldSettings := a }
      portB := { s.link.portB with heldSettings := b } } }

/-- The values of an accepted record: a label above 99 is loaded as 0, pause quanta of 0 as 1 (R205). -/
def loadRecord (bs : List Byte) (s : State) : State :=
  let label := natAt bs 6 1
  let bits := byteAt bs 7
  loadValues (BitVec.ofNat 48 (natAt bs 0 6)) (if label ≤ 99 then label else 0) (max 1 (natAt bs 8 1))
    (portSettingsOf (bits.getLsbD 7) (bits.getLsbD 6)) (portSettingsOf (bits.getLsbD 5) (bits.getLsbD 4)) s

/-- The defaults, with SETTINGS raised, detail LOAD_FAILED (R194). -/
def loadDefaults (s : State) : State := raise .settings [2] (loadValues 0 0 40 {} {} s)

/-- SETTINGS_LOAD_END (R2, R194): each port then adopts its held settings, and a PRESENT one enters DOWN. -/
def execSettingsLoadEnd (answer : List Byte) (s : State) : Out :=
  if s.mgmt.loading then
    let t := if recordOk answer then loadRecord answer s else loadDefaults s
    .next (startPort .B (startPort .A t))
  else .next s

/-! ## Soft reset effects (R195) -/

/-- A port's part: the LTX emptied and the fairness count 0 (R3). -/
def Port.softReset (p : Port) : Port := { p with ltx := [], fairness := 0 }

/-- The intakes emptied, but for the Management Unit's (R38). -/
def Classifier.softReset (k : Classifier) : Classifier :=
  { k with consist := [], position := none, batch := [], notice := [] }

/-- The Raster Engine's part: nothing runs, waits or is held, and both pattern positions are 15 (R170). -/
def Engine.softReset (_ : Engine) : Engine := {}

/-- A panel's part: a MAP or NOTICE panel is DIRTY with its redo mark clear; its pages and flip state stay
(R175, R187). -/
def Panel.softReset (x : Panel) : Panel := { x with composer := x.config.role.composer, redo := false }

/-- The Panel Unit's part (R187). -/
def Panels.softReset (k : Panels) : Panels :=
  { k with
    panel0 := k.panel0.softReset, panel1 := k.panel1.softReset
    panel2 := k.panel2.softReset, panel3 := k.panel3.softReset, composing := none }

/-- The Management Unit's part: the drain is over; lock, store, stored identity, waiting reply and intake stay
(R195). -/
def Mgmt.softReset (m : Mgmt) : Mgmt := { m with draining := false, drainTimer := false }

/-- Every block's part, in one event (R195). -/
def applySoftReset (s : State) : State :=
  { s with
    link := { s.link with portA := s.link.portA.softReset, portB := s.link.portB.softReset }
    classifier := s.classifier.softReset
    consist := s.consist.softReset
    slots := {}
    tracker := s.tracker.close
    notices := s.notices.softReset
    resv := s.resv.softReset
    scanner := s.scanner.clearFaults
    engine := s.engine.softReset
    panels := s.panels.softReset
    mgmt := s.mgmt.softReset
    reports := s.reports.clearAll }

/-- The waiting reply is offered again at once, to the LTX just emptied, and placed (R191). -/
def reofferReply (s : State) : State :=
  match s.mgmt.waiting with
  | none => s
  | some c => offerReply c.port c.frame s

/-- The drain has ended: both marks are set, or its timer has run out (R195). -/
def Mgmt.drained (m : Mgmt) : Bool := m.draining && ((m.engineIdle && m.noBatch) || !m.drainTimer)

/-- SOFT_RESET_EFFECTS (R195). What a running record had drawn stays in its page (R170). -/
def execSoftResetEffects (s : State) : Out :=
  .next (if s.mgmt.drained then reofferReply (applySoftReset (meetRunning s)) else s)

end Sys2Proof.Machine
end

