-- ==== Sys2Proof/Machine/Dispatch.lean ====
section
/-! DEFINITION. The meaning of every command: one arm per row of the table, each one call. -/

namespace Sys2Proof.Machine

open Sys2Proof

def exec (i : Instr) (s : State) : Host.Outcome State Fault Refusal :=
  match i with
  | .pinReset => Sys2Proof.Machine.execPinReset s
  | .settingsLoadEnd answer => Sys2Proof.Machine.execSettingsLoadEnd answer s
  | .seekTimerExpiry p => Sys2Proof.Machine.execSeekTimerExpiry p s
  | .syncTimerExpiry p => Sys2Proof.Machine.execSyncTimerExpiry p s
  | .receiveTrain p l later bytes => Sys2Proof.Machine.execReceiveTrain p l later bytes s
  | .receiveBeacon p l later bytes => Sys2Proof.Machine.execReceiveBeacon p l later bytes s
  | .receivePause p l later bytes => Sys2Proof.Machine.execReceivePause p l later bytes s
  | .receiveFrame p l later bytes => Sys2Proof.Machine.execReceiveFrame p l later bytes s
  | .windowExpiry p => Sys2Proof.Machine.execWindowExpiry p s
  | .trainSilenceExpiry p l => Sys2Proof.Machine.execTrainSilenceExpiry p l s
  | .transmitIdleExpiry p l => Sys2Proof.Machine.execTransmitIdleExpiry p l s
  | .receiveSilenceExpiry p l => Sys2Proof.Machine.execReceiveSilenceExpiry p l s
  | .pauseResendExpiry p => Sys2Proof.Machine.execPauseResendExpiry p s
  | .gateTimerExpiry p => Sys2Proof.Machine.execGateTimerExpiry p s
  | .transmitDone p l => Sys2Proof.Machine.execTransmitDone p l s
  | .classifyFrame p => Sys2Proof.Machine.execClassifyFrame p s
  | .takeRoll => Sys2Proof.Machine.execTakeRoll s
  | .takeRollReturn => Sys2Proof.Machine.execTakeRollReturn s
  | .rollReturnRetry => Sys2Proof.Machine.execRollReturnRetry s
  | .rollTimeout => Sys2Proof.Machine.execRollTimeout s
  | .takeLabels => Sys2Proof.Machine.execTakeLabels s
  | .batchSingle => Sys2Proof.Machine.execBatchSingle s
  | .batchStart => Sys2Proof.Machine.execBatchStart s
  | .batchMiddle => Sys2Proof.Machine.execBatchMiddle s
  | .batchEnd => Sys2Proof.Machine.execBatchEnd s
  | .batchTimeout slot => Sys2Proof.Machine.execBatchTimeout slot s
  | .takePosition => Sys2Proof.Machine.execTakePosition s
  | .tick => Sys2Proof.Machine.execTick s
  | .stalenessExpiry => Sys2Proof.Machine.execStalenessExpiry s
  | .doorLevelChange d level => Sys2Proof.Machine.execDoorLevelChange d level s
  | .debounceExpiry d => Sys2Proof.Machine.execDebounceExpiry d s
  | .noticeJourneyReset => Sys2Proof.Machine.execNoticeJourneyReset s
  | .noticeHandoff => Sys2Proof.Machine.execNoticeHandoff s
  | .takeNotice => Sys2Proof.Machine.execTakeNotice s
  | .dwellExpiry => Sys2Proof.Machine.execDwellExpiry s
  | .noticeFlipReport => Sys2Proof.Machine.execNoticeFlipReport s
  | .noticeEnableChange => Sys2Proof.Machine.execNoticeEnableChange s
  | .flush => Sys2Proof.Machine.execFlush s
  | .purge => Sys2Proof.Machine.execPurge s
  | .lampRowPeriodEnd => Sys2Proof.Machine.execLampRowPeriodEnd s
  | .senseSample red green => Sys2Proof.Machine.execSenseSample red green s
  | .drawRecordEnd => Sys2Proof.Machine.execDrawRecordEnd s
  | .drawRecordSuspend units => Sys2Proof.Machine.execDrawRecordSuspend units s
  | .composeTurn => Sys2Proof.Machine.execComposeTurn s
  | .composerPlaceRecord => Sys2Proof.Machine.execComposerPlaceRecord s
  | .panelRowEnd panel => Sys2Proof.Machine.execPanelRowEnd panel s
  | .frameBoundary panel => Sys2Proof.Machine.execFrameBoundary panel s
  | .mgmtReadItem job => Sys2Proof.Machine.execMgmtReadItem job s
  | .mgmtWriteItem job => Sys2Proof.Machine.execMgmtWriteItem job s
  | .portSettingsWrite index value => Sys2Proof.Machine.execPortSettingsWrite index value s
  | .scannerEnableWrite value => Sys2Proof.Machine.execScannerEnableWrite value s
  | .classifyWrite index value => Sys2Proof.Machine.execClassifyWrite index value s
  | .groupsWrite index value => Sys2Proof.Machine.execGroupsWrite index value s
  | .seatmapWrite index value => Sys2Proof.Machine.execSeatmapWrite index value s
  | .panelRoleWrite panel value => Sys2Proof.Machine.execPanelRoleWrite panel value s
  | .panelEnableWrite panel value => Sys2Proof.Machine.execPanelEnableWrite panel value s
  | .panelGeometryWrite panel field value => Sys2Proof.Machine.execPanelGeometryWrite panel field value s
  | .panelTimingWrite panel field value => Sys2Proof.Machine.execPanelTimingWrite panel field value s
  | .panelFieldWrite panel field value => Sys2Proof.Machine.execPanelFieldWrite panel field value s
  | .palettesWrite index value => Sys2Proof.Machine.execPalettesWrite index value s
  | .linesWrite index value => Sys2Proof.Machine.execLinesWrite index value s
  | .doorsWrite index value => Sys2Proof.Machine.execDoorsWrite index value s
  | .reportsWrite index value => Sys2Proof.Machine.execReportsWrite index value s
  | .sideglyphsWrite index value => Sys2Proof.Machine.execSideglyphsWrite index value s
  | .serviceLock => Sys2Proof.Machine.execServiceLock s
  | .softReset => Sys2Proof.Machine.execSoftReset s
  | .drainTimeout => Sys2Proof.Machine.execDrainTimeout s
  | .softResetEffects => Sys2Proof.Machine.execSoftResetEffects s
  | .saveSettings => Sys2Proof.Machine.execSaveSettings s
  | .settingsTransactionDone data => Sys2Proof.Machine.execSettingsTransactionDone data s
  | .saveStatusPoll => Sys2Proof.Machine.execSaveStatusPoll s
  | .saveTimeout => Sys2Proof.Machine.execSaveTimeout s
  | .clearReports value => Sys2Proof.Machine.execClearReports value s
  | .clearLampFaults => Sys2Proof.Machine.execClearLampFaults s
  | .abortDraw => Sys2Proof.Machine.execAbortDraw s
  | .replyRetry => Sys2Proof.Machine.execReplyRetry s
  | .reportBuild => Sys2Proof.Machine.execReportBuild s

end Sys2Proof.Machine
end

