-- ==== Sys2Proof/WellFormed.lean ====
section
/-! DEFINITION. When a command is one that its table row describes. A command that is not well formed still
has a meaning (`exec` is total); no row of the table stands for it. -/

namespace Sys2Proof

/-- A value length above 17 fails the form check of R188 (R204), so no item carries one. -/
def valueOk (v : List Byte) : Bool := decide (v.length ≤ 17)

/-- The write items that have a row of their own in the table, and so are not MGMT_WRITE_ITEM's. -/
def hasOwnRow (i : WriteItem) : Bool :=
  match i.table.toNat with
  | 0 => decide (i.index.toNat < 4) || decide (i.index.toNat = 11)
  | 1 => decide (i.index.toNat < 24)
  | 2 => decide (i.index.toNat < 64)
  | 3 => decide (i.index.toNat < 96)
  | 4 => decide (i.index.toNat < 64) && decide (i.index.toNat % 16 ≠ 15)
  | 5 => decide (i.index.toNat < 64)
  | 6 => decide (i.index.toNat < 32)
  | 7 => decide (i.index.toNat < 2)
  | 8 => decide (i.index.toNat < 48)
  | 9 => decide (i.index.toNat < 3)
  | 11 => decide (i.index.toNat < 6)
  | _ => false

/-- Well-formedness of a command. -/
def Instr.WellFormed : Instr → Bool
  | .settingsLoadEnd answer => decide (answer.length = 11)
  | .drawRecordSuspend units => decide (0 < units)
  | .mgmtWriteItem (.item i) => valueOk i.value && !hasOwnRow i
  | .portSettingsWrite index value => decide (index.toNat < 4) && valueOk value
  | .scannerEnableWrite value => valueOk value
  | .classifyWrite index value => decide (index.toNat < 24) && valueOk value
  | .groupsWrite index value => decide (index.toNat < 64) && valueOk value
  | .seatmapWrite index value => decide (index.toNat < 96) && valueOk value
  | .panelRoleWrite _ value => valueOk value
  | .panelEnableWrite _ value => valueOk value
  | .panelGeometryWrite _ _ value => valueOk value
  | .panelTimingWrite _ _ value => valueOk value
  | .panelFieldWrite _ field value =>
      decide (6 ≤ field.toNat) && decide (field.toNat ≤ 14) && valueOk value
  | .palettesWrite index value => decide (index.toNat < 64) && valueOk value
  | .linesWrite index value => decide (index.toNat < 32) && valueOk value
  | .doorsWrite index value => decide (index.toNat < 2) && valueOk value
  | .reportsWrite index value => decide (index.toNat < 48) && valueOk value
  | .sideglyphsWrite index value => decide (index.toNat < 3) && valueOk value
  | .settingsTransactionDone data => decide (data.length ≤ 11)
  | .clearReports value => valueOk value
  | .pinReset | .seekTimerExpiry _ | .syncTimerExpiry _ | .receiveTrain _ _ _ _
  | .receiveBeacon _ _ _ _ | .receivePause _ _ _ _ | .receiveFrame _ _ _ _ | .windowExpiry _
  | .trainSilenceExpiry _ _ | .transmitIdleExpiry _ _ | .receiveSilenceExpiry _ _
  | .pauseResendExpiry _ | .gateTimerExpiry _ | .transmitDone _ _ | .classifyFrame _ | .takeRoll
  | .takeRollReturn | .rollReturnRetry | .rollTimeout | .takeLabels | .batchSingle | .batchStart
  | .batchMiddle | .batchEnd | .batchTimeout _ | .takePosition | .tick | .stalenessExpiry
  | .doorLevelChange _ _ | .debounceExpiry _ | .noticeJourneyReset | .noticeHandoff | .takeNotice
  | .dwellExpiry | .noticeFlipReport | .noticeEnableChange | .flush | .purge | .lampRowPeriodEnd
  | .senseSample _ _ | .drawRecordEnd | .composeTurn | .composerPlaceRecord | .panelRowEnd _
  | .frameBoundary _ | .mgmtReadItem _ | .mgmtWriteItem .frame | .serviceLock | .softReset
  | .drainTimeout | .softResetEffects | .saveSettings | .saveStatusPoll | .saveTimeout
  | .clearLampFaults | .abortDraw | .replyRetry | .reportBuild => true

end Sys2Proof
end

