-- ==== Sys2Proof/Safety.lean ====
section
/-! DEFINITION. What claims are stated in: the parts of the state, what a command leaves unchanged, and the laws of
each block that every command keeps. -/

namespace Sys2Proof.Machine

open Sys2Proof

/-! ## Frames -/

/-- The parts of the state, one for each field of `State`. -/
inductive Part
  | link | classifier | consist | slots | tracker | notices | resv | scanner | engine | panels | mgmt
  | reports | freeCount | pending
deriving DecidableEq, Repr

/-- Every part but those listed is the same in both states. -/
structure UnchangedBut (ps : List Part) (s t : State) : Prop where
  link : Part.link ∉ ps → t.link = s.link
  classifier : Part.classifier ∉ ps → t.classifier = s.classifier
  consist : Part.consist ∉ ps → t.consist = s.consist
  slots : Part.slots ∉ ps → t.slots = s.slots
  tracker : Part.tracker ∉ ps → t.tracker = s.tracker
  notices : Part.notices ∉ ps → t.notices = s.notices
  resv : Part.resv ∉ ps → t.resv = s.resv
  scanner : Part.scanner ∉ ps → t.scanner = s.scanner
  engine : Part.engine ∉ ps → t.engine = s.engine
  panels : Part.panels ∉ ps → t.panels = s.panels
  mgmt : Part.mgmt ∉ ps → t.mgmt = s.mgmt
  reports : Part.reports ∉ ps → t.reports = s.reports
  freeCount : Part.freeCount ∉ ps → t.freeCount = s.freeCount
  pending : Part.pending ∉ ps → t.pending = s.pending

/-- Nothing but one port has changed. -/
structure OnlyPort (p : PortId) (s t : State) : Prop where
  parts : UnchangedBut [.link] s t
  other : t.port (opposite p) = s.port (opposite p)
  quanta : t.link.pauseQuanta = s.link.pauseQuanta

/-- Nothing but the lanes of a port has changed. -/
def Port.SameButLanes (q r : Port) : Prop := { r with lane0 := q.lane0, lane1 := q.lane1 } = q

/-- A port after frames have been placed in turn at the tail of its RXQ: those that fit, and in UP the PAUSE that it
decides to send as the occupancy reaches 6 (R16, R18, R21). -/
def Port.placed (fs : List Frame) (quanta : Nat) (q : Port) : Port :=
  let r := { q with rxq := q.rxq ++ fs.take (8 - q.rxq.length) }
  if q.isUp = true ∧ q.rxq.length < 6 ∧ 6 ≤ q.rxq.length + fs.length then
    { r with waitingPause := some (byteOf quanta), pauseAsserted := true
             resendTimer := some (max 1 (quanta / 2)) }
  else r

/-- What port `q` does for flow control as it enters UP and becomes `r` (R8, R21). With 6 frames or more in the RXQ it
marks the pause asserted, starts its resend timer at half the quanta, at least 1, and sends PAUSE at once: on lane 0
when that is ACTIVE and free, else on such a lane 1, else the PAUSE waits. With fewer it sends none: the mark is clear
and the timer stopped. -/
def FlowCheckedOnUp (quanta : Nat) (q r : Port) : Prop :=
  let pause := byteOf quanta
  let free := fun l => (r.lane l).state = .active ∧ (q.lane l).tx = none
  r.rxq = q.rxq ∧ r.gateTimer = none ∧
  (q.rxq.length < 6 → r.pauseAsserted = false ∧ r.resendTimer = none ∧ r.waitingPause = none) ∧
  (6 ≤ q.rxq.length → r.pauseAsserted = true ∧ r.resendTimer = some (max 1 (quanta / 2)) ∧
    (free .zero → r.lane0.tx = some (pauseFrame pause) ∧ r.waitingPause = none) ∧
    (¬ free .zero → free .one → r.lane1.tx = some (pauseFrame pause) ∧ r.waitingPause = none) ∧
    (¬ free .zero → ¬ free .one → r.waitingPause = some pause))

/-- OVERFLOW raised with detail RXQ and the port, when one of those frames finds no place (R16). -/
def State.rxFull (p : PortId) (fs : List Frame) (s : State) : State :=
  if fs ≠ [] ∧ 8 < (s.port p).rxq.length + fs.length then raise .overflow [0, byteOf (portCode p)] s else s

/-- A state with the answer to an item command kept (log 6). -/
def State.recorded (r : ItemResult) (s : State) : State :=
  { s with mgmt := { s.mgmt with answer := some { result := r, values := [] } } }

/-- The parts of the state that a command may change; it changes no other (each chapter's rules). -/
def touched : Instr → List Part
  | .pinReset =>
    [.link, .classifier, .consist, .slots, .tracker, .notices, .resv, .scanner, .engine, .panels, .mgmt, .reports]
  | .settingsLoadEnd _ => [.link, .consist, .mgmt, .reports]
  | .seekTimerExpiry _ | .syncTimerExpiry _ | .trainSilenceExpiry _ _ | .transmitIdleExpiry _ _
  | .pauseResendExpiry _ | .gateTimerExpiry _ | .transmitDone _ _ => [.link]
  | .receiveTrain _ _ _ _ | .windowExpiry _ | .receiveSilenceExpiry _ _ => [.link, .consist, .reports]
  | .receiveBeacon _ _ _ _ | .receivePause _ _ _ _ | .receiveFrame _ _ _ _ => [.link, .reports]
  | .classifyFrame _ => [.link, .classifier, .engine, .panels, .notices, .mgmt, .reports]
  | .takeRoll | .takeRollReturn => [.link, .classifier, .consist, .resv, .panels, .reports]
  | .rollReturnRetry => [.link, .consist]
  | .rollTimeout => [.consist, .reports]
  | .takeLabels => [.classifier, .consist, .resv, .reports]
  | .batchSingle | .batchEnd =>
    [.classifier, .slots, .tracker, .notices, .resv, .engine, .panels, .mgmt, .reports, .freeCount]
  | .batchStart => [.classifier, .slots, .reports]
  | .batchMiddle => [.classifier, .slots, .mgmt, .reports]
  | .batchTimeout _ => [.slots, .mgmt, .reports]
  | .takePosition => [.classifier, .tracker, .notices, .resv, .panels, .reports]
  | .tick | .debounceExpiry _ => [.tracker, .notices, .resv, .panels, .reports]
  | .stalenessExpiry => [.tracker, .panels, .reports]
  | .doorLevelChange _ _ => [.tracker]
  | .noticeJourneyReset | .dwellExpiry => [.notices, .panels]
  | .noticeHandoff => [.notices, .panels, .reports]
  | .takeNotice => [.classifier, .notices, .panels, .reports]
  | .noticeFlipReport | .noticeEnableChange => [.notices]
  | .flush | .purge => [.resv]
  | .lampRowPeriodEnd => [.scanner, .reports]
  | .senseSample _ _ => [.scanner]
  | .drawRecordEnd | .drawRecordSuspend _ => [.engine, .panels, .notices, .mgmt, .reports]
  | .composeTurn | .composerPlaceRecord => [.engine, .panels, .notices, .mgmt, .reports]
  | .panelRowEnd _ => [.panels]
  | .frameBoundary _ => [.engine, .panels, .notices, .mgmt, .reports]
  | .mgmtReadItem _ => [.link, .classifier, .mgmt]
  | .mgmtWriteItem _ =>
    [.link, .classifier, .tracker, .notices, .resv, .scanner, .engine, .panels, .mgmt, .reports, .freeCount]
  | .portSettingsWrite _ _ => [.link, .mgmt, .reports]
  | .scannerEnableWrite _ | .linesWrite _ _ | .clearLampFaults => [.scanner, .mgmt]
  | .classifyWrite _ _ | .groupsWrite _ _ => [.classifier, .mgmt]
  | .seatmapWrite _ _ => [.resv, .mgmt]
  | .panelRoleWrite _ _ | .panelEnableWrite _ _ => [.engine, .panels, .notices, .mgmt, .reports]
  | .panelGeometryWrite _ _ _ => [.engine, .panels, .mgmt, .freeCount]
  | .panelTimingWrite _ _ _ | .sideglyphsWrite _ _ => [.panels, .mgmt]
  | .panelFieldWrite _ _ _ | .palettesWrite _ _ => [.panels, .mgmt, .freeCount]
  | .doorsWrite _ _ => [.tracker, .mgmt]
  | .reportsWrite _ _ | .clearReports _ => [.mgmt, .reports]
  | .serviceLock | .softReset | .drainTimeout | .saveSettings | .saveStatusPoll => [.mgmt]
  | .softResetEffects =>
    [.link, .classifier, .consist, .slots, .tracker, .notices, .resv, .scanner, .engine, .panels, .mgmt,
     .reports, .freeCount]
  | .settingsTransactionDone _ | .saveTimeout => [.mgmt, .reports]
  | .abortDraw => [.engine, .panels, .notices, .mgmt, .reports, .freeCount]
  | .replyRetry => [.link, .mgmt]
  | .reportBuild => [.link, .reports]

/-- Outside a drain, command `c` hands the whole load `content` of class `k` to its owner, which meets state `t`: a
SINGLE part `f` that takes a FREE slot with none of its class assembling, or an END part that its slot accepts, the
part out of the intake and the slot FREE (R64, R70, R71). -/
def HandsOver (c : Instr) (k : LoadClass) (f : Frame) (content : List Byte) (parts : Nat) (s t : State) : Prop :=
  s.mgmt.draining = false ∧ loadClassOf f.cls.toNat = some k ∧
  ∃ (arrival : PortId) (rest : List Copy), s.classifier.batch = { frame := f, port := arrival } :: rest ∧
    ((c = .batchSingle ∧ f.part = .single ∧ content = f.payload ∧ parts = 1 ∧
        (∀ i b, s.slots.slot i = some b → b.cls ≠ k) ∧ (∃ i, s.slots.slot i = none) ∧
        t = { s with classifier := { s.classifier with batch := rest } }) ∨
      ∃ i b, c = .batchEnd ∧ f.part = .finish ∧ content = b.content ++ f.payload ∧ parts = b.parts + 1 ∧
        s.slots.slot i = some b ∧ b.cls = k ∧ b.origin = f.origin ∧ b.batchId = f.batchId ∧
        (i = .one → ∀ x, s.slots.slot0 = some x → ¬ (x.cls = k ∧ x.origin = f.origin ∧ x.batchId = f.batchId)) ∧
        b.expected = some f.seq.toNat ∧ content.length ≤ 16384 ∧
        t = { s with classifier := { s.classifier with batch := rest }, slots := s.slots.setSlot i none })

/-- What a load handed over leaves when its owner commits it: BATCH_DONE upon the owner's new state (R73). -/
def batchCommitted (k : LoadClass) (f : Frame) (content : List Byte) (parts : Nat) (u : State) : State :=
  raise .batchDone ([byteOf (loadClassCode k), byteOf (endCode f.origin), f.batchId] ++ beBytes 2 parts ++
    beBytes 2 content.length) u

/-- What it leaves when its owner rejects it: BATCH_REJECTED with INVALID, record index and cause (R72, R73). -/
def batchInvalid (k : LoadClass) (f : Frame) (cause index : Nat) (t : State) : State :=
  raise .batchRejected ([byteOf (loadClassCode k), byteOf (endCode f.origin), f.batchId, 6, f.seq] ++
    beBytes 2 index ++ [byteOf cause]) t

/-- A notice queue with the entry count and the detail of the last loss, while notices are offered to it one after
another (R111 to R113). -/
structure QueueRun where
  queue : List Notice
  count : EntryNumber
  /-- The detail of NOTICE_DROPPED, if a notice has been lost. -/
  lost : Option (List Byte) := none
deriving DecidableEq, Repr

/-- A notice placed with the next entry number, behind the head after every waiting entry of its own or higher
priority (R111). -/
def QueueRun.place (m : Notice) (r : QueueRun) : QueueRun :=
  let m := { m with number := r.count + 1 }
  { r with
    count := r.count + 1
    queue := match r.queue with
      | [] => [m]
      | head :: waiting =>
        let urgent := waiting.filter (fun e => decide (e.priority = .urgent))
        let normal := waiting.filter (fun e => decide (e.priority = .normal))
        match m.priority with
        | .urgent => head :: (urgent ++ m :: normal)
        | .normal => head :: (waiting ++ [m]) }

/-- A notice lost; `why` is 0 for FULL and 1 for DISPLACED (R113). -/
def QueueRun.lose (why : Byte) (m : Notice) (r : QueueRun) : QueueRun :=
  { r with lost := some [why, byteOf (noticeKindCode m.kind), byteOf (priorityCode m.priority),
      byteOf (noticeSourceCode m.source), byteOf (m.target.getD 255)] }

/-- A notice offered: one of kind NEXT_STOP or ARRIVING first removes every entry of its kind (R112); with room it
is placed; into a full queue an URGENT one displaces the NORMAL entry that has waited the shortest, and any other is
dropped (R113). -/
def QueueRun.offer (r : QueueRun) (m : Notice) : QueueRun :=
  let r := if m.kind = .nextStop ∨ m.kind = .arriving then
    { r with queue := r.queue.filter (fun e => decide (e.kind ≠ m.kind)) } else r
  if r.queue.length < 8 then r.place m
  else
    let urgent := r.queue.tail.filter (fun e => decide (e.priority = .urgent))
    let normal := r.queue.tail.filter (fun e => decide (e.priority = .normal))
    match m.priority, normal.getLast? with
    | .urgent, some x =>
      ({ r.lose 1 x with queue := r.queue.take 1 ++ urgent ++ normal.dropLast } : QueueRun).place m
    | _, _ => r.lose 0 m

/-- The value a raster op gives from a source colour and the present value: REPLACE, OR, AND, XOR, INVERT and KEEP
by their codes (R150). -/
def ropValue (rop : Byte) (src old : Pixel) : Pixel :=
  if rop = 0 then src
  else if rop = 1 then src ||| old
  else if rop = 2 then src &&& old
  else if rop = 3 then src ^^^ old
  else if rop = 4 then 15 - old
  else old

/-- A pixel lies in the record's clip rectangle (R149). -/
def Record.clips (r : Record) (i j : Int) : Prop :=
  r.clipX ≤ i ∧ i < r.clipX + r.clipW ∧ r.clipY ≤ j ∧ j < r.clipY + r.clipH

/-- `pixels` is the page `old` of panel `x` with the raster op applied, from the source colours of `paint`, to
exactly the pixels (i, j) in the panel that `paint` gives a colour. -/
def PaintsExactly (x : Panel) (rop : Byte) (paint : Nat → Nat → Option Pixel) (old pixels : Store) : Prop :=
  pixels.wf = true ∧
  (∀ i j, i < x.config.width → j < x.config.height →
    pixels.get (j * 512 + i) = match paint i j with
      | some c => ropValue rop c (old.get (j * 512 + i))
      | none => old.get (j * 512 + i)) ∧
  ∀ a, (∀ i j, i < x.config.width → j < x.config.height → a ≠ j * 512 + i) → pixels.get a = old.get a

/-- The record `u` runs for panel `p`, at the start of a unit; the panel is at most 512
wide and its back page canonical. -/
def RunsAtUnit (s : State) (u : Running) (p : PanelId) : Prop :=
  s.engine.running = some u ∧ u.record.target = some p ∧ u.part = 0 ∧ u.cell = none ∧
    (s.panel p).config.width ≤ 512 ∧ (s.panel p).back.pixels.wf = true

/-- DRAW_RECORD_END of the record `u` on panel `p`: the back page takes exactly the pixels of `paint` that are in the
clip, no record runs, nothing else changes, and the engine arbiter chooses again (R149, R164). -/
def EndsPainting (s : State) (u : Running) (p : PanelId) (paint : Nat → Nat → Option Pixel) : Prop :=
  ∃ pixels : Store,
    exec .drawRecordEnd s = .next (runEngine
      { s.setPanel p { s.panel p with back := { (s.panel p).back with pixels := pixels } } with
        engine := { s.engine with running := none } }) ∧
    ∀ visible : Nat → Nat → Option Pixel,
      (∀ i j : Nat, u.record.clips i j → visible i j = paint i j) →
      (∀ i j : Nat, ¬ u.record.clips i j → visible i j = none) →
      PaintsExactly (s.panel p) u.record.rop visible (s.panel p).back.pixels pixels

/-- A pixel of a glyph cell at offset (i, j): the foreground colour for a bitmap bit of 1, and for a bit of 0 the
background colour, or nothing when transparent; a code of 253 or more, or one with no bitmap, is blank (R159,
section 12.5). -/
def Font.paint (f : Font) (code fg bg : Byte) (transparent : Bool) (i j : Nat) : Option Pixel :=
  let bitmap := if 253 ≤ code.toNat then none
    else (f.bitmaps.find? (fun b => decide (b.1 = code.toNat))).map (·.2)
  let on := match bitmap with
    | some bytes => (bytes.getD (j * ((f.width + 7) / 8) + i / 8) 0).getLsbD (7 - i % 8)
    | none => false
  if on then some (BitVec.ofNat 4 fg.toNat) else if transparent then none else some (BitVec.ofNat 4 bg.toNat)

/-- The point of a line at step `i`: the major coordinate moved `i` places toward the end, the minor one the least
whole number not below its exact value less 1/2 (R153). -/
def LinePoint (x0 y0 x1 y1 : Int) (i : Nat) (pt : Int × Int) : Prop :=
  let dx := x1 - x0
  let dy := y1 - y0
  let D : Int := max dx.natAbs dy.natAbs
  let nearest := fun m0 dm m : Int =>
    (D = 0 → m = m0) ∧
    (0 < D → 2 * (m0 * D + dm * i) - D ≤ 2 * D * m ∧ 2 * D * (m - 1) < 2 * (m0 * D + dm * i) - D)
  if dy.natAbs ≤ dx.natAbs then pt.1 = x0 + dx.sign * i ∧ nearest y0 dy pt.2
  else pt.2 = y0 + dy.sign * i ∧ nearest x0 dx pt.1

/-- The start checks of a record from a source (table of R151). -/
def StartChecks (src : DrawSource) (r : Record) (s : State) : Prop :=
  let known := fun font : Byte => font.toNat ≤ 3 ∧ s.panels.fonts.getD font.toNat none ≠ none
  let ropOk := r.rop.toNat ≤ 5
  (∃ p, r.target = some p ∧ (src = .inBand → (s.panel p).config.role = .free)) ∧
  match r.body with
  | .fillRect _ _ _ _ => ropOk
  | .line _ _ _ _ _ _ _ _ mode => ropOk ∧ mode.toNat ≤ 2
  | .cont => ∃ h, s.engine.heldLine = some h ∧ h.panel = r.panel
  | .trapezoid yTop yBot _ _ _ _ => ropOk ∧ yTop ≤ yBot
  | .copyGlyph font _ _ _ _ _ _ => ropOk ∧ known font
  | .copyPage page _ _ _ _ _ _ => ropOk ∧ page.toNat ≤ 1
  | .copyOther _ => False
  | .text font _ _ _ _ _ codes => ropOk ∧ codes.length ≤ 64 ∧ known font
  | .flip => True

/-- Every report cell but that of one class is the same in both states. -/
def OnlyReport (cls : ReportClass) (s t : State) : Prop :=
  t.reports.base = s.reports.base ∧ t.reports.count = s.reports.count ∧
    ∀ n, n ≠ reportNum cls → t.reports.cells[n]? = s.reports.cells[n]?

/-- The cell of a report class. -/
def State.report (s : State) (cls : ReportClass) : ReportCell := s.reports.cells.getD (reportNum cls) {}

/-! ## The laws of the blocks -/

/-- The capacities of a port's queues, its window count, and its fairness count, 0 with an empty LTX (R16, R20, R9,
R24). -/
def Port.Fits (q : Port) : Prop :=
  q.rxq.length ≤ 8 ∧ q.ftx.length ≤ 12 ∧ q.ltx.length ≤ 4 ∧ q.windowCount ≤ 16 ∧ q.fairness ≤ 4 ∧
    (q.ltx = [] → q.fairness = 0)

/-- The capacities of both ports. -/
def LinkFits (s : State) : Prop := s.link.portA.Fits ∧ s.link.portB.Fits

/-- The capacities of the intakes (R38). -/
def IntakesFit (s : State) : Prop :=
  s.classifier.consist.length ≤ 2 ∧ s.classifier.batch.length ≤ 4 ∧ s.classifier.notice.length ≤ 2 ∧
    s.classifier.mgmt.length ≤ 2

/-- The capacities of both ports and of the intakes. -/
def QueuesFit (s : State) : Prop := LinkFits s ∧ IntakesFit s

/-- The classification table has its 8 entries, and the UNDEFINED entry never consumes (R32). -/
def ClassifierLaw (s : State) : Prop :=
  s.classifier.entries.length = 8 ∧ (s.classifier.entries.getD 7 {}).consumeOnMatch = false

/-- The consist states with what they hold (table of section 3.1, R42): the roll record exactly in ROLLING, an empty
table and no ordinal in UNINAUGURATED and ROLLING, an ordinal of the table and no unit ID twice otherwise. -/
def ConsistLaw (s : State) : Prop :=
  let k := s.consist
  k.label ≤ 99 ∧ (k.record.isSome ↔ k.state = .rolling) ∧
  (k.state = .uninaugurated ∨ k.state = .rolling → k.table = [] ∧ k.ordinal = 0) ∧
  (k.state = .valid ∨ k.state = .stale → 1 ≤ k.ordinal ∧ k.ordinal ≤ k.table.length) ∧
  k.table.length ≤ 24 ∧ (k.table.map (·.unitId)).Nodup

/-- At most one slot is ASSEMBLING for any one class (R62). -/
def SlotsLaw (s : State) : Prop :=
  ∀ a ∈ s.slots.slot0.toList, ∀ b ∈ s.slots.slot1.toList, a.cls ≠ b.cls

/-- A stop list that has passed the checks of R77: distances strictly increasing, first and last of kind STOP. -/
def StopsLaw (stops : List Stop) : Prop :=
  stops ≠ [] ∧ (stops.map (·.distance)).Pairwise (· < ·) ∧
    (stopAt stops 0).kind = .stop ∧ (stopAt stops (lastStop stops)).kind = .stop

/-- The tracker with no journey open (R76), and with one: c is a stop, c is the last only in AT_STOP (R91), E lies
from D_0 to D_last (R83), v is at most 10,000, and the ticks run exactly while the status is FRESH (R82). -/
def TrackerLaw (s : State) : Prop :=
  let t := s.tracker
  match t.journey with
  | none =>
    t.state = .idle ∧ t.c = 0 ∧ t.e = 0 ∧ t.v = 0 ∧ t.motion = .stationary ∧ t.status = .none ∧
      t.tickTimer = false ∧ t.staleness = none ∧ t.marker = none
  | some j =>
    StopsLaw j.stops ∧ t.state ≠ .idle ∧ t.c ≤ lastStop j.stops ∧
    (t.c = lastStop j.stops → t.state = .atStop) ∧
    (stopAt j.stops 0).distance * 1000 ≤ t.e ∧ t.e ≤ (stopAt j.stops (lastStop j.stops)).distance * 1000 ∧
    t.v ≤ 10000 ∧ (t.tickTimer = true ↔ t.status = .fresh) ∧ (t.staleness.isSome ↔ t.status = .fresh)

/-- The notice queue holds at most 8 entries, at most one of kind NEXT_STOP and one of kind ARRIVING, and the dwell
timer runs only for a head (R112, R114); the trigger table holds at most 128 entries (R101). -/
def NoticeLaw (s : State) : Prop :=
  s.notices.queue.length ≤ 8 ∧
  (s.notices.queue.filter (fun e => decide (e.kind = .nextStop))).length ≤ 1 ∧
  (s.notices.queue.filter (fun e => decide (e.kind = .arriving))).length ≤ 1 ∧
  (s.notices.dwell.isSome → s.notices.queue ≠ []) ∧ s.notices.table.length ≤ 128

/-- A segment of the open journey: from below to, both STOP stops, to greater than c (R120). -/
def SegmentLaw (j : ResvJourney) (g : Segment) : Prop :=
  g.fromStop < g.toStop ∧ j.kinds[g.fromStop]? = some .stop ∧ j.kinds[g.toStop]? = some .stop ∧
    j.c < g.toStop

/-- A position's list: in ascending order and without overlap (R119), every segment lawful, and none with no journey
open (R120). -/
def SeatLaw (j : Option ResvJourney) (x : Seat) : Prop :=
  x.segments.Pairwise (fun a b => a.toStop ≤ b.fromStop) ∧
    match j with
    | none => x.segments = []
    | some j => ∀ g ∈ x.segments, SegmentLaw j g

/-- The seat table: 96 positions, no seat number twice (R118), at most 384 segments (R119), every list lawful. -/
def SeatsLaw (s : State) : Prop :=
  s.resv.seats.length = 96 ∧
  ((s.resv.seats.map (·.number)).filter (fun n => decide (n ≠ 0))).Nodup ∧
  inUse s.resv.seats ≤ 384 ∧ ∀ x ∈ s.resv.seats, SeatLaw s.resv.journey x

/-- The lamp image is that of R134 for the seat table as it stands (R135). -/
def ImageLaw (s : State) : Prop := s.resv.image = s.resv.seats.map (lampOf s.resv.journey)

/-- The scanner: DISABLED with every line released and no frame, or SCANNING with a frame whose front row is the one
sunk; miss counts of 0..2, and 0 for a FAULTY position (R137, R138, R144, R145). -/
def ScannerLaw (s : State) : Prop :=
  let x := s.scanner
  (x.enable = false → x.plan = none ∧ x.sunk = none ∧ x.red = List.replicate 12 .released ∧
    x.green = List.replicate 12 .released) ∧
  (x.enable = true → ∃ p ∈ x.plan, x.sunk = p.rows.head?) ∧
  x.misses.length = 96 ∧ x.faults.length = 96 ∧
  ∀ i ∈ List.range 96, x.misses.getD i 0 ≤ 2 ∧ (x.faults.getD i false = true → x.misses.getD i 0 = 0)

/-- The engine: queues of at most 16 (R163), only an in-band record in the suspend slot, and none there while an
in-band record runs (R165), and no record running for a panel whose flip is pending (R149, R164). -/
def EngineLaw (s : State) : Prop :=
  let e := s.engine
  e.composerQ.length ≤ 16 ∧ e.inBandQ.length ≤ 16 ∧
  (∀ u ∈ e.suspended, u.source = .inBand ∧ u.record.target.isSome = true) ∧
  (∀ u ∈ e.running, u.source = .inBand → e.suspended = none) ∧
  (∀ u ∈ e.running, ∃ p ∈ u.record.target, (s.panel p).flipPending = false)

/-- A panel: its refresh runs exactly while it is enabled (R172), no flip is pending while it is not (R177), it has a
composer state exactly as MAP or NOTICE (R183), and its geometry is in range (R171). -/
def Panel.Law (x : Panel) : Prop :=
  (x.refresh.isSome ↔ x.enabled = true) ∧ (x.enabled = false → x.flipPending = false) ∧
  (x.composer.isSome ↔ x.config.role = .map ∨ x.config.role = .notice) ∧
  16 ≤ x.config.width ∧ x.config.width ≤ 512 ∧ 8 ∣ x.config.width ∧
  8 ≤ x.config.height ∧ x.config.height ≤ 128 ∧ x.palette.length = 16

/-- Every panel keeps its law, and a composition under way is that of a panel in COMPOSING (R181). -/
def PanelsLaw (s : State) : Prop :=
  (∀ p ∈ allPanels, (s.panel p).Law) ∧
    ∀ k ∈ s.panels.composing, (s.panel k.panel).composer = some .composing

/-- Every page is in the canonical form of its pixels. -/
def PagesLaw (s : State) : Prop :=
  ∀ p ∈ allPanels, (s.panel p).shown.pixels.wf = true ∧ (s.panel p).back.pixels.wf = true

/-- The sixteen report classes: a due class is pending and enabled (R196, R197). -/
def ReportsLaw (s : State) : Prop :=
  s.reports.cells.length = 16 ∧ ∀ x ∈ s.reports.cells, x.due = true → x.pending = true ∧ x.enable = true

/-- The panel fields that the service lock freezes (section 10.1). -/
def PanelConfig.lockedFields (c : PanelConfig) : Role × Nat × Nat × Nat × Nat :=
  (c.role, c.width, c.height, c.rowPeriod, c.blankRows)

/-- The locked tables and fields have the same content in both states (R189, R192). -/
def LockedSame (s t : State) : Prop :=
  t.link.portA.heldSettings = s.link.portA.heldSettings ∧
  t.link.portB.heldSettings = s.link.portB.heldSettings ∧
  t.mgmt.storedId = s.mgmt.storedId ∧ t.mgmt.storedLabel = s.mgmt.storedLabel ∧
  t.classifier.entries = s.classifier.entries ∧
  t.resv.seats.map (·.number) = s.resv.seats.map (·.number) ∧
  t.scanner.lines = s.scanner.lines ∧
  t.tracker.doorL.mode = s.tracker.doorL.mode ∧ t.tracker.doorR.mode = s.tracker.doorR.mode ∧
  ∀ p ∈ allPanels, (t.panel p).config.lockedFields = (s.panel p).config.lockedFields

end Sys2Proof.Machine
end

