-- ==== Sys2Proof/Certificates/Slice0/Obligations.lean ====
section
/-! DEFINITION. The statements about the KC216 that are to be proved, chapter by chapter; OBLIGATIONS.json lists them. -/

open Sys2Proof Sys2Proof.Machine

/-- A step runs the command at the front of the queue with the queue's rest (front matter, section 3 (events),
section 95 (what each step holds)). Model's own choices in it: log 2. -/
def Obligations.StepRunsFrontCommand : Prop :=
  ∀ (c : Instr) (rest : List Instr) (s : State),
    step { s with pending := c :: rest } = exec c { s with pending := rest } ∧
    step { s with pending := [] } = .next { s with pending := [] }

/-- Every command answers a next state and leaves the queue of waiting commands as it is (section 1.4, section
11.1.2, section 95 (what each step holds)). Model's own choices in it: log 1, 6. -/
def Obligations.EveryCommandCompletes : Prop :=
  ∀ (c : Instr) (s : State), ∃ t, exec c s = .next t ∧ t.pending = s.pending

/-- Each command changes only the blocks that its chapter lets it change (chapters 1 to 11, section 95 (what
each step holds)). -/
def Obligations.CommandsTouchOnlyTheirParts : Prop :=
  ∀ (c : Instr) (s t : State), exec c s = .next t → UnchangedBut (touched c) s t

/-- The state after a pin reset satisfies the laws of every block (section 1.2, section 2.7, section 3.1,
section 4.1, section 5.1, section 7.1, section 8.4, chapter 9 opening, section 10.1, section 11.5). Model's own
choices in it: log 13. -/
def Obligations.ResetStateIsLawful : Prop :=
  LinkFits State.reset ∧ IntakesFit State.reset ∧ ClassifierLaw State.reset ∧ ConsistLaw State.reset ∧
    SlotsLaw State.reset ∧ TrackerLaw State.reset ∧ NoticeLaw State.reset ∧ SeatsLaw State.reset ∧
    ImageLaw State.reset ∧ ScannerLaw State.reset ∧ EngineLaw State.reset ∧ PanelsLaw State.reset ∧
    PagesLaw State.reset ∧ ReportsLaw State.reset

/-- No step makes a queue of a port or an intake hold more than its capacity (section 1.2, section 1.5, section
1.7, section 2.7). -/
def Obligations.QueuesNeverOverfill : Prop :=
  ∀ s t : State, QueuesFit s → step s = .next t → QueuesFit t

/-- The classification table, the batch slots and the report classes keep their laws at every step (section 2.4,
section 4.1, section 11.5). -/
def Obligations.TablesSlotsAndReportsKeepTheirLaws : Prop :=
  (∀ s t : State, ClassifierLaw s → step s = .next t → ClassifierLaw t) ∧
    (∀ s t : State, SlotsLaw s → step s = .next t → SlotsLaw t) ∧
    (∀ s t : State, ReportsLaw s → step s = .next t → ReportsLaw t)

/-- The consist state keeps agreeing with what the Consist Manager holds (section 3.1, section 3.2, section
3.4). -/
def Obligations.ConsistLawIsKept : Prop :=
  ∀ s t : State, ConsistLaw s → step s = .next t → ConsistLaw t

/-- The tracker keeps its values within the open journey, and its idle values with none (section 5.1, section
5.4, section 5.5). -/
def Obligations.TrackerLawIsKept : Prop :=
  ∀ s t : State, TrackerLaw s → step s = .next t → TrackerLaw t

/-- The notice queue holds at most 8 entries and at most one of each superseding kind (section 6.2, section 6.5,
section 6.6). -/
def Obligations.NoticeLawIsKept : Prop :=
  ∀ s t : State, NoticeLaw s → step s = .next t → NoticeLaw t

/-- The seat table and the segment pool keep their laws (section 7.1, section 7.2). -/
def Obligations.SeatsLawIsKept : Prop :=
  ∀ s t : State, SeatsLaw s → step s = .next t → SeatsLaw t

/-- The lamp image, the scanner and the pages keep their laws at every step (section 7.5, section 8.2, section
8.3, section 10.2). -/
def Obligations.ImageScannerAndPagesKeepTheirLaws : Prop :=
  (∀ s t : State, ImageLaw s → step s = .next t → ImageLaw t) ∧
    (∀ s t : State, ScannerLaw s → step s = .next t → ScannerLaw t) ∧
    (∀ s t : State, PagesLaw s → step s = .next t → PagesLaw t)

/-- Only in-band records are suspended, and no record runs on a panel whose flip is pending (section 9.1.1,
section 9.2, section 9.2.1, section 9.2.2). -/
def Obligations.EngineLawIsKept : Prop :=
  ∀ s t : State, EngineLaw s → step s = .next t → EngineLaw t

/-- Refresh, flips and composer states keep agreeing with enable and role (section 10.1, section 10.4). -/
def Obligations.PanelsLawIsKept : Prop :=
  ∀ s t : State, PanelsLaw s → step s = .next t → PanelsLaw t

/-- Once set, the service lock stays set and no locked table or field changes until a pin reset (section 11.2,
section 11.1.2). -/
def Obligations.ServiceLockHolds : Prop :=
  ∀ (c : Instr) (s t : State), c ≠ .pinReset → s.mgmt.locked = true → s.mgmt.loading = false →
    exec c s = .next t → t.mgmt.locked = true ∧ t.mgmt.loading = false ∧ LockedSame s t

/-- While a journey stays open, c never decreases (section 5.5, section 5.6). -/
def Obligations.StopIndexNeverDecreases : Prop :=
  ∀ (c : Instr) (s t : State), TrackerLaw s → c ≠ .pinReset → c ≠ .softResetEffects → c ≠ .batchSingle →
    c ≠ .batchEnd → exec c s = .next t →
    t.tracker.journey = s.tracker.journey ∧ s.tracker.c ≤ t.tracker.c

/-- The seek and sync timers send TRAIN frames, and lanes in TRAINING count those received (section 1.2.3,
section 1.2.4, section 1.6, section 1.7). Model's own choices in it: log 11, 14, 16. -/
def Obligations.TrainFramesAreSentAndCounted : Prop :=
  (∀ (p : PortId) (s : State),
    ((s.port p).state = .down → (s.port p).seekTimer = true →
      ∃ t, exec (.seekTimerExpiry p) s = .next t ∧ OnlyPort p s t ∧ (s.port p).SameButLanes (t.port p) ∧
        ∀ l, let x := (s.port p).lane l
          (x.state = .seeking → x.tx = none →
            (t.port p).lane l = { x with tx := some (trainFrame .seek), trainDue := none }) ∧
          (x.state = .seeking → x.tx ≠ none → (t.port p).lane l = { x with trainDue := some .seek }) ∧
          (x.state ≠ .seeking → x.trainDue = none → (t.port p).lane l = x)) ∧
    ((s.port p).state = .training → (s.port p).syncTimer = true →
      ∃ t, exec (.syncTimerExpiry p) s = .next t ∧ OnlyPort p s t ∧ (s.port p).SameButLanes (t.port p) ∧
        ∀ l, let x := (s.port p).lane l
          let trains := (∃ n, x.state = .counting n) ∨ x.state = .good
          (trains → x.tx = none →
            (t.port p).lane l = { x with tx := some (trainFrame .sync), trainDue := none }) ∧
          (trains → x.tx ≠ none → (t.port p).lane l = { x with trainDue := some .sync }) ∧
          (¬ trains → x.trainDue = none → (t.port p).lane l = x))) ∧
    (∀ (p : PortId) (l : LaneId) (later : Bool) (bytes : List Byte) (f : Frame) (s : State),
    (s.port p).state = .training → (s.port p).within l = true →
    let x := (s.port p).lane l
    (checkFrame bytes = .valid f → f.cls = 0 →
      (∀ n, x.state = .counting n → n < 3 → exec (.receiveTrain p l later bytes) s =
        .next (s.setPort p ((s.port p).setLane l { x with state := .counting (n + 1), trainSilence := true }))) ∧
      ((∃ n, x.state = .counting n ∧ 3 ≤ n) ∨ x.state = .good →
        ((s.port p).within .one = true → ((s.port p).lane (otherLane l)).state ≠ .good →
          exec (.receiveTrain p l later bytes) s =
            .next (s.setPort p ((s.port p).setLane l { x with state := .good, trainSilence := true }))) ∧
        ((s.port p).within .one = true → ((s.port p).lane (otherLane l)).state = .good →
          ∃ t, exec (.receiveTrain p l later bytes) s = .next t ∧ UnchangedBut [.link, .consist, .reports] s t ∧
            t.port (opposite p) = s.port (opposite p) ∧ (t.port p).state = .upDual ∧
            (t.port p).windowCount = 0 ∧ (t.port p).gate = .opened ∧
            FlowCheckedOnUp s.link.pauseQuanta (s.port p) (t.port p) ∧
            ∀ k, ((t.port p).lane k).state = .active ∧ ((t.port p).lane k).idleTimer = true ∧
              ((t.port p).lane k).rxSilence = true) ∧
        ((s.port p).within .one = false →
          ∃ t, exec (.receiveTrain p l later bytes) s = .next t ∧ UnchangedBut [.link, .consist, .reports] s t ∧
            t.port (opposite p) = s.port (opposite p) ∧ (t.port p).state = .upSingle ∧
            (t.port p).windowCount = 0 ∧ (t.port p).gate = .opened ∧
            FlowCheckedOnUp s.link.pauseQuanta (s.port p) (t.port p) ∧
            (t.port p).lane0.state = .active ∧ (t.port p).lane0.idleTimer = true ∧
            (t.port p).lane0.rxSilence = true))) ∧
    (x.trainSilence = true → ((∃ n, x.state = .counting n) ∨ x.state = .good) →
      exec (.trainSilenceExpiry p l) s =
        .next (s.setPort p ((s.port p).setLane l { x with state := .counting 0 }))))

/-- A TRAIN in DOWN, and a SEEK in UP, take the port to TRAINING with window count 1 (section 1.2.2, section
1.2.3, section 1.2.5, section 1.3.1, section 1.4). Model's own choices in it: log 14. -/
def Obligations.TrainTakesPortToTraining : Prop :=
  ∀ (p : PortId) (l : LaneId) (later : Bool) (bytes : List Byte) (f : Frame) (s : State),
    checkFrame bytes = .valid f → f.cls = 0 → ((s.port p).lane l).state ≠ .off →
    ((s.port p).state = .down ∨ ((s.port p).isUp = true ∧ trainPhase f = .seek)) →
    let q := s.port p
    let held := q.lane0.held ++ q.lane1.held
    ∃ t, exec (.receiveTrain p l later bytes) s = .next t ∧
      UnchangedBut [.link, .consist, .reports] s t ∧ t.port (opposite p) = s.port (opposite p) ∧
      (t.port p).state = .training ∧ (t.port p).windowCount = 1 ∧ (t.port p).windowTimer = true ∧
      (t.port p).syncTimer = true ∧ (t.port p).seekTimer = false ∧
      (∀ k, q.within k = true →
        ((t.port p).lane k).state = .counting (if k = l then 1 else 0) ∧
        ((t.port p).lane k).trainSilence = true ∧
        (q.isUp = true ∨ (q.lane k).tx = none →
          ((t.port p).lane k).tx = some (trainFrame .sync) ∧ ((t.port p).lane k).trainDue = none) ∧
        (q.state = .down → (q.lane k).tx ≠ none →
          ((t.port p).lane k).tx = (q.lane k).tx ∧ ((t.port p).lane k).trainDue = some .sync)) ∧
      (∀ k, q.within k = false → (t.port p).lane k = {}) ∧
      (q.state = .down → (t.port p).rxq = q.rxq ∧ t.consist = s.consist) ∧
      (q.isUp = true → (t.port p).rxq = q.rxq ++ held.take (8 - q.rxq.length) ∧
        (held ≠ [] → 8 < q.rxq.length + held.length → s.reports.cells.length = 16 →
          (t.report .overflow).pending = true ∧ (t.report .overflow).detail = [0, byteOf (portCode p)]) ∧
        (t.port p).ftx = [] ∧ (t.port p).ltx = [] ∧ (t.port p).gate = .opened ∧ (t.port p).gateTimer = none ∧
        (t.port p).pauseAsserted = false ∧ (t.port p).resendTimer = none ∧ (t.port p).waitingPause = none ∧
        (t.port p).fairness = 0 ∧
        (∀ k, ((t.port p).lane k).held = [] ∧ ((t.port p).lane k).syncAnswer = false ∧
          ((t.port p).lane k).beaconDue = false) ∧
        t.consist = { s.consist with state :=
          if s.consist.state = .valid then .stale else s.consist.state })

/-- WINDOW_EXPIRY has the three outcomes of the training table (section 1.1, section 1.2, section 1.2.4, section
1.3.1, section 1.6, section 1.7). Model's own choices in it: log 11, 26. -/
def Obligations.WindowExpiryOutcomes : Prop :=
  ∀ (p : PortId) (s : State), (s.port p).state = .training → (s.port p).windowTimer = true →
    (∀ l, (s.port p).within .one = true → ((s.port p).lane l).state = .good →
      ((s.port p).lane (otherLane l)).state ≠ .good →
      ∃ t, exec (.windowExpiry p) s = .next t ∧ UnchangedBut [.link, .consist, .reports] s t ∧
        t.port (opposite p) = s.port (opposite p) ∧ (t.port p).state = .upSingle ∧ (t.port p).windowCount = 0 ∧
        ((t.port p).lane l).state = .active ∧ ((t.port p).lane l).idleTimer = true ∧
        ((t.port p).lane l).rxSilence = true ∧ ((t.port p).lane (otherLane l)).state = .lost ∧
        (t.port p).gate = .opened ∧ FlowCheckedOnUp s.link.pauseQuanta (s.port p) (t.port p)) ∧
    ((∀ l, ((s.port p).lane l).state ≠ .good) →
      ((s.port p).windowCount < 16 → exec (.windowExpiry p) s =
        .next (s.setPort p { s.port p with windowCount := (s.port p).windowCount + 1 })) ∧
      (16 ≤ (s.port p).windowCount → (s.port p).heldSettings.presence = .present →
        ∃ t, exec (.windowExpiry p) s = .next t ∧ UnchangedBut [.link, .reports] s t ∧
          t.port (opposite p) = s.port (opposite p) ∧ (t.port p).state = .down ∧
          (t.port p).working = (s.port p).heldSettings ∧ (t.port p).windowCount = 0 ∧
          t.reports = (raise (portClass p)
            [1, 1, if (s.port p).heldSettings.limit = .dual then 1 else 0, 1] s).reports) ∧
      (16 ≤ (s.port p).windowCount → (s.port p).heldSettings.presence = .absent →
        exec (.windowExpiry p) s = .next (raise (portClass p) [0, 0, 0, 0] (raise (portClass p)
          [1, 1, if (s.port p).heldSettings.limit = .dual then 1 else 0, 1]
          (s.setPort p { s.port p with
            state := .off, working := (s.port p).heldSettings, windowCount := 0, windowTimer := false
            seekTimer := false, syncTimer := false, lane0 := {}, lane1 := {} })))))

/-- In UP a BEACON keeps its lane alive, a PAUSE works the gate, a SYNC is answered (section 1.2.5, section 1.3,
section 1.4, section 1.6). Model's own choices in it: log 42. -/
def Obligations.LinkControlInUp : Prop :=
  ∀ (p : PortId) (l : LaneId) (later : Bool) (bytes : List Byte) (f : Frame) (s : State),
    checkFrame bytes = .valid f →
    ((s.port p).activeOn l = true →
      let q := s.port p
      let o := otherLane l
      let held := (q.lane o).held
      let settled := fun (x : Lane) (gate : Gate) (timer : Option Nat) =>
        (s.rxFull p held).setPort p (Port.arbitrate (Port.placed held s.link.pauseQuanta
          (Port.setLane (Port.setLane { q with gate := gate, gateTimer := timer } l x) o
            { q.lane o with held := [] })))
      let heard := { q.lane l with rxSilence := true }
      (f.cls = 1 → exec (.receiveBeacon p l later bytes) s = .next (settled heard q.gate q.gateTimer)) ∧
      (f.cls = 2 → exec (.receivePause p l later bytes) s =
        .next (if byteAt f.payload 0 = 0 then settled heard .opened none
          else settled heard .closed (some (byteAt f.payload 0).toNat))) ∧
      (f.cls = 0 → byteAt f.payload 0 ≠ 0 → exec (.receiveTrain p l later bytes) s =
        .next (settled { heard with syncAnswer := true } q.gate q.gateTimer))) ∧
    ((s.port p).activeOn l = false →
      exec (.receiveBeacon p l later bytes) s = .next s ∧ exec (.receivePause p l later bytes) s = .next s)

/-- A valid frame of class 3 to 63 is placed at the tail of the RXQ, held, or dropped with RX_FULL (section 1.4,
section 1.6). Model's own choices in it: log 5, 42. -/
def Obligations.ReceivedFramesEnterRxq : Prop :=
  ∀ (p : PortId) (l : LaneId) (later : Bool) (bytes : List Byte) (f : Frame) (s : State),
    checkFrame bytes = .valid f → 3 ≤ f.cls.toNat →
    let q := s.port p
    let o := otherLane l
    let heard := { q.lane l with rxSilence := true }
    (q.activeOn l = false → exec (.receiveFrame p l later bytes) s = .next s) ∧
    (q.activeOn l = true → later = true → q.state = .upDual → exec (.receiveFrame p l later bytes) s =
      .next (s.setPort p (q.setLane l { heard with held := (q.lane l).held ++ [f] }))) ∧
    (q.activeOn l = true → (later = false ∨ q.state = .upSingle) →
      let fs := f :: (q.lane o).held
      let r := (q.setLane l heard).setLane o { q.lane o with held := [] }
      let r := { r with rxq := q.rxq ++ fs.take (8 - q.rxq.length) }
      let told := if 8 < q.rxq.length + fs.length then raise .overflow [0, byteOf (portCode p)] s else s
      (q.rxq.length < 6 → 6 ≤ q.rxq.length + fs.length → exec (.receiveFrame p l later bytes) s =
        .next (told.setPort p (Port.arbitrate { r with
          waitingPause := some (byteOf s.link.pauseQuanta), pauseAsserted := true
          resendTimer := some (max 1 (s.link.pauseQuanta / 2)) }))) ∧
      (6 ≤ q.rxq.length ∨ q.rxq.length + fs.length < 6 → exec (.receiveFrame p l later bytes) s =
        .next (told.setPort p r.arbitrate)))

/-- The reception checks are made in order, and a frame that fails one only raises RX_ERROR (section 1.2.4,
section 1.4). Model's own choices in it: log 42. -/
def Obligations.ReceptionChecks : Prop :=
  (∀ bytes : List Byte,
      (bytes.length < 20 → checkFrame bytes = .bad .runt) ∧
      (512 < bytes.length → checkFrame bytes = .bad .long) ∧
      (20 ≤ bytes.length → bytes.length ≤ 512 → crcOk bytes = false → checkFrame bytes = .bad .crc) ∧
      (20 ≤ bytes.length → bytes.length ≤ 512 → crcOk bytes = true →
        ((byteAt bytes 0).toNat / 16 ≠ 1 ∨ bytes.length ≠ 16 + natAt bytes 11 2 + 4 ∨
          ((byteAt bytes 1).toNat % 64 = 0 ∧ natAt bytes 11 2 ≠ 1) ∨
          ((byteAt bytes 1).toNat % 64 = 1 ∧ natAt bytes 11 2 ≠ 0) ∨
          ((byteAt bytes 1).toNat % 64 = 2 ∧ natAt bytes 11 2 ≠ 1) ↔ checkFrame bytes = .bad .badHeader) ∧
        ((∃ f, checkFrame bytes = .valid f) ∨ checkFrame bytes = .bad .badHeader))) ∧
    ∀ (p : PortId) (l : LaneId) (later : Bool) (bytes : List Byte) (r : RxReason) (s : State),
      checkFrame bytes = .bad r → ((s.port p).lane l).state ≠ .off →
      ∀ c ∈ [Instr.receiveTrain p l later bytes, .receiveBeacon p l later bytes,
          .receivePause p l later bytes, .receiveFrame p l later bytes],
        let t := raise .rxError [byteOf (portCode p), byteOf (laneCode l), byteOf (rxReasonCode r)] s
        ((s.port p).state = .down ∨ (s.port p).state = .off → exec c s = .next t) ∧
        ((s.port p).state = .training →
          ((∃ n, ((s.port p).lane l).state = .counting n) ∨ ((s.port p).lane l).state = .good) →
          exec c s = .next (t.setPort p
            ((s.port p).setLane l { (s.port p).lane l with state := .counting 0 }))) ∧
        ((s.port p).isUp = true →
          let o := otherLane l
          let x := (s.port p).lane o
          exec c s = .next ((t.rxFull p x.held).setPort p (Port.arbitrate
            (Port.placed x.held s.link.pauseQuanta ((s.port p).setLane o { x with held := [] })))))

/-- The timers of a port in UP: BEACON, receive silence, PAUSE resend and gate (section 1.1, section 1.3,
section 1.3.1, section 1.4, section 1.6). Model's own choices in it: log 15, 26, 44. -/
def Obligations.PortTimersExpire : Prop :=
  ∀ (p : PortId) (l : LaneId) (s : State),
    let q := s.port p
    (q.activeOn l = true → (q.lane l).idleTimer = true → exec (.transmitIdleExpiry p l) s =
      .next (s.setPort p (q.setLane l { q.lane l with idleTimer := false, beaconDue := true }).arbitrate)) ∧
    (∀ n, q.gateTimer = some n → exec (.gateTimerExpiry p) s =
      .next (s.setPort p { q with gate := .opened, gateTimer := none }.arbitrate)) ∧
    (∀ n, q.isUp = true → q.resendTimer = some n →
      (6 ≤ q.rxq.length → exec (.pauseResendExpiry p) s =
        .next (s.setPort p { q with
          waitingPause := some (byteOf s.link.pauseQuanta), pauseAsserted := true
          resendTimer := some (max 1 (s.link.pauseQuanta / 2)) }.arbitrate)) ∧
      (q.rxq.length < 6 → exec (.pauseResendExpiry p) s =
        .next (s.setPort p { q with resendTimer := none }))) ∧
    let passed := fun (held : List Frame) (t : State) =>
      t.port (opposite p) = s.port (opposite p) ∧ (t.port p).rxq = q.rxq ++ held.take (8 - q.rxq.length) ∧
      (held ≠ [] → 8 < q.rxq.length + held.length → s.reports.cells.length = 16 →
        (t.report .overflow).pending = true ∧ (t.report .overflow).detail = [0, byteOf (portCode p)])
    let told := fun (detail : List Byte) (t : State) => s.reports.cells.length = 16 →
      (t.report (portClass p)).pending = true ∧ (t.report (portClass p)).detail = detail
    (q.state = .upDual → (q.lane l).state = .active → (q.lane l).rxSilence = true →
      ∃ t, exec (.receiveSilenceExpiry p l) s = .next t ∧ UnchangedBut [.link, .reports] s t ∧
        passed (q.lane (otherLane l)).held t ∧ (t.port p).state = .upSingle ∧
        (t.port p).lane l = { state := .lost, held := (q.lane l).held } ∧
        ((t.port p).lane (otherLane l)).state = (q.lane (otherLane l)).state ∧
        ((t.port p).lane (otherLane l)).held = [] ∧
        told [4, byteOf (laneStateCode (t.port p).lane0.state),
          byteOf (laneStateCode (t.port p).lane1.state), 0] t) ∧
    (q.state = .upSingle → (q.lane l).state = .active → (q.lane l).rxSilence = true →
      ∃ t, exec (.receiveSilenceExpiry p l) s = .next t ∧ UnchangedBut [.link, .consist, .reports] s t ∧
        passed (q.lane0.held ++ q.lane1.held) t ∧ (t.port p).ftx = [] ∧ (t.port p).ltx = [] ∧
        (t.port p).gate = .opened ∧ (t.port p).gateTimer = none ∧ (t.port p).pauseAsserted = false ∧
        (t.port p).resendTimer = none ∧ (t.port p).waitingPause = none ∧ (t.port p).fairness = 0 ∧
        (t.port p).working = q.heldSettings ∧ (t.port p).windowCount = 0 ∧
        t.consist = { s.consist with state := if s.consist.state = .valid then .stale else s.consist.state } ∧
        (q.heldSettings.presence = .present →
          (t.port p).state = .down ∧ (t.port p).seekTimer = true ∧
          (t.port p).lane0 = { state := .seeking, tx := some (trainFrame .seek) } ∧
          (t.port p).lane1 = (if q.heldSettings.limit = .dual then
            { state := .seeking, tx := some (trainFrame .seek) } else {}) ∧
          told [1, 1, if q.heldSettings.limit = .dual then 1 else 0, 0] t) ∧
        (q.heldSettings.presence = .absent →
          (t.port p).state = .off ∧ (t.port p).seekTimer = false ∧ (t.port p).lane0 = {} ∧
          (t.port p).lane1 = {} ∧ told [0, 0, 0, 0] t))

/-- TRANSMIT_DONE frees the lane, and a free ACTIVE lane starts what the arbiter's order gives (section 1.3,
section 1.7). Model's own choices in it: log 15. -/
def Obligations.TransmitArbiter : Prop :=
  (∀ (p : PortId) (l : LaneId) (f : Frame) (s : State), ((s.port p).lane l).tx = some f →
      exec (.transmitDone p l) s = .next (s.setPort p (Port.startLane (Port.startLane
        ((s.port p).setLane l { (s.port p).lane l with
          tx := none
          idleTimer := (s.port p).activeOn l || ((s.port p).lane l).idleTimer }) .zero) .one))) ∧
    ∀ (q : Port) (l : LaneId),
      let x := q.lane l
      (x.tx ≠ none → q.startLane l = q) ∧
      (q.isUp = true → x.state = .active → x.tx = none →
        (∀ w, q.waitingPause = some w →
          q.startLane l = { q with waitingPause := none }.setLane l { x with tx := some (pauseFrame w) }) ∧
        (q.waitingPause = none → x.syncAnswer = true →
          q.startLane l = q.setLane l { x with tx := some (trainFrame .sync), syncAnswer := false }) ∧
        (q.waitingPause = none → x.syncAnswer = false → x.beaconDue = true →
          q.startLane l = q.setLane l { x with tx := some beaconFrame, beaconDue := false }) ∧
        (q.waitingPause = none → x.syncAnswer = false → x.beaconDue = false →
          (q.gate = .closed → q.startLane l = q) ∧
          (q.gate = .opened →
            (q.ltx = [] → q.ftx = [] → q.startLane l = q) ∧
            (∀ f fs, q.ftx = f :: fs → q.ltx = [] →
              q.startLane l = { q with ftx := fs }.setLane l { x with tx := some f }) ∧
            (∀ g gs, q.ltx = g :: gs → q.ftx = [] →
              q.startLane l = { q with ltx := gs, fairness := 0 }.setLane l { x with tx := some g }) ∧
            (∀ f fs g gs, q.ftx = f :: fs → q.ltx = g :: gs →
              (q.fairness < 4 → q.startLane l =
                { q with ftx := fs, fairness := q.fairness + 1 }.setLane l { x with tx := some f }) ∧
              (4 ≤ q.fairness → q.startLane l =
                { q with ltx := gs, fairness := 0 }.setLane l { x with tx := some g })))))

/-- A frame matches this part by its destination kind and whole 48-bit value (R27). -/
def Obligations.DestinationMatching : Prop :=
  ∀ (s : State) (f : Frame),
    (f.kind = 0 → destinationMatches s f = true) ∧
    (f.kind = 1 → (destinationMatches s f = true ↔ (s.consist.state = .valid ∨ s.consist.state = .stale) ∧
      1 ≤ f.dest.toNat ∧ f.dest.toNat ≤ 24 ∧ f.dest.toNat = s.consist.ordinal)) ∧
    (f.kind = 2 → (destinationMatches s f = true ↔
      s.consist.label ≠ 0 ∧ f.dest.toNat ≤ 99 ∧ f.dest.toNat = s.consist.label)) ∧
    (f.kind = 3 → (destinationMatches s f = true ↔
      f.dest.toNat < 64 ∧ s.classifier.groups.getLsbD f.dest.toNat = true)) ∧
    (f.kind = 4 → (destinationMatches s f = true ↔ f.dest = s.consist.unitId)) ∧
    (f.kind = 5 ∨ f.kind = 6 ∨ f.kind = 7 → destinationMatches s f = false)

/-- CLASSIFY_FRAME takes the head of the RXQ and settles its consume copy and forward copy (section 1.6, section
2.3, section 2.3.1, section 2.4, section 2.5, section 2.6, section 2.7, section 2.7.1). Model's own choices in
it: log 47. -/
def Obligations.FrameAtHeadIsSettled : Prop :=
  ∀ (p : PortId) (f : Frame) (rest : List Frame) (s : State), (s.port p).rxq = f :: rest →
    let q := { s.port p with rxq := rest }
    let s1 := s.setPort p (if rest.length = 2 ∧ q.pauseAsserted = true ∧ q.isUp = true then
      Port.arbitrate { q with waitingPause := some 0, pauseAsserted := false, resendTimer := none } else q)
    let o := opposite p
    let far := s1.port o
    let settles := fun (forwards : Prop) (t : State) =>
      (¬ forwards ∨ f.hop = 31 ∨ far.isUp = false → exec (.classifyFrame p) s = .next t) ∧
      (forwards → f.hop ≠ 31 → far.isUp = true →
        (far.ftx.length < 12 → exec (.classifyFrame p) s = .next (t.setPort o
          (Port.arbitrate { far with ftx := far.ftx ++ [{ f with hop := f.hop + 1 }] }))) ∧
        (12 ≤ far.ftx.length → exec (.classifyFrame p) s =
          .next (raise .overflow [1, byteOf (portCode o)] t)))
    let c : Copy := { frame := f, port := p }
    let k := s.classifier
    let consumed := fun (forwards : Prop) (q : List Copy) (capacity : Nat) (place : Byte) (k' : Classifier) =>
      (q.length < capacity → settles forwards { s1 with classifier := k' }) ∧
      (capacity ≤ q.length → settles forwards (raise .overflow [place, 255] s1))
    let hit := destinationMatches s f = true
    let one := f.kind = 1 ∨ f.kind = 4
    (f.cls = 15 ∨ f.cls = 16 → settles True s1) ∧
    (f.cls = 3 ∨ f.cls = 4 → consumed False k.consist 2 2 { k with consist := k.consist ++ [c] }) ∧
    (f.cls = 5 ∨ f.cls = 13 ∨ f.cls = 14 → ¬ hit → settles True s1) ∧
    (f.cls = 5 → hit → consumed (¬ one) k.consist 2 2 { k with consist := k.consist ++ [c] }) ∧
    (f.cls = 13 ∨ f.cls = 14 → hit → consumed (¬ one) k.mgmt 2 5 { k with mgmt := k.mgmt ++ [c] }) ∧
    ∀ i, (6 ≤ f.cls.toNat ∧ f.cls.toNat ≤ 12 ∧ i = f.cls.toNat - 6 ∨ 17 ≤ f.cls.toNat ∧ i = 7) →
      let e := k.entries.getD i {}
      let forwards := e.forwardOnMatch = true ∧ ¬ one
      (¬ hit → settles (e.forwardOnNomatch = true) s1) ∧
      (hit → e.consumeOnMatch = false → settles forwards s1) ∧
      (hit → e.consumeOnMatch = true →
        (f.cls = 6 → settles forwards { s1 with classifier := { k with position := some c } }) ∧
        (f.cls = 7 ∨ f.cls = 8 ∨ f.cls = 9 ∨ f.cls = 12 →
          consumed forwards k.batch 4 3 { k with batch := k.batch ++ [c] }) ∧
        (f.cls = 10 → consumed forwards k.notice 2 4 { k with notice := k.notice ++ [c] }) ∧
        (f.cls = 11 →
          (s.mgmt.draining = true ∨ drawRecords f.payload = none →
            settles forwards (raise .drawEvent [255, 2, 255] s1)) ∧
          ∀ rs, s.mgmt.draining = false → drawRecords f.payload = some rs →
            (s.engine.inBandQ.length + rs.length ≤ 16 → settles forwards
              (runEngine { s1 with engine := { s.engine with inBandQ := s.engine.inBandQ ++ rs } })) ∧
            (16 < s.engine.inBandQ.length + rs.length →
              settles forwards (raise .overflow [6, 255] s1))))

/-- PORT_SETTINGS_WRITE changes the held copy, which a port in TRAINING or UP does not yet adopt (section 1.1,
section 1.3.1, section 11.1.2). Model's own choices in it: log 26. -/
def Obligations.PortSettingsAreHeld : Prop :=
  ∀ (p : PortId) (presence : Bool) (value : List Byte) (s : State), s.mgmt.locked = false →
    let index : Byte := byteOf ((match p with | .A => 0 | .B => 2) + (if presence then 0 else 1))
    let q := s.port p
    (∀ v : Bool, itemNumber value = some (bit v) →
      let x : PortSettings := if presence then { q.heldSettings with presence := if v then .absent else .present }
        else { q.heldSettings with limit := if v then .single else .dual }
      (q.state = .training ∨ q.state = .upDual ∨ q.state = .upSingle →
        exec (.portSettingsWrite index value) s =
          .next ((s.setPort p { q with heldSettings := x }).recorded .ok)) ∧
      (q.state = .off → x.presence = .absent ∨ s.mgmt.loading = true → exec (.portSettingsWrite index value) s =
        .next ((s.setPort p { q with heldSettings := x, working := x }).recorded .ok)) ∧
      (q.state = .off → x.presence = .present → s.mgmt.loading = false →
        ∃ t, exec (.portSettingsWrite index value) s = .next (State.recorded .ok t) ∧
          UnchangedBut [.link, .reports] s t ∧ t.port (opposite p) = s.port (opposite p) ∧
          (t.port p).state = .down ∧ (t.port p).heldSettings = x ∧ (t.port p).working = x ∧
          (t.port p).windowCount = 0 ∧ (t.port p).seekTimer = true ∧
          t.reports = (raise (portClass p) [1, 1, if x.limit = .dual then 1 else 0, 0] s).reports) ∧
      (q.state = .down → x.presence = .present →
        ∃ t, exec (.portSettingsWrite index value) s = .next (State.recorded .ok t) ∧ OnlyPort p s t ∧
          (t.port p).state = .down ∧ (t.port p).heldSettings = x ∧ (t.port p).working = x) ∧
      (q.state = .down → x.presence = .absent → exec (.portSettingsWrite index value) s =
        .next (State.recorded .ok (raise (portClass p) [0, 0, 0, 0] (s.setPort p { q with
          heldSettings := x, working := x, state := .off, windowCount := 0, windowTimer := false
          seekTimer := false, syncTimer := false, lane0 := {}, lane1 := {} }))))) ∧
    ((∀ v : Bool, itemNumber value ≠ some (bit v)) →
      exec (.portSettingsWrite index value) s = .next (s.recorded .badValue))

/-- TAKE_ROLL of a new roll enters ROLLING and sends the roll on, or at the chain end checks and returns it
(section 3.1.1, section 3.2, section 12.3). Model's own choices in it: log 11. -/
def Obligations.NewRollIsJoined : Prop :=
  ∀ (c : Copy) (rest : List Copy) (s : State), s.classifier.consist = c :: rest → c.frame.cls = 3 →
    let taken := { s with classifier := { s.classifier with consist := rest } }
    let payload := c.frame.payload
    let count := natAt payload 3 1
    let wellFormed := payload.length = 4 + 8 * count ∧ count ≤ 24
    (¬ wellFormed → exec .takeRoll s = .next taken) ∧
    (wellFormed → s.consist.state = .rolling → natAt payload 0 2 = s.consist.rollId.toNat →
      exec .takeRoll s = .next taken) ∧
    ∀ r, rollOf payload = some r → (s.consist.state ≠ .rolling ∨ r.rollId ≠ s.consist.rollId) →
      let facing := match c.frame.origin with | .end1 => c.port | .end2 => opposite c.port
      let own : ConsistEntry := { unitId := s.consist.unitId, label := s.consist.label
                                  orientation := match facing with | .A => .aTowardEnd1 | .B => .bTowardEnd1 }
      let joins := r.overfull = false ∧ count < 24
      let list := if joins then r.list ++ [own] else r.list
      let n := if joins then count + 1 else count
      let ordinal := if joins then count + 1 else 0
      let sent := beBytes 2 r.rollId.toNat ++ [if joins then 0 else 0x80, byteOf n] ++ payload.drop 4 ++
        (if joins then beBytes 6 s.consist.unitId.toNat ++
          [byteOf s.consist.label, match facing with | .A => 0 | .B => 1] else [])
      let o := opposite c.port
      let far := s.port o
      ∃ t, exec .takeRoll s = .next t ∧ UnchangedBut [.link, .classifier, .consist, .panels, .reports] s t ∧
        t.classifier = { s.classifier with consist := rest } ∧
        (∀ p, t.panel p = s.panel p ∨ (s.panel p).config.role = .notice ∧ t.panel p = (s.panel p).markDirty) ∧
        (far.isUp = true → c.frame.hop ≠ 31 →
          t.port c.port = s.port c.port ∧
          t.consist = { s.consist with
            state := .rolling, table := [], ordinal := 0, rollId := r.rollId, facing := some facing
            record := some { arrival := c.port, origin := c.frame.origin, ordinal := ordinal } } ∧
          let told := if s.consist.state ≠ .rolling ∨ s.consist.facing ≠ some facing then
            raiseConsist { s with consist := t.consist } else s
          (far.ftx.length < 12 → t.reports = told.reports ∧ t.port o = Port.arbitrate { far with
            ftx := far.ftx ++ [{ c.frame with hop := c.frame.hop + 1, payload := sent }] }) ∧
          (12 ≤ far.ftx.length →
            t.reports = (raise .overflow [1, byteOf (portCode o)] told).reports ∧ t.port o = far)) ∧
        (far.isUp = false ∨ c.frame.hop = 31 → s.consist.label ≤ 99 →
          let fails := fun reason : Byte =>
            t.consist = { s.consist with
              state := .uninaugurated, table := [], ordinal := 0, rollId := r.rollId, facing := some facing
              record := none, waiting := t.consist.waiting } ∧
            t.reports = (raiseConsist (raise .rollFailed (reason :: beBytes 2 r.rollId.toNat)
              { s with consist := t.consist })).reports
          let back : Frame := { part := .single, origin := c.frame.origin, cls := 4, kind := 5, hop := 0
                                dest := match c.frame.origin with | .end1 => 1 | .end2 => 2
                                batchId := (Config.headerFill 4).batchId, seq := (Config.headerFill 4).seq
                                reserved := 0, payload := sent }
          let q := s.port c.port
          (¬ joins → fails 0) ∧
          (joins → ¬ (list.map (·.unitId)).Nodup → fails 1) ∧
          (joins → (list.map (·.unitId)).Nodup →
            t.consist = { s.consist with
              state := .valid, rollId := r.rollId, facing := some facing, record := none
              table := match c.frame.origin with | .end1 => list | .end2 => list.reverse
              ordinal := match c.frame.origin with | .end1 => count + 1 | .end2 => 1
              waiting := t.consist.waiting } ∧
            t.reports = (raiseConsist { s with consist := t.consist }).reports) ∧
          t.port o = far ∧
          (q.isUp = false → t.port c.port = q ∧ t.consist.waiting = none) ∧
          (q.isUp = true → q.ltx.length < 4 → t.consist.waiting = none ∧
            t.port c.port = Port.arbitrate { q with ltx := q.ltx ++ [back] }) ∧
          (q.isUp = true → 4 ≤ q.ltx.length →
            t.port c.port = q ∧ t.consist.waiting = some { frame := back, port := c.port }))

/-- A matching TAKE_ROLL_RETURN adopts the list or fails the roll and sends the return on; ROLL_TIMEOUT fails it
(section 2.6, section 3.1.1, section 3.2, section 3.3, section 12.8). -/
def Obligations.MatchingReturnSettlesRoll : Prop :=
  (∀ s : State, s.consist.state = .rolling → s.consist.record.isSome = true →
    let k := { s.consist with state := .uninaugurated, record := none, table := [], ordinal := 0 }
    exec .rollTimeout s = .next
      (raise .consist ([0, 0, byteOf k.label] ++ beBytes 2 k.rollId.toNat ++
          [(match k.facing with | none => 0 | some .A => 1 | some .B => 2 : Byte)])
        (raise .rollFailed (3 :: beBytes 2 k.rollId.toNat) { s with consist := k }))) ∧
    ∀ (c : Copy) (rest : List Copy) (s : State), s.classifier.consist = c :: rest → c.frame.cls = 4 →
    let taken := { s with classifier := { s.classifier with consist := rest } }
    let onward := { c.frame with hop := c.frame.hop + 1 }
    (rollOf c.frame.payload = none → exec .takeRollReturn s = .next taken) ∧
    ∀ r, rollOf c.frame.payload = some r →
    (∀ rr, s.consist.record = some rr → s.consist.state = .rolling → r.rollId = s.consist.rollId →
      c.port = opposite rr.arrival →
      let ids := r.list.map (·.unitId)
      let out := s.port rr.arrival
      let lost := c.frame.hop ≠ 31 ∧ out.isUp = true ∧ 12 ≤ out.ftx.length
      ∃ t, exec .takeRollReturn s = .next t ∧
        UnchangedBut [.link, .classifier, .consist, .resv, .reports] s t ∧
        t.classifier = { s.classifier with consist := rest } ∧ t.port c.port = s.port c.port ∧
        (c.frame.hop = 31 ∨ out.isUp = false ∨ 12 ≤ out.ftx.length → t.link = s.link) ∧
        (c.frame.hop ≠ 31 → out.isUp = true → out.ftx.length < 12 →
          t.port rr.arrival = Port.arbitrate { out with ftx := out.ftx ++ [onward] }) ∧
        let told := if lost then raise .overflow [1, byteOf (portCode rr.arrival)] s else s
        let fails := fun reason : Byte => t.resv = s.resv ∧
          t.consist = { s.consist with state := .uninaugurated, record := none, table := [], ordinal := 0 } ∧
          t.reports = (raiseConsist (raise .rollFailed (reason :: beBytes 2 s.consist.rollId.toNat)
            { told with consist := t.consist })).reports
        let listed := rr.ordinal ≠ 0 ∧ rr.ordinal ≤ r.count ∧ ids[rr.ordinal - 1]? = some s.consist.unitId
        (r.overfull = true → fails 0) ∧
        (r.overfull = false → ¬ ids.Nodup → fails 1) ∧
        (r.overfull = false → ids.Nodup → ¬ listed → fails 2) ∧
        (r.overfull = false → ids.Nodup → listed →
          let own := (r.list.getD (rr.ordinal - 1) default).label
          t.consist = { s.consist with
            state := .valid, record := none, label := own
            table := match rr.origin with | .end1 => r.list | .end2 => r.list.reverse
            ordinal := match rr.origin with | .end1 => rr.ordinal | .end2 => r.count + 1 - rr.ordinal } ∧
          (t.resv = if own = s.consist.label then s.resv
            else { s.resv with inbox := s.resv.inbox ++ [.labelChange] }) ∧
          t.reports = (raiseConsist { told with consist := t.consist }).reports)) ∧
    (s.consist.state ≠ .rolling ∨ r.rollId ≠ s.consist.rollId ∨
        (∃ rr, s.consist.record = some rr ∧ c.port = rr.arrival) →
      let o := opposite c.port
      let out := s.port o
      (c.frame.hop = 31 ∨ out.isUp = false → exec .takeRollReturn s = .next taken) ∧
      (c.frame.hop ≠ 31 → out.isUp = true → out.ftx.length < 12 → exec .takeRollReturn s =
        .next (taken.setPort o (Port.arbitrate { out with ftx := out.ftx ++ [onward] }))) ∧
      (c.frame.hop ≠ 31 → out.isUp = true → 12 ≤ out.ftx.length → exec .takeRollReturn s =
        .next (raise .overflow [1, byteOf (portCode o)] taken)))

/-- ROLL_RETURN_RETRY and REPLY_RETRY offer a waiting frame again to the LTX it waits for (section 1.5, section
3.3, section 11.1.3). Model's own choices in it: log 35. -/
def Obligations.WaitingOffersAreMadeAgain : Prop :=
  ∀ (c : Copy) (s : State),
    let q := s.port c.port
    let placed := Port.arbitrate { q with ltx := q.ltx ++ [c.frame] }
    (s.consist.waiting = some c →
      let gone := { s with consist := { s.consist with waiting := none } }
      (q.isUp = false → exec .rollReturnRetry s = .next gone) ∧
      (q.isUp = true → q.ltx.length < 4 → exec .rollReturnRetry s = .next (gone.setPort c.port placed)) ∧
      (q.isUp = true → 4 ≤ q.ltx.length → exec .rollReturnRetry s = .next s)) ∧
    (s.mgmt.waiting = some c → s.consist.waiting.map (·.port) ≠ some c.port →
      let gone := { s with mgmt := { s.mgmt with waiting := none } }
      (q.isUp = false → exec .replyRetry s = .next gone) ∧
      (q.isUp = true → q.ltx.length < 4 → exec .replyRetry s = .next (gone.setPort c.port placed)) ∧
      (q.isUp = true → 4 ≤ q.ltx.length → exec .replyRetry s = .next s))

/-- TAKE_LABELS sets every label of a matching table, or ignores the frame whole (section 3.4). -/
def Obligations.LabelsAreAppliedWhole : Prop :=
  ∀ (c : Copy) (rest : List Copy) (s : State), s.classifier.consist = c :: rest → c.frame.cls = 5 →
    let taken := { s with classifier := { s.classifier with consist := rest } }
    let payload := c.frame.payload
    let labels := payload.drop 3
    let applies := s.consist.state = .valid ∧ natAt payload 0 2 = s.consist.rollId.toNat ∧
      payload.length = 3 + s.consist.table.length ∧ natAt payload 2 1 = s.consist.table.length ∧
      1 ≤ s.consist.table.length ∧ ∀ b ∈ labels, b.toNat ≤ 99
    (¬ applies → exec .takeLabels s = .next taken) ∧
    (applies →
      let own := (labels.getD (s.consist.ordinal - 1) 0).toNat
      let k := { s.consist with
        label := own
        table := (s.consist.table.zip labels).map (fun e => { e.1 with label := e.2.toNat }) }
      (own = s.consist.label → exec .takeLabels s = .next { taken with consist := k }) ∧
      (own ≠ s.consist.label → exec .takeLabels s = .next (raiseConsist { taken with
        consist := k, resv := { s.resv with inbox := s.resv.inbox ++ [.labelChange] } })))

/-- BATCH_START opens a batch or is refused; BATCH_MIDDLE extends its batch or ends it; BATCH_TIMEOUT ends it
(section 4.2, section 4.3, section 4.5, section 4.6). Model's own choices in it: log 49. -/
def Obligations.PartsOpenAndExtendBatches : Prop :=
  (∀ (c : Copy) (rest : List Copy) (k : LoadClass) (s : State), s.classifier.batch = c :: rest →
    c.frame.part = .start → loadClassOf c.frame.cls.toNat = some k →
    let f := c.frame
    let t := { s with classifier := { s.classifier with batch := rest } }
    let b : Batch := { cls := k, origin := f.origin, batchId := f.batchId, expected := some 1, parts := 1,
                       content := f.payload }
    let rejected (x : LoadClass) (o : TrainEnd) (i : Byte) (why : Nat) (seq : Nat) (u : State) : State :=
      raise .batchRejected [byteOf (loadClassCode x), byteOf (endCode o), i, byteOf why, byteOf seq, 0, 0, 0] u
    (s.mgmt.draining = true →
      exec .batchStart s = .next (rejected k f.origin f.batchId 5 f.seq.toNat t)) ∧
    (s.mgmt.draining = false → f.seq ≠ 0 →
      exec .batchStart s = .next (rejected k f.origin f.batchId 1 f.seq.toNat t)) ∧
    (s.mgmt.draining = false → f.seq = 0 →
      (s.slots.slot0 = none → (∀ y, s.slots.slot1 = some y → y.cls ≠ k) →
        exec .batchStart s = .next { t with slots := { s.slots with slot0 := some b } }) ∧
      (∀ x, s.slots.slot0 = some x → x.cls ≠ k → s.slots.slot1 = none →
        exec .batchStart s = .next { t with slots := { s.slots with slot1 := some b } }) ∧
      (∀ x, s.slots.slot0 = some x → x.cls = k → exec .batchStart s =
        .next { rejected k x.origin x.batchId 0 x.lastSeq t with slots := { s.slots with slot0 := some b } }) ∧
      (∀ x y, s.slots.slot0 = some x → x.cls ≠ k → s.slots.slot1 = some y → y.cls = k → exec .batchStart s =
        .next { rejected k y.origin y.batchId 0 y.lastSeq t with slots := { s.slots with slot1 := some b } }) ∧
      (s.slots.slot0 = none → ∀ y, s.slots.slot1 = some y → y.cls = k → exec .batchStart s =
        .next { rejected k y.origin y.batchId 0 y.lastSeq t with slots := { s.slots with slot1 := some b } }) ∧
      (∀ x y, s.slots.slot0 = some x → x.cls ≠ k → s.slots.slot1 = some y → y.cls ≠ k →
        exec .batchStart s = .next (rejected k f.origin f.batchId 4 f.seq.toNat t)))) ∧
    (∀ (s : State), s.mgmt.draining = false →
    let rejected (b : Batch) (why seq : Nat) (u : State) : State :=
      raise .batchRejected
        [byteOf (loadClassCode b.cls), byteOf (endCode b.origin), b.batchId, byteOf why, byteOf seq, 0, 0, 0] u
    (∀ (c : Copy) (rest : List Copy) (k : LoadClass), s.classifier.batch = c :: rest →
      c.frame.part = .middle → loadClassOf c.frame.cls.toNat = some k →
      let f := c.frame
      let t := { s with classifier := { s.classifier with batch := rest } }
      let mine (b : Batch) : Prop := b.cls = k ∧ b.origin = f.origin ∧ b.batchId = f.batchId
      (∀ i b, s.slots.slot i = some b → mine b → (i = .one → ∀ x, s.slots.slot0 = some x → ¬ mine x) →
        (b.expected = some f.seq.toNat → b.content.length + f.payload.length ≤ 16384 →
          exec .batchMiddle s = .next { t with slots := s.slots.setSlot i (some { b with
            content := b.content ++ f.payload, parts := b.parts + 1
            expected := if f.seq = 255 then none else some (f.seq.toNat + 1) }) }) ∧
        (b.expected ≠ some f.seq.toNat → exec .batchMiddle s =
          .next (rejected b 1 f.seq.toNat { t with slots := s.slots.setSlot i none })) ∧
        (b.expected = some f.seq.toNat → 16384 < b.content.length + f.payload.length → exec .batchMiddle s =
          .next (rejected b 2 f.seq.toNat { t with slots := s.slots.setSlot i none }))) ∧
      ((∀ i b, s.slots.slot i = some b → ¬ mine b) → exec .batchMiddle s = .next t)) ∧
    ∀ i b, s.slots.slot i = some b → exec (.batchTimeout i) s =
      .next (rejected b 3 (match b.expected with | some n => n - 1 | none => 255)
        { s with slots := s.slots.setSlot i none }))

/-- BATCH_SINGLE takes its slot or is refused; it and an accepted BATCH_END hand the load over; an END that
fails ends its batch (section 4.1, section 4.2, section 4.3, section 4.4, section 4.5, section 4.6). Model's own
choices in it: log 4, 49. -/
def Obligations.CompleteLoadIsHandedOver : Prop :=
  ∀ (c : Copy) (rest : List Copy) (k : LoadClass) (s : State), s.classifier.batch = c :: rest →
    loadClassOf c.frame.cls.toNat = some k →
    let f := c.frame
    let t := { s with classifier := { s.classifier with batch := rest } }
    let refused (why : Byte) : State :=
      raise .batchRejected [byteOf (loadClassCode k), byteOf (endCode f.origin), f.batchId, why, f.seq, 0, 0, 0] t
    let judged (cmd : Instr) (parts : Nat) (content : List Byte) (t : State) : Prop :=
      (∀ u, u.mgmt.draining = false → judge k f.origin f.batchId content (catchUp k t) = .committed u →
        exec cmd s = .next (batchCommitted k f content parts u)) ∧
      (∀ cause index, judge k f.origin f.batchId content (catchUp k t) = .rejected cause index →
        exec cmd s = .next (batchInvalid k f (causeCode cause) index (catchUp k t)))
    let mine (b : Batch) : Prop := b.cls = k ∧ b.origin = f.origin ∧ b.batchId = f.batchId
    (f.part = .finish →
      (∀ i b, s.slots.slot i = some b → mine b → (i = .one → ∀ x, s.slots.slot0 = some x → ¬ mine x) →
        let u := { t with
          slots := s.slots.setSlot i none
          mgmt := if s.mgmt.draining = true ∧ s.slots.setSlot i none = {} then { s.mgmt with noBatch := true }
            else s.mgmt }
        let ended (why : Byte) : State := raise .batchRejected
          [byteOf (loadClassCode k), byteOf (endCode b.origin), b.batchId, why, f.seq, 0, 0, 0] u
        (b.expected ≠ some f.seq.toNat → exec .batchEnd s = .next (ended 1)) ∧
        (b.expected = some f.seq.toNat → 16384 < b.content.length + f.payload.length →
          exec .batchEnd s = .next (ended 2))) ∧
      ((∀ i b, s.slots.slot i = some b → ¬ mine b) → exec .batchEnd s = .next t)) ∧
    (f.part = .single → s.mgmt.draining = true → exec .batchSingle s = .next (refused 5)) ∧
    (s.mgmt.draining = false →
      (f.part = .single →
        ((∀ i b, s.slots.slot i = some b → b.cls ≠ k) →
          ((∃ i, s.slots.slot i = none) → judged .batchSingle 1 f.payload t) ∧
          ((∀ i, s.slots.slot i ≠ none) → exec .batchSingle s = .next (refused 4))) ∧
        ∀ i b, s.slots.slot i = some b → b.cls = k → (i = .one → ∀ x, s.slots.slot0 = some x → x.cls ≠ k) →
          judged .batchSingle 1 f.payload (raise .batchRejected
            [byteOf (loadClassCode k), byteOf (endCode b.origin), b.batchId, 0,
              byteOf (match b.expected with | some n => n - 1 | none => 255), 0, 0, 0]
            { t with slots := s.slots.setSlot i none })) ∧
      ∀ i b, f.part = .finish → s.slots.slot i = some b → b.cls = k → b.origin = f.origin →
        b.batchId = f.batchId →
        (i = .one → ∀ x, s.slots.slot0 = some x → ¬ (x.cls = k ∧ x.origin = f.origin ∧ x.batchId = f.batchId)) →
        b.expected = some f.seq.toNat → b.content.length + f.payload.length ≤ 16384 →
        judged .batchEnd (b.parts + 1) (b.content ++ f.payload) { t with slots := s.slots.setSlot i none })

/-- A JOURNEY load is rejected at its first failing check, or opens its journey at stop 0, or closes the journey
(section 4.4, section 5.2, section 5.8, section 12.4). -/
def Obligations.JourneyLoadOpensJourney : Prop :=
  ∀ (cmd : Instr) (f : Frame) (content : List Byte) (parts : Nat) (s t : State),
    HandsOver cmd .journey f content parts s t →
    let count := natAt content 3 1
    let id := natAt content 0 2
    let lead := natAt content 2 1
    let whole := 4 ≤ content.length ∧ content.length = 4 + 34 * count
    let bytes := fun k => slice content (4 + 34 * k) 34
    let field := fun k at' size => natAt (bytes k) at' size
    let name := fun k => slice (bytes k) 10 (field k 9 1)
    let rejects := fun cause index => exec cmd s = .next (batchInvalid .journey f cause index t)
    (¬ whole → rejects 1 0) ∧
    (whole → id = 0 ∨ 1 < lead ∨ 64 < count → rejects 3 0) ∧
    (whole → id ≠ 0 → lead ≤ 1 → count ≤ 64 →
      let inRange := fun k => field k 0 4 ≤ 4194303 ∧ field k 4 1 ≤ 1 ∧ field k 5 1 ≤ 3 ∧ field k 6 2 ≤ 511 ∧
        field k 8 1 ≤ 127 ∧ 1 ≤ field k 9 1 ∧ field k 9 1 ≤ 24 ∧ ∀ c ∈ name k, c ≠ 253 ∧ c ≠ 254
      let inOrder := fun k => k ≠ 0 → field (k - 1) 0 4 < field k 0 4
      let kindFits := fun k => k = 0 ∨ k + 1 = count → field k 4 1 = 0
      let passes := fun k => inRange k ∧ inOrder k ∧ kindFits k
      (∀ k, k < count → (∀ i, i < k → passes i) →
        (¬ inRange k → rejects 3 (k + 1)) ∧ (inRange k → ¬ inOrder k → rejects 4 (k + 1)) ∧
        (inRange k → inOrder k → ¬ kindFits k → rejects 5 (k + 1))) ∧
      ((∀ k, k < count → passes k) →
        let stop : Nat → Stop := fun k =>
          { distance := field k 0 4
            kind := if field k 4 1 = 0 then .stop else .pass
            side := if field k 5 1 = 0 then .left else if field k 5 1 = 1 then .right
              else if field k 5 1 = 2 then .both else .none
            x := field k 6 2, y := field k 8 1, name := name k }
        let j : Journey :=
          { id := id, lead := if lead = 0 then .end1 else .end2, stops := (List.range count).map stop }
        let tracker : Tracker := { s.tracker with
          journey := if count = 0 then none else some j
          state := if count = 0 then .idle else .atStop
          c := 0, e := if count = 0 then 0 else (stop 0).distance * 1000, v := 0, motion := .stationary
          status := .none, tickTimer := false, staleness := none
          marker := if count = 0 then none else some ((stop 0).x, (stop 0).y) }
        let u := markAll { t with
          tracker := tracker
          notices := { s.notices with fromTracker := s.notices.fromTracker ++ [.journeyReset] }
          resv := { s.resv with inbox := s.resv.inbox ++ [if count = 0 then .closed else .journey
            { id := id, kinds := j.stops.map (·.kind), c := 0, n := nextStop j.stops 0 }] } }
        exec cmd s = .next (batchCommitted .journey f content parts u) ∧
        ∀ p, (s.panel p).composer = some .clean →
          (s.panel p).config.role = .map ∨ (s.panel p).config.role = .notice →
          u.panel p = { s.panel p with composer := some .dirty }))

/-- A TRIGGERS load replaces the trigger table and arms each entry against c and the tracker state, or is
rejected (section 4.4, section 6.2, section 12.4). Model's own choices in it: log 4. -/
def Obligations.TriggersLoadArmsTable : Prop :=
  ∀ (cmd : Instr) (f : Frame) (content : List Byte) (parts : Nat) (s t : State),
    HandsOver cmd .triggers f content parts s t → (∀ m ∈ s.notices.fromTracker, m ≠ .journeyReset) →
    let count := natAt content 2 1
    let whole := 3 ≤ content.length ∧ content.length = 3 + 72 * count
    let field := fun k at' size => natAt (slice content (3 + 72 * k) 72) at' size
    let k' := s.tracker
    let rejects := fun cause index => exec cmd s = .next (batchInvalid .triggers f cause index t)
    (¬ whole → rejects 1 0) ∧
    (whole → 128 < count → rejects 3 0) ∧
    (whole → count ≤ 128 → (∀ j, k'.journey = some j → natAt content 0 2 ≠ j.id) → rejects 2 0) ∧
    (whole → count ≤ 128 → ∀ j, k'.journey = some j → natAt content 0 2 = j.id →
      let inRange := fun k => field k 0 1 < j.stops.length ∧ field k 1 1 ≤ 2 ∧ field k 4 1 ≤ 3 ∧
        field k 5 1 ≤ 1 ∧ 1 ≤ field k 6 1 ∧ field k 7 1 ≤ 64
      let kindFits := fun k => field k 1 1 = 0 ∨ (stopAt j.stops (field k 0 1)).kind = .stop
      (∀ k, k < count → (∀ i, i < k → inRange i ∧ kindFits i) →
        (¬ inRange k → rejects 3 (k + 1)) ∧ (inRange k → ¬ kindFits k → rejects 5 (k + 1))) ∧
      ((∀ k, k < count → inRange k ∧ kindFits k) →
        let entry : Nat → TriggerEntry := fun k =>
          { trigger :=
              { stop := field k 0 1
                event := if field k 1 1 = 0 then .distance else if field k 1 1 = 1 then .arrival else .departure
                offset := field k 2 2
                kind := if field k 4 1 = 0 then .nextStop else if field k 4 1 = 1 then .arriving
                  else if field k 4 1 = 2 then .connection else .custom
                priority := if field k 5 1 = 0 then .normal else .urgent
                dwell := field k 6 1
                text := slice (slice content (3 + 72 * k) 72) 8 (field k 7 1) }
            state := if k'.c < field k 0 1 ∨ (field k 1 1 = 2 ∧ field k 0 1 = k'.c ∧ k'.state = .atStop)
              then .armed else .void }
        exec cmd s = .next (batchCommitted .triggers f content parts
          { t with notices := { s.notices with table := (List.range count).map entry } })))

/-- TAKE_POSITION sets the estimate, TICK moves it, STALENESS_EXPIRY makes it STALE (section 5.3, section 5.4,
section 5.5). -/
def Obligations.ReportsTicksAndStaleness : Prop :=
  ∀ (j : Journey) (s : State), s.tracker.journey = some j →
    let k := s.tracker
    let d := fun i => (stopAt j.stops i).distance
    let last := j.stops.length - 1
    let handled := fun t : State =>
      UnchangedBut [.classifier, .tracker, .notices, .resv, .panels, .reports] s t ∧ k.c ≤ t.tracker.c ∧
      t.tracker = { k with
        state := t.tracker.state, c := t.tracker.c, marker := t.tracker.marker, e := t.tracker.e
        v := t.tracker.v, motion := t.tracker.motion, status := t.tracker.status
        tickTimer := t.tracker.tickTimer, staleness := t.tracker.staleness } ∧
      (∃ h : Handoff, h.em = t.tracker.e / 1000 ∧ h.c = t.tracker.c ∧ h.state = t.tracker.state ∧
        t.notices = { s.notices with fromTracker := s.notices.fromTracker ++ [.handoff h] }) ∧
      t.resv = if t.tracker.c = k.c then s.resv else { s.resv with
        inbox := s.resv.inbox ++ [.advance t.tracker.c (nextStop j.stops t.tracker.c)] }
    (∀ c : Copy, s.classifier.position = some c →
      let f := c.frame
      let accepted := f.payload.length = 9 ∧ natAt f.payload 8 1 ≤ 1 ∧ natAt f.payload 0 2 = j.id ∧
        f.origin = j.lead
      let m := natAt f.payload 2 4
      (¬ accepted →
        exec .takePosition s = .next { s with classifier := { s.classifier with position := none } }) ∧
      (accepted → ∃ t, exec .takePosition s = .next t ∧ handled t ∧
        t.classifier = { s.classifier with position := none } ∧
        t.tracker.e = (if m < d 0 then d 0 else if d last < m then d last else m) * 1000 ∧
        t.tracker.motion = (if natAt f.payload 8 1 = 1 then .moving else .stationary) ∧
        t.tracker.v = (if natAt f.payload 8 1 = 1 then min (natAt f.payload 6 2) 10000 else 0) ∧
        t.tracker.status = .fresh ∧ t.tracker.tickTimer = true ∧ t.tracker.staleness = some k.staleLimit ∧
        (k.state = .approach → k.c < last → (stopAt j.stops (k.c + 1)).kind = .stop →
          natAt f.payload 8 1 = 0 → t.tracker.e / 1000 ≤ d (k.c + 1) + k.windowW →
          d (k.c + 1) ≤ t.tracker.e / 1000 + min k.windowW k.approachA →
          t.tracker.state = .atStop ∧ t.tracker.c = k.c + 1))) ∧
    (k.tickTimer = true →
      let e := min (k.e + k.v) (d (nextStop j.stops k.c) * 1000)
      (e ≤ k.e → exec .tick s = .next s) ∧
      (k.e < e → ∃ t, exec .tick s = .next t ∧ handled t ∧ t.classifier = s.classifier ∧
        t.tracker.e = e ∧ t.tracker.v = k.v ∧ t.tracker.motion = k.motion ∧ t.tracker.status = k.status ∧
        t.tracker.tickTimer = true ∧ t.tracker.staleness = k.staleness ∧
        (t.tracker.state = .atStop → k.state = .atStop ∧ t.tracker.c = k.c))) ∧
    (∀ n, k.staleness = some n → k.status = .fresh →
      ∃ t, exec .stalenessExpiry s = .next t ∧ UnchangedBut [.tracker, .panels, .reports] s t ∧
        t.tracker = { k with status := .stale, staleness := none, tickTimer := false } ∧
        t.reports = (raise .positionStale (beBytes 2 j.id ++ [byteOf k.c] ++ beBytes 4 (k.e / 1000)) s).reports ∧
        ∀ p, t.panel p = if (s.panel p).config.role = .map then (s.panel p).markDirty else s.panel p)

/-- A handling departs, passes, skips, approaches and arrives, and hands its outcome on (section 5.1, section
5.4, section 5.5, section 5.8, section 6.3). -/
def Obligations.HandlingMovesTracker : Prop :=
  ∀ (j : Journey) (s t : State) (byReport : Bool), TrackerLaw s → s.tracker.journey = some j →
    ((byReport = true ∧ exec .takePosition s = .next t ∧ ∃ r : Copy, s.classifier.position = some r ∧
        r.frame.payload.length = 9 ∧ natAt r.frame.payload 8 1 ≤ 1 ∧ natAt r.frame.payload 0 2 = j.id ∧
        r.frame.origin = j.lead) ∨
      (byReport = false ∧ exec .tick s = .next t ∧ s.tracker.tickTimer = true ∧
        s.tracker.e < min (s.tracker.e + s.tracker.v)
          ((stopAt j.stops (nextStop j.stops s.tracker.c)).distance * 1000))) →
    let k := s.tracker
    let d := fun i => (stopAt j.stops i).distance
    let kind := fun i => (stopAt j.stops i).kind
    let last := j.stops.length - 1
    let em := t.tracker.e / 1000
    let upTo := fun b => (List.range (b - k.c)).map (k.c + 1 + ·)
    let departs := decide (k.state = .atStop ∧ k.c < last ∧ t.tracker.motion = .moving ∧ d k.c + k.marginM < em)
    let hands := fun h : Handoff =>
      t.notices = { s.notices with fromTracker := s.notices.fromTracker ++ [.handoff h] }
    let cleared := fun i => (kind i = .pass ∧ d i ≤ em) ∨ (kind i = .stop ∧ d i + k.windowW < em)
    (k.state = .atStop → departs = false →
      t.tracker.state = .atStop ∧ t.tracker.c = k.c ∧ t.reports = s.reports ∧
      hands { em := em, c := k.c, n := nextStop j.stops k.c, reached := [], departed := none, arrived := none
              state := .atStop }) ∧
    (k.state ≠ .atStop ∨ departs = true → ∃ c' n, k.c ≤ c' ∧ c' < last ∧
      (∀ i, k.c < i → i ≤ c' → cleared i) ∧ ¬ cleared (c' + 1) ∧
      c' < n ∧ n ≤ last ∧ kind n = .stop ∧ (∀ i, c' < i → i < n → kind i = .pass) ∧
      let near := decide (d n ≤ em + k.approachA)
      let arrives := decide (byReport = true ∧ t.tracker.motion = .stationary ∧ near = true ∧
        em ≤ d n + k.windowW ∧ d n ≤ em + k.windowW)
      t.tracker.state = (if arrives then .atStop else if near then .approach else .cruise) ∧
      t.tracker.c = (if arrives then n else c') ∧
      hands { em := em, c := t.tracker.c, n := nextStop j.stops t.tracker.c, reached := upTo t.tracker.c
              departed := if departs then some k.c else none, arrived := if arrives then some n else none
              state := t.tracker.state } ∧
      t.reports = (match (upTo c').filter (fun i => decide (kind i = .stop)) with
        | [] => s.reports
        | f :: fs => (raise .stopSkipped (beBytes 2 j.id ++ [byteOf f, byteOf (fs.length + 1)] ++ beBytes 4 em)
            s).reports)) ∧
    (let a := stopAt j.stops t.tracker.c
      let b := stopAt j.stops (t.tracker.c + 1)
      let along := fun u v : Nat => ((u : Int) + (((v : Int) - u) *
        (min (em - a.distance) (b.distance - a.distance) : Nat)).tdiv (b.distance - a.distance : Nat)).toNat
      t.tracker.marker = some (if t.tracker.state = .atStop then (a.x, a.y) else (along a.x b.x, along a.y b.y))) ∧
    ∀ p, t.panel p =
      if ((s.panel p).config.role = .map ∧ (t.tracker.c ≠ k.c ∨ t.tracker.marker ≠ k.marker ∨
            t.tracker.status ≠ k.status)) ∨
          ((s.panel p).config.role = .notice ∧ (nextStop j.stops t.tracker.c ≠ nextStop j.stops k.c ∨
            s.exitSide (nextStop j.stops t.tracker.c) ≠ s.exitSide (nextStop j.stops k.c))) then
        (s.panel p).markDirty
      else s.panel p

/-- A settled door edge is counted by its mode and judged against the tracker state (section 5.6, section 5.5).
-/
def Obligations.DoorEdgesAreJudged : Prop :=
  ∀ (i : DoorId) (s : State),
    let x := s.tracker.door i
    let k := s.tracker
    (∀ b, (x.pin = b → exec (.doorLevelChange i b) s = .next s) ∧
      (x.pin ≠ b → exec (.doorLevelChange i b) s = .next { s with
        tracker := k.setDoor i { x with pin := b, timer := decide (b ≠ x.debounced) } })) ∧
    (x.timer = true →
      let settled := { s with tracker := k.setDoor i { x with timer := false, debounced := x.pin } }
      let counted := x.pin ≠ x.debounced ∧
        (x.mode = .both ∨ (x.mode = .rising ∧ x.pin = true) ∨ (x.mode = .falling ∧ x.pin = false))
      let unexpected := fun code n => raise .doorUnexpected
        ([(match i with | .left => 0 | .right => 1 : Byte), if x.pin then 0 else 1, code, byteOf k.c, byteOf n] ++
          beBytes 4 (k.e / 1000))
      (¬ counted ∨ k.journey = none ∨ k.state = .atStop → exec (.debounceExpiry i) s = .next settled) ∧
      ∀ j, counted → k.journey = some j →
        let n := nextStop j.stops k.c
        let dn := (stopAt j.stops n).distance
        (k.state = .cruise → exec (.debounceExpiry i) s = .next (unexpected 2 n settled)) ∧
        (k.state = .approach → k.e / 1000 + k.windowW < dn →
          exec (.debounceExpiry i) s = .next (unexpected 3 n settled)) ∧
        (k.state = .approach → dn ≤ k.e / 1000 + k.windowW →
          let wrong := (i = .left ∧ s.exitSide n = .right) ∨ (i = .right ∧ s.exitSide n = .left)
          ∃ t, exec (.debounceExpiry i) s = .next t ∧
            UnchangedBut [.tracker, .notices, .resv, .panels, .reports] s t ∧
            t.tracker = { settled.tracker with
              state := .atStop, c := n, motion := .stationary, v := 0
              marker := some ((stopAt j.stops n).x, (stopAt j.stops n).y) } ∧
            t.notices = { s.notices with fromTracker := s.notices.fromTracker ++ [.handoff
              { em := k.e / 1000, c := n, n := nextStop j.stops n
                reached := (List.range (n - k.c)).map (k.c + 1 + ·), departed := none, arrived := some n
                state := .atStop }] } ∧
            t.resv = (if n = k.c then s.resv else { s.resv with
              inbox := s.resv.inbox ++ [.advance n (nextStop j.stops n)] }) ∧
            (wrong → t.reports = (unexpected 3 n s).reports) ∧ (¬ wrong → t.reports = s.reports)))

/-- NOTICE_HANDOFF fires and voids exactly the entries its four steps name, and offers their notices in order
(section 6.2, section 6.3, section 6.5, section 6.6). Model's own choices in it: log 24, 50. -/
def Obligations.HandoffSettlesTriggers : Prop :=
  ∀ (rest : List TrackerMsg) (s : State),
    (∀ h : Handoff, s.notices.fromTracker = .handoff h :: rest →
      let fires := fun e : TriggerEntry =>
        let g := e.trigger
        e.state = .armed ∧ ((g.event = .departure ∧ h.departed = some g.stop) ∨
          (g.event = .arrival ∧ h.arrived = some g.stop) ∨
          (g.event = .distance ∧ h.c < g.stop ∧ g.stop < s.tracker.stops.length ∧
            (stopAt s.tracker.stops g.stop).distance ≤ h.em + g.offset))
      let voids := fun e : TriggerEntry =>
        let g := e.trigger
        e.state = .armed ∧ ¬ fires e ∧
          (g.stop < h.c ∨ (g.stop = h.c ∧ (g.event = .departure → h.state ≠ .atStop)))
      ∃ t, exec .noticeHandoff s = .next t ∧ UnchangedBut [.notices, .panels, .reports] s t ∧
        t.notices.fromTracker = rest ∧ t.notices.fromPanels = s.notices.fromPanels ∧
        t.notices.table.length = s.notices.table.length ∧
        (∀ (k : Nat) (e : TriggerEntry), s.notices.table[k]? = some e →
          (fires e → t.notices.table[k]? = some { e with state := .fired }) ∧
          (voids e → t.notices.table[k]? = some { e with state := .void }) ∧
          (¬ fires e → ¬ voids e → t.notices.table[k]? = some e)) ∧
        ((∀ e ∈ s.notices.table, ¬ fires e) → t.notices.queue = s.notices.queue ∧
          t.notices.count = s.notices.count ∧ t.notices.dwell = s.notices.dwell ∧ t.panels = s.panels ∧
          t.reports = s.reports) ∧
        ∃ dep arr dist : List Nat,
          let firing := fun (ev : TriggerEvent) (k : Nat) =>
            ∃ e, s.notices.table[k]? = some e ∧ fires e ∧ e.trigger.event = ev
          let T := fun k => match s.notices.table[k]? with
            | some e => (stopAt s.tracker.stops e.trigger.stop).distance - e.trigger.offset
            | none => 0
          (∀ k, k ∈ dep ↔ firing .departure k) ∧ dep.Pairwise (· < ·) ∧
          (∀ k, k ∈ arr ↔ firing .arrival k) ∧ arr.Pairwise (· < ·) ∧
          (∀ k, k ∈ dist ↔ firing .distance k) ∧ dist.Pairwise (fun a b => T a < T b ∨ (T a = T b ∧ a < b)) ∧
          let offered := (dep ++ arr ++ dist).filterMap (fun k => s.notices.table[k]?.map (fun e =>
            let g := e.trigger
            ({ number := 0, kind := g.kind, target := some g.stop, text := s.expandText g.stop [] g.text
               dwell := g.dwell, priority := g.priority, source := .trigger } : Notice)))
          let run := offered.foldl QueueRun.offer { queue := s.notices.queue, count := s.notices.count }
          t.notices.queue = run.queue ∧ t.notices.count = run.count ∧
          t.reports = (match run.lost with
            | some detail => (raise .noticeDropped detail s).reports
            | none => s.reports) ∧
          ((s.notices.queue.map (·.number)).Nodup →
            (∀ e ∈ s.notices.queue, e.number.toNat ≤ s.notices.count.toNat) →
            s.notices.count.toNat + offered.length < 2 ^ 32 →
            (run.queue.head?.map (·.number) = s.notices.queue.head?.map (·.number) →
              t.notices.dwell = s.notices.dwell ∧ t.panels = s.panels) ∧
            (run.queue.head?.map (·.number) ≠ s.notices.queue.head?.map (·.number) →
              t.notices.dwell = (if s.panels.anyNotice then none else run.queue.head?.map (·.dwell)) ∧
              ∀ p, t.panel p = if (s.panel p).config.role = .notice then (s.panel p).markDirty
                else s.panel p))) ∧
    (s.notices.fromTracker = .journeyReset :: rest →
      ∃ t, exec .noticeJourneyReset s = .next t ∧ UnchangedBut [.notices, .panels] s t ∧
        t.notices = { s.notices with table := [], queue := [], dwell := none, fromTracker := rest } ∧
        ∀ p, t.panel p = if s.notices.queue ≠ [] ∧ (s.panel p).config.role = .notice then
          (s.panel p).markDirty else s.panel p)

/-- TAKE_NOTICE queues a notice by priority, and the dwell timer of the head runs and removes it (section 6.4,
section 6.5, section 6.6). -/
def Obligations.NoticesQueueAndDwell : Prop :=
  ∀ s : State,
    let u := s.notices
    (∀ (c : Copy) (rest : List Copy), s.classifier.notice = c :: rest →
      let taken := { s with classifier := { s.classifier with notice := rest } }
      let b := c.frame.payload
      let formed := 3 ≤ b.length ∧ b.length = 3 + natAt b 2 1 ∧ natAt b 0 1 ≤ 1
      let m : Notice :=
        { number := u.count + 1, kind := .custom, target := none
          text := s.expandText s.tracker.n [] ((b.drop 3).take 64), dwell := max 1 (natAt b 1 1)
          priority := if natAt b 0 1 = 0 then .normal else .urgent, source := .immediate }
      let placed := fun q => { taken with notices := { u with queue := q, count := u.count + 1 } }
      let dropped := fun (why : Byte) (n : Notice) (t : State) => raise .noticeDropped
        [why, byteOf (noticeKindCode n.kind), byteOf (priorityCode n.priority),
          byteOf (noticeSourceCode n.source), byteOf (n.target.getD 255)] t
      (¬ formed → exec .takeNotice s = .next taken) ∧
      (formed → u.queue = [] →
        ∃ t, exec .takeNotice s = .next t ∧ UnchangedBut [.classifier, .notices, .panels] s t ∧
          t.classifier = taken.classifier ∧ t.notices = { u with
            queue := [m], count := u.count + 1
            dwell := if s.panels.anyNotice then none else some m.dwell } ∧
          ∀ p, t.panel p = if (s.panel p).config.role = .notice then (s.panel p).markDirty else s.panel p) ∧
      (formed → ∀ h w, u.queue = h :: w →
        let urgent := w.filter (fun e => decide (e.priority = .urgent))
        let normal := w.filter (fun e => decide (e.priority = .normal))
        (u.queue.length < 8 → natAt b 0 1 = 0 → exec .takeNotice s = .next (placed (h :: w ++ [m]))) ∧
        (u.queue.length < 8 → natAt b 0 1 = 1 →
          exec .takeNotice s = .next (placed (h :: urgent ++ [m] ++ normal))) ∧
        (8 ≤ u.queue.length → natAt b 0 1 = 0 ∨ normal = [] →
          exec .takeNotice s = .next (dropped 0 m taken)) ∧
        (8 ≤ u.queue.length → natAt b 0 1 = 1 → ∀ a x z, w = a ++ x :: z → x.priority = .normal →
          (∀ e ∈ z, e.priority = .urgent) →
          exec .takeNotice s = .next (dropped 1 x (placed (h :: urgent ++ [m] ++
            a.filter (fun e => decide (e.priority = .normal)))))))) ∧
    (∀ d h w, u.dwell = some d → u.queue = h :: w → (∀ x ∈ w.head?, x.number ≠ h.number) →
      ∃ t, exec .dwellExpiry s = .next t ∧ UnchangedBut [.notices, .panels] s t ∧
        t.notices = { u with
          queue := w, dwell := if s.panels.anyNotice then none else w.head?.map (·.dwell) } ∧
        ∀ p, t.panel p = if (s.panel p).config.role = .notice then (s.panel p).markDirty else s.panel p) ∧
    (∀ tag on rest, u.fromPanels = .flipped tag on :: rest →
      (∀ h w, u.queue = h :: w → on = true → tag = some h.number → u.dwell = none →
        exec .noticeFlipReport s =
          .next { s with notices := { u with fromPanels := rest, dwell := some h.dwell } }) ∧
      (on = false ∨ tag = none ∨ tag ≠ u.queue.head?.map (·.number) ∨ u.dwell ≠ none →
        exec .noticeFlipReport s = .next { s with notices := { u with fromPanels := rest } })) ∧
    (∀ none' rest, u.fromPanels = .enableChange none' :: rest →
      (∀ h w, u.queue = h :: w → none' = true → u.dwell = none → exec .noticeEnableChange s =
        .next { s with notices := { u with fromPanels := rest, dwell := some h.dwell } }) ∧
      (none' = false ∨ u.queue = [] ∨ u.dwell ≠ none →
        exec .noticeEnableChange s = .next { s with notices := { u with fromPanels := rest } }))

/-- FLUSH and PURGE free segments, and each reservation operation does to its seat what section 7.3.1 says
(section 7.2, section 7.3.1, section 7.4, section 7.5). -/
def Obligations.SegmentsAreFlushedPurgedAndChanged : Prop :=
  (∀ (rest : List ResvMsg) (s : State),
    let r := s.resv
    let flushed := fun j => { s with resv :=
      { seats := r.seats.map (fun x => { x with segments := [], data := .unknown }),
        journey := j,
        image := r.seats.map (fun x =>
          if x.number = 0 then .dark else if x.service = .outOfService then .blocked else .unknown),
        inbox := rest } }
    (∀ j, r.inbox = .journey j :: rest → exec .flush s = .next (flushed (some j))) ∧
    (r.inbox = .closed :: rest → exec .flush s = .next (flushed none)) ∧
    (r.inbox = .labelChange :: rest → exec .flush s = .next (flushed r.journey)) ∧
    (∀ c n, r.inbox = .advance c n :: rest →
      let j := r.journey.map (fun k => { k with c := c, n := n })
      let seats := r.seats.map (fun x => { x with segments := x.segments.filter (fun g => decide (c < g.toStop)) })
      exec .purge s = .next { s with resv :=
        { seats := seats, journey := j, image := seats.map (lampOf j), inbox := rest } })) ∧
    (∀ (j : ResvJourney) (seats : List Seat),
    (∀ tag, applyOp j (.dropTag tag) seats = (seats.map (fun x => { x with
      segments := x.segments.filter (fun g => decide (g.tag ≠ some tag)) }), .ok)) ∧
    ∀ seat : Nat,
      ((seat = 0 ∨ ∀ x ∈ seats, x.number ≠ seat) →
        (∀ f t tag, applyOp j (.reserve seat f t tag) seats = (seats, .badSeat)) ∧
        (∀ f, applyOp j (.release seat f) seats = (seats, .badSeat)) ∧
        applyOp j (.clearSeat seat) seats = (seats, .badSeat) ∧
        ∀ v, applyOp j (.seatService seat v) seats = (seats, .badSeat)) ∧
      ∀ (i : Nat) (x : Seat), seat ≠ 0 → seats[i]? = some x → x.number = seat →
        (∀ i' x', seats[i']? = some x' → x'.number = seat → i' = i) →
        applyOp j (.clearSeat seat) seats = (seats.set i { x with segments := [], data := .known }, .ok) ∧
        (∀ v, applyOp j (.seatService seat v) seats = (seats.set i { x with service := v }, .ok)) ∧
        (∀ f, ((∃ g ∈ x.segments, g.fromStop = f) → applyOp j (.release seat f) seats =
            (seats.set i { x with segments := x.segments.filter (fun g => decide (g.fromStop ≠ f)) }, .ok)) ∧
          ((∀ g ∈ x.segments, g.fromStop ≠ f) → applyOp j (.release seat f) seats = (seats, .notFound))) ∧
        ∀ f t tag,
          let stops := fun i => j.kinds[i]? = some .stop
          let inRange := f < t ∧ t < j.kinds.length
          let overlap := ∃ g ∈ x.segments, f < g.toStop ∧ g.fromStop < t
          let used := (seats.map (fun y => y.segments.length)).sum
          let result := applyOp j (.reserve seat f t tag) seats
          let placed := x.segments.takeWhile (fun g => decide (g.fromStop ≤ f)) ++
            ({ fromStop := f, toStop := t, tag := tag } ::
              x.segments.dropWhile (fun g => decide (g.fromStop ≤ f)))
          (¬ inRange → result = (seats, .badRange)) ∧
          (inRange → ¬ (stops f ∧ stops t) → result = (seats, .passStop)) ∧
          (inRange → stops f → stops t → t ≤ j.c → result = (seats, .stale)) ∧
          (inRange → stops f → stops t → j.c < t → overlap → result = (seats, .overlap)) ∧
          (inRange → stops f → stops t → j.c < t → ¬ overlap → 384 ≤ used → result = (seats, .poolFull)) ∧
          (inRange → stops f → stops t → j.c < t → ¬ overlap → used < 384 →
            result = (seats.set i { x with segments := placed }, .ok)))

/-- A RESERVATIONS load is checked, then applied record by record or as a whole replacement, or rejected
(section 4.4, section 7.3, section 7.3.2, section 7.3.3, section 12.5). Model's own choices in it: log 4, 17. -/
def Obligations.ReservationsLoadIsApplied : Prop :=
  ∀ (cmd : Instr) (f : Frame) (content : List Byte) (parts : Nat) (s t : State),
    HandsOver cmd .reservations f content parts s t → (∀ m ∈ s.resv.inbox, m.opens = false) →
    let count := natAt content 3 2
    let whole := 5 ≤ content.length ∧ content.length = 5 + 8 * count
    let mode := natAt content 2 1
    let record := fun k => slice content (5 + 8 * k) 8
    let rejects := fun cause index => exec cmd s = .next (batchInvalid .reservations f cause index t)
    (¬ whole → rejects 1 0) ∧
    (whole → 1 < mode → rejects 3 0) ∧
    (whole → mode ≤ 1 → (∀ j, s.resv.journey = some j → natAt content 0 2 ≠ j.id) → rejects 2 0) ∧
    (whole → mode ≤ 1 → ∀ j, s.resv.journey = some j → natAt content 0 2 = j.id →
      let lawful := fun bs : List Byte =>
        let tagged := natAt bs 4 1 = 1 ∧ natAt bs 6 2 ≠ 0
        (natAt bs 0 1 = 0 ∧ (natAt bs 4 1 = 0 ∨ tagged)) ∨ natAt bs 0 1 = 1 ∨ natAt bs 0 1 = 2 ∨
          (natAt bs 0 1 = 3 ∧ tagged) ∨ (natAt bs 0 1 = 4 ∧ natAt bs 5 1 ≤ 1)
      (∀ k, k < count → (∀ i, i < k → lawful (record i)) → ¬ lawful (record k) → rejects 3 (k + 1)) ∧
      (∀ ops : List ResvOp, (List.range count).map (fun k => opOf (record k)) = ops.map some →
        let after := fun (seats : List Seat) (k : Nat) => (ops.take k).foldl (fun x op => (applyOp j op x).1) seats
        let result := fun (seats : List Seat) (k : Nat) =>
          ((ops[k]?.map (fun op => (applyOp j op (after seats k)).2)).getD .ok)
        let committed := fun seats : List Seat => { t with resv :=
          { seats := seats, journey := some j, image := seats.map (lampOf (some j)), inbox := s.resv.inbox } }
        let done := fun u => exec cmd s = .next (batchCommitted .reservations f content parts u)
        (mode = 0 →
          let failed := (List.range count).filter (fun k => decide (result s.resv.seats k ≠ .ok))
          let u := committed (after s.resv.seats count)
          (failed = [] → done u) ∧
          (∀ k rest, failed = k :: rest → done (raise .resvError ([byteOf (endCode f.origin), f.batchId] ++
            beBytes 2 (k + 1) ++ [byteOf (resvResultCode (result s.resv.seats k))] ++
            beBytes 2 failed.length) u))) ∧
        (mode = 1 →
          let empty := s.resv.seats.map (fun x => { x with segments := [] })
          ((∀ k, k < count → result empty k = .ok) → done (committed ((after empty count).map
            (fun x => if x.number = 0 then x else { x with data := .known })))) ∧
          (∀ k, k < count → (∀ i, i < k → result empty i = .ok) → result empty k ≠ .ok →
            rejects (16 + resvResultCode (result empty k)) (k + 1)))) ∧
      ∀ bs, natAt bs 0 1 = 0 → lawful bs → opOf bs = some (.reserve (natAt bs 1 1) (natAt bs 2 1) (natAt bs 3 1)
        (if natAt bs 4 1 = 0 then none else some (natAt bs 6 2))))

/-- The lamp state of a position is the first row of the table that applies (R134). -/
def Obligations.LampStateByFirstRow : Prop :=
  ∀ (j : Option ResvJourney) (x : Seat), x.segments.Pairwise (fun a b => a.fromStop < b.fromStop) →
    (x.number = 0 → lampOf j x = .dark) ∧
    (x.number ≠ 0 → x.service = .outOfService → lampOf j x = .blocked) ∧
    (x.number ≠ 0 → x.service = .inService → (x.data = .unknown ∨ j = none) → lampOf j x = .unknown) ∧
    ∀ k, j = some k → x.number ≠ 0 → x.service = .inService → x.data = .known →
      let reserved := ∃ g ∈ x.segments, g.fromStop ≤ k.c ∧ k.c < g.toStop
      let soon := ∃ g ∈ x.segments, k.c < g.fromStop ∧
        (∀ h ∈ x.segments, k.c < h.fromStop → g.fromStop ≤ h.fromStop) ∧ g.fromStop = k.n
      (reserved → lampOf j x = .reserved) ∧
      (¬ reserved → soon → lampOf j x = .reservedSoon) ∧
      (¬ reserved → ¬ soon → lampOf j x = .free)

/-- LAMP_ROW_PERIOD_END drives the next row or judges the frame; SENSE_SAMPLE gathers the frame checks (section
8.2, section 8.3). Model's own choices in it: log 30. -/
def Obligations.RowsAreDrivenAndSampled : Prop :=
  ∀ (p : FramePlan) (s : State), s.scanner.plan = some p →
    let x := s.scanner
    let lit := fun (st : LampState) => (match st with
      | .free => (false, true) | .reserved => (true, false) | .reservedSoon => (x.phaseOn, false)
      | .blocked => (true, true) | .unknown => (x.phaseOn, x.phaseOn) | .dark => (false, false) : Bool × Bool)
    let level := fun (l : ColumnLine) (on : Bool) => if l.used = false then Drive.released
      else if on = l.activeLow then .low else if l.openDrain then .released else .high
    let lamp := fun r k => x.working.getD (r * 12 + k) .dark
    (∀ a r rest, p.rows = a :: r :: rest → exec .lampRowPeriodEnd s = .next { s with scanner := { x with
      plan := some { p with rows := r :: rest }, sunk := some r
      red := (List.range 12).map (fun k => level (p.lines.red.getD k {}) (lit (lamp r k)).1)
      green := (List.range 12).map (fun k => level (p.lines.green.getD k {}) (lit (lamp r k)).2) } }) ∧
    (p.rows.length ≤ 1 → x.misses.length = 96 → x.faults.length = 96 →
      ∃ t, exec .lampRowPeriodEnd s = .next t ∧ UnchangedBut [.scanner, .reports] s t ∧
        (x.blinkCount + 1 < x.blinkDivisor →
          t.scanner.blinkCount = x.blinkCount + 1 ∧ t.scanner.phaseOn = x.phaseOn) ∧
        (x.blinkDivisor ≤ x.blinkCount + 1 →
          t.scanner.blinkCount = 0 ∧ t.scanner.phaseOn = !x.phaseOn) ∧
        t.scanner.enable = x.enable ∧ t.scanner.rowPeriod = x.rowPeriod ∧
        t.scanner.blinkDivisor = x.blinkDivisor ∧ t.scanner.lines = x.lines ∧
        t.scanner.working = s.resv.image ∧ t.scanner.checks = List.replicate 96 none ∧
        t.scanner.plan = some { rows := (List.range 8).filter (fun r => x.lines.rows.getD r false)
                                period := x.rowPeriod, lines := x.lines } ∧
        ∀ i, i < 96 →
          let was := (x.misses.getD i 0, x.faults.getD i false)
          let now := (t.scanner.misses.getD i 0, t.scanner.faults.getD i false)
          (was.2 = true ∨ x.checks.getD i none = none → now = was) ∧
          (was.2 = false → x.checks.getD i none = some (false, false) → now = (0, false)) ∧
          (∀ red green, was.2 = false → x.checks.getD i none = some (red, green) → (red || green) = true →
            (was.1 < 2 → now = (was.1 + 1, false)) ∧
            (2 ≤ was.1 → now = (0, true) ∧ ((s.report .lampFault).enable = true → s.reports.cells.length = 16 →
              (t.report .lampFault).pending = true ∧
              ((s.report .lampFault).pending = false → (t.report .lampFault).due = true))))) ∧
    (∀ (red green : BitVec 12) (r : Nat) (rest : List Nat), p.rows = r :: rest →
      r * 12 + 12 ≤ x.checks.length →
      ∃ t, exec (.senseSample red green) s = .next t ∧
        t = { s with scanner := { x with checks := t.scanner.checks } } ∧
        t.scanner.checks.length = x.checks.length ∧
        (∀ k, k < 12 →
          let redOn := (p.lines.red.getD k {}).used && (lit (lamp r k)).1
          let greenOn := (p.lines.green.getD k {}).used && (lit (lamp r k)).2
          let redOff := redOn && (red.getLsbD k == (p.lines.red.getD k {}).activeLow)
          let greenOff := greenOn && (green.getLsbD k == (p.lines.green.getD k {}).activeLow)
          t.scanner.checks[r * 12 + k]? =
            some (if redOn || greenOn then some (redOff, greenOff) else none)) ∧
        ∀ i, (i < r * 12 ∨ r * 12 + 12 ≤ i) → t.scanner.checks[i]? = x.checks[i]?)

/-- A FILL_RECT run to its end writes exactly its pixels in clip and panel, by its raster op (section 9.1,
section 9.1.1, section 9.1.2, section 9.1.3, section 9.2.1). -/
def Obligations.FillRectWritesItsPixels : Prop :=
  ∀ (s : State) (u : Running) (p : PanelId) (x0 y0 : Int) (w h : Nat),
    s.engine.running = some u → u.record.target = some p → u.record.body = .fillRect x0 y0 w h →
    u.work = .rows 0 → u.part = 0 → u.record.rop.toNat ≤ 5 → u.record.colour.toNat ≤ 15 →
    s.engine.composerQ = [] → s.engine.inBandQ = [] → s.engine.suspended = none → s.mgmt.draining = false →
    let x := s.panel p
    x.config.width ≤ 512 → x.back.pixels.wf = true →
    let r := u.record
    let covered := fun (i j : Nat) => i < x.config.width ∧ j < x.config.height ∧
      x0 ≤ i ∧ (i : Int) < x0 + w ∧ y0 ≤ j ∧ (j : Int) < y0 + h ∧
      r.clipX ≤ i ∧ (i : Int) < r.clipX + r.clipW ∧ r.clipY ≤ j ∧ (j : Int) < r.clipY + r.clipH
    let src : Pixel := BitVec.ofNat 4 r.colour.toNat
    ∃ pixels : Store, exec .drawRecordEnd s = .next
        { s.setPanel p { x with back := { x.back with pixels := pixels } } with
          engine := { s.engine with running := none } } ∧
      pixels.wf = true ∧
      (∀ i j, covered i j → let old := x.back.pixels.get (j * 512 + i)
        pixels.get (j * 512 + i) = (match r.rop.toNat with
          | 0 => src | 1 => src ||| old | 2 => src &&& old | 3 => src ^^^ old | 4 => 15 - old | _ => old)) ∧
      (∀ a, (∀ i j, covered i j → a ≠ j * 512 + i) → pixels.get a = x.back.pixels.get a)

/-- A LINE or CONTINUE run on writes exactly the pixels its steps, pattern and clip mode give, and halts under
CLIP_STOP (section 9.1.1, section 9.1.4, section 9.2.1, section 9.3). -/
def Obligations.LineDrawsItsPixels : Prop :=
  (∀ (src : DrawSource) (r : Record) (s : State) (x0 y0 x1 y1 : Int) (pattern : BitVec 16)
      (patternReset omitLast clipStop : Bool) (mode : Byte),
      r.body = .line x0 y0 x1 y1 pattern patternReset omitLast clipStop mode →
      let D := max (x1 - x0).natAbs (y1 - y0).natAbs
      let before := match src with | .composer => s.engine.composerPattern | .inBand => s.engine.inBandPattern
      beginWork src r s = .line
        { x0 := x0, y0 := y0, x1 := x1, y1 := y1, rop := r.rop, colour := r.colour, pattern := pattern
          omitLast := omitLast, step := 0, left := if omitLast then D else D + 1
          position := if omitLast ∧ D = 0 then before else if patternReset then 15 else before
          inside := none, clipStop := decide (clipStop = true ∧ src = .inBand ∧ mode = 0) }) ∧
    (∀ (src : DrawSource) (r : Record) (s : State) (h : HeldLine), r.body = .cont →
      s.engine.heldLine = some h → beginWork src r s = .line
        { x0 := h.x0, y0 := h.y0, x1 := h.x1, y1 := h.y1, rop := h.rop, colour := h.colour, pattern := h.pattern
          omitLast := h.omitLast, step := h.step, left := h.left, position := h.position, inside := none
          clipStop := true }) ∧
    ∀ (s : State) (u : Running) (p : PanelId) (l : LineRun) (mode : Nat), RunsAtUnit s u p → u.work = .line l →
      ((∃ x0 y0 x1 y1 pattern reset omits stop m,
          u.record.body = .line x0 y0 x1 y1 pattern reset omits stop m ∧ m.toNat = mode ∧ mode ≤ 2) ∨
        (u.record.body = .cont ∧ mode = 0)) →
      (u.source = .composer → l.clipStop = false) → l.rop.toNat ≤ 5 → l.colour.toNat ≤ 15 → l.position ≤ 15 →
      l.step + l.left ≤ max (l.x1 - l.x0).natAbs (l.y1 - l.y0).natAbs + 1 →
      let x := s.panel p
      let r := u.record
      ∃ (pt : Nat → Int × Int) (h : Nat) (pixels : Store),
        (∀ i, LinePoint l.x0 l.y0 l.x1 l.y1 (l.step + i) (pt i)) ∧
        let inside := fun i => 0 ≤ (pt i).1 ∧ (pt i).1 < x.config.width ∧ 0 ≤ (pt i).2 ∧
          (pt i).2 < x.config.height ∧ r.clips (pt i).1 (pt i).2
        let stops := fun i => l.clipStop = true ∧ ¬ inside i ∧
          ((i = 0 ∧ l.inside = some true) ∨ (0 < i ∧ inside (i - 1)))
        h ≤ l.left ∧ (h < l.left → stops h) ∧ (∀ i < h, ¬ stops i) ∧
        (∀ paint : Nat → Nat → Option Pixel,
          (∀ i j : Nat,
            let drawn := (∃ m < h, pt m = ((i : Int), (j : Int)) ∧
                l.pattern.getLsbD ((l.position + 15 * m) % 16) = true) ∧
              (mode = 0 → r.clips i j) ∧ (mode = 1 → ¬ r.clips i j)
            (drawn → paint i j = some (BitVec.ofNat 4 l.colour.toNat)) ∧ (¬ drawn → paint i j = none)) →
          PaintsExactly x l.rop paint x.back.pixels pixels) ∧
        let position := (l.position + 15 * h) % 16
        let e := s.engine
        let t := { s.setPanel p { x with back := { x.back with pixels := pixels } } with
          engine := { e with
            running := none
            composerPattern := if u.source = .composer then position else e.composerPattern
            inBandPattern := if u.source = .inBand then position else e.inBandPattern
            heldLine := if h < l.left then some
                { panel := r.panel, x0 := l.x0, y0 := l.y0, x1 := l.x1, y1 := l.y1, rop := l.rop
                  colour := l.colour, pattern := l.pattern, omitLast := l.omitLast, step := l.step + h
                  left := l.left - h, position := position }
              else if r.body = .cont then none else e.heldLine } }
        exec .drawRecordEnd s = .next (runEngine
          (if h < l.left ∧ u.source = .inBand then raise .drawEvent [byteOf (bodyCode r.body), 1, r.panel] t
            else t))

/-- A TRAPEZOID, a glyph copy and a TEXT run to their end write exactly their pixels in clip and panel (section
9.1.1, section 9.1.5, section 9.1.6, section 9.1.7, section 9.2.1, section 12.5). -/
def Obligations.ShapesGlyphsAndTextAreDrawn : Prop :=
  (∀ (s : State) (u : Running) (p : PanelId), RunsAtUnit s u p → u.record.rop.toNat ≤ 5 →
      (∀ yTop yBot xl xr sl sr : Int, u.record.body = .trapezoid yTop yBot xl xr sl sr → u.work = .rows 0 →
        u.record.colour.toNat ≤ 15 →
        EndsPainting s u p (fun i j =>
          if yTop ≤ (j : Int) ∧ (j : Int) ≤ yBot ∧ xl + ((j : Int) - yTop) * sl ≤ 256 * i ∧
              256 * (i : Int) ≤ xr + (j - yTop) * sr then
            some (BitVec.ofNat 4 u.record.colour.toNat)
          else none)) ∧
      ∀ (font fg bg : Byte) (transparent : Bool) (f : Font), s.panels.fonts.getD font.toNat none = some f →
        fg.toNat ≤ 15 → bg.toNat ≤ 15 →
        (∀ (code : Byte) (x y : Int), u.record.body = .copyGlyph font code x y fg bg transparent →
          u.work = .glyph false →
          EndsPainting s u p (fun i j =>
            if x ≤ (i : Int) ∧ (i : Int) < x + f.width ∧ y ≤ (j : Int) ∧ (j : Int) < y + f.height then
              f.paint code fg bg transparent ((i : Int) - x).toNat ((j : Int) - y).toNat
            else none)) ∧
        ∀ (x y cursor : Int) (codes left : List Byte),
          u.record.body = .text font x y fg bg transparent codes → u.work = .text left cursor →
          EndsPainting s u p (fun i j =>
            let across := ((i : Int) - cursor).toNat
            if cursor ≤ (i : Int) ∧ across < left.length * f.width ∧ y ≤ (j : Int) ∧ (j : Int) < y + f.height then
              f.paint (left.getD (across / f.width) 0) fg bg transparent (across % f.width)
                ((j : Int) - y).toNat
            else none)) ∧
    ∀ (r : Record) (s : State) (font fg bg : Byte) (x y : Int) (transparent : Bool) (codes : List Byte),
      r.body = .text font x y fg bg transparent codes → TrackerLaw s →
      beginWork .composer r s = .text codes x ∧
      (s.tracker.journey = none → beginWork .inBand r s =
        .text ((codes.map (fun c => if c = 254 ∨ c = 253 then 255 else c)).take 64) x) ∧
      ∀ j, s.tracker.journey = some j →
        let n := nextStop j.stops s.tracker.c
        let side := match s.exitSide n with
          | .left => s.panels.sideLeft.toList
          | .right => s.panels.sideRight.toList
          | .both => s.panels.sideBoth.toList
          | .none => []
        beginWork .inBand r s = .text ((codes.flatMap (fun c =>
          if c = 254 then (stopAt j.stops n).name else if c = 253 then side else [c])).take 64) x

/-- A page copy gives every destination pixel the value its source pixel held at the start, overlap or not
(section 9.1.1, section 9.1.6, section 9.2.1). -/
def Obligations.PageCopyReadsBeforeItWrites : Prop :=
  ∀ (s : State) (u : Running) (p : PanelId) (page : Byte) (sx sy dx dy : Int) (w h : Nat), RunsAtUnit s u p →
    u.record.rop.toNat ≤ 5 → u.record.body = .copyPage page sx sy w h dx dy → u.work = .rows 0 → page.toNat ≤ 1 →
    let x := s.panel p
    let source := if page = 0 then x.shown.pixels else x.back.pixels
    EndsPainting s u p (fun i j =>
      let a := sx + ((i : Int) - dx)
      let b := sy + ((j : Int) - dy)
      if dx ≤ (i : Int) ∧ (i : Int) < dx + w ∧ dy ≤ (j : Int) ∧ (j : Int) < dy + h ∧
          0 ≤ a ∧ a < x.config.width ∧ 0 ≤ b ∧ b < x.config.height then
        some (source.get (b.toNat * 512 + a.toNat))
      else none)

/-- The engine arbiter takes the composer head, the suspended record or the in-band head, and starts or refuses
it (section 9.1.2, section 9.1.4, section 9.1.8, section 9.2.1, section 9.2.2, section 9.3, section 9.4).
Model's own choices in it: log 45. -/
def Obligations.RecordsStartResumeOrAreRefused : Prop :=
  ∀ s : State, s.engine.running = none → s.panels.fonts.length = 4 →
    let e := s.engine
    let pends := fun r : Record => ∃ p, r.target = some p ∧ (s.panel p).flipPending = true
    let refused := fun (r : Record) (t : State) => raise .drawEvent [byteOf (bodyCode r.body), 2, r.panel] t
    let takes := fun (src : DrawSource) (r : Record) (t : State) =>
      (pends r → runEngine s = s) ∧
      (¬ pends r → ¬ StartChecks src r s →
        runEngine s = runEngine (match src with | .composer => t | .inBand => refused r t)) ∧
      (¬ pends r → StartChecks src r s → r.body ≠ .flip →
        runEngine s = { t with engine := { t.engine with
          running := some { source := src, record := r, work := beginWork src r s }
          heldLine := if src = .inBand ∧ bodyCode r.body = 1 then none else e.heldLine } }) ∧
      (¬ pends r → StartChecks src r s → r.body = .flip → ∀ p, r.target = some p →
        let x := s.panel p
        let enabled := x.config.enable = true ∧ x.config.role ≠ .off
        (enabled → runEngine s = runEngine (t.setPanel p { x with flipPending := true })) ∧
        (¬ enabled → ∃ v : State, runEngine s = runEngine v ∧
          v = { t.setPanel p { x with
              shown := x.back, back := x.shown, flipPending := false
              composer := if x.composer = some .flipWait then some (if x.redo then .dirty else .clean)
                else x.composer
              redo := x.redo && decide (x.composer ≠ some .flipWait) } with
            notices := { s.notices with fromPanels := s.notices.fromPanels ++
              if x.config.role = .notice then [.flipped x.back.tag false] else [] } }))
    (e.composerQ = [] → e.suspended = none → e.inBandQ = [] → runEngine s =
      if s.mgmt.draining then { s with mgmt := { s.mgmt with engineIdle := true } } else s) ∧
    (∀ r rest, e.composerQ = r :: rest →
      takes .composer r { s with engine := { e with composerQ := rest } }) ∧
    (∀ r rest, e.composerQ = [] → e.suspended = none → e.inBandQ = r :: rest →
      takes .inBand r { s with engine := { e with inBandQ := rest } }) ∧
    ∀ (u : Running) (p : PanelId), e.composerQ = [] → e.suspended = some u → u.source = .inBand →
      u.record.target = some p →
      ((s.panel p).flipPending = true → runEngine s = s) ∧
      ((s.panel p).flipPending = false → (s.panel p).config.role = .free → u.roleChanged = false →
        runEngine s = { s with engine := { e with suspended := none, running := some u } }) ∧
      ((s.panel p).flipPending = false → (s.panel p).config.role ≠ .free ∨ u.roleChanged = true →
        runEngine s = runEngine (refused u.record { s with engine := { e with
          suspended := none
          inBandPattern := match u.work with
            | .line l => l.position
            | _ => e.inBandPattern } }))

/-- DRAW_RECORD_SUSPEND gives way to the composer, and ABORT_DRAW discards all in-band drawing (section 9.2.1,
section 9.2.2, section 9.3.1). Model's own choices in it: log 7, 38, 41. -/
def Obligations.DrawingIsSetAsideOrDiscarded : Prop :=
  (∀ (s : State) (u : Running) (p q : PanelId) (r : Record) (rest : List Record) (x0 y0 : Int)
      (w h units : Nat),
      s.engine.running = some u → u.source = .inBand → u.record.target = some p →
      s.engine.composerQ = r :: rest → r.target = some q → r.body = .fillRect x0 y0 w h → r.rop.toNat ≤ 5 →
      (s.panel q).flipPending = false → 1 ≤ units →
      let a := runUnits s.panels.fonts u.record units u.part u.cell (s.panel p) u.work
      finished u.record a.1 a.2 = false →
      exec (.drawRecordSuspend units) s = .next { s.setPanel p a.1 with
        engine := { s.engine with
          composerQ := rest
          running := some { source := .composer, record := r, work := .rows 0 }
          suspended := some { u with work := a.2, part := 0, cell := none, roleChanged := false } } } ∧
      (a.1.shown = (s.panel p).shown ∧ a.1.config = (s.panel p).config ∧ a.1.back.tag = (s.panel p).back.tag)) ∧
    ∀ s : State, s.mgmt.draining = false →
      let e := s.engine
      let byComposer := ∃ u ∈ e.running, u.source = .composer
      let mine := match e.running with
        | some u => if u.source = .inBand then some u.record else e.suspended.map (·.record)
        | none => e.suspended.map (·.record)
      (mine = none → e.inBandQ = [] → e.heldLine = none → exec .abortDraw s = .next (s.recorded .ok)) ∧
      ((mine ≠ none ∨ e.inBandQ ≠ [] ∨ e.heldLine ≠ none) →
        ∃ t, exec .abortDraw s = .next (State.recorded .ok (runEngine t)) ∧
          (e.composerQ = [] ∨ byComposer → runEngine t = t) ∧
          (∀ (r : Record) (rest : List Record) (q : PanelId) (x0 y0 : Int) (w h : Nat), ¬ byComposer →
            e.composerQ = r :: rest → r.target = some q → r.body = .fillRect x0 y0 w h → r.rop.toNat ≤ 5 →
            (s.panel q).flipPending = false →
            runEngine t = { t with engine := { t.engine with
              composerQ := rest, running := some { source := .composer, record := r, work := .rows 0 } } }) ∧
          UnchangedBut [.engine, .panels, .reports, .freeCount] s t ∧
          t.engine = { e with
            inBandQ := [], suspended := none, heldLine := none, inBandPattern := 15
            running := if e.running.any (fun u => decide (u.source = .composer)) then e.running else none } ∧
          t.reports = (match mine with
            | some r => (raise .drawEvent [byteOf (bodyCode r.body), 3, r.panel] s).reports
            | none => s.reports) ∧
          ∀ k, (t.panel k).shown = (s.panel k).shown ∧ (t.panel k).config = (s.panel k).config ∧
            ((∀ u ∈ e.running, u.source = .inBand → u.record.target ≠ some k) → e.running.all
              (fun u => decide (u.source = .composer) || u.record.target.isSome) = true →
              t.panel k = s.panel k))

/-- COMPOSE_TURN composes the lowest panel that qualifies, and its records go to the composer queue in order
(section 5.8, section 6.6, section 9.2, section 9.2.1, section 10.2, section 10.4, section 10.5). Model's own
choices in it: log 48. -/
def Obligations.PagesAreComposedInTurn : Prop :=
  (∀ (p : PanelId) (s : State), s.panels.composing = none →
      let ready := fun x : Panel => x.config.enable = true ∧ x.config.role ≠ .off ∧ x.flipPending = false ∧
        x.composer = some .dirty
      ready (s.panel p) → (∀ q, panelNum q < panelNum p → ¬ ready (s.panel q)) →
      let x := s.panel p
      let page := pageRecords p s
      let room := 16 - s.engine.composerQ.length
      let make := fun body : Body => ({ panel := byteOf (panelNum p), rop := 0, colour := 0, clipX := 0, clipY := 0
                                        clipW := x.config.width, clipH := x.config.height, body := body } : Record)
      let clear := make (.fillRect 0 0 x.config.width x.config.height)
      let back := if x.config.role = .notice then
        { x.back with tag := s.notices.queue.head?.map (·.number) } else x.back
      (∃ body, page = clear :: body ++ [make .flip]) ∧
      (x.config.role ≠ .notice → s.tracker.journey = none → page = [clear, make .flip]) ∧
      (x.config.role = .notice → s.panels.fonts.getD x.config.font none = none → page = [clear, make .flip]) ∧
      (∀ j m, x.config.role = .map → s.tracker.journey = some j → s.tracker.marker = some m →
        let c := s.tracker.c
        let last := lastStop j.stops
        let tinted := fun (colour : Pixel) (body : Body) => { make body with colour := byteOf colour.toNat }
        let at' := fun i => ((stopAt j.stops i).x, (stopAt j.stops i).y)
        let line := fun (colour : Pixel) (pattern : BitVec 16) (reset : Bool) (a b : Nat × Nat) =>
          tinted colour (.line a.1 a.2 b.1 b.2 pattern reset false false 2)
        let done := fun a b => line x.config.travelled 0xFFFF true a b
        let future := fun reset a b => line x.config.future x.config.pattern reset a b
        let travelled := (List.range c).map fun i => done (at' i) (at' (i + 1))
        let later := (List.range (last - (c + 1))).map fun i => future false (at' (c + 1 + i)) (at' (c + 2 + i))
        let marks := j.stops.map fun d => tinted x.config.stopMark (match d.kind with
          | .stop => .fillRect ((d.x : Int) - 1) ((d.y : Int) - 1) 3 3
          | .pass => .fillRect d.x d.y 1 1)
        let marker := tinted (if s.tracker.status = .stale then x.config.markerStale else x.config.marker)
          (.fillRect ((m.1 : Int) - 2) ((m.2 : Int) - 2) 5 5)
        let ends := marks ++ [marker, make .flip]
        (c < last → s.tracker.state = .cruise ∨ s.tracker.state = .approach → page = clear :: travelled ++
          [done (at' c) m, future true m (at' (c + 1))] ++ later ++ ends) ∧
        (c < last → s.tracker.state = .atStop → page = clear :: travelled ++
          [future true (at' c) (at' (c + 1))] ++ later ++ ends) ∧
        (c = last → page = clear :: travelled ++ ends)) ∧
      (∀ f, x.config.role = .notice → s.panels.fonts.getD x.config.font none = some f →
        let n := s.tracker.n
        let glyph := match s.exitSide n with
          | .left => s.panels.sideLeft | .right => s.panels.sideRight | .both => s.panels.sideBoth | .none => none
        let text := match s.notices.queue, s.tracker.journey with
          | head :: _, _ => head.text
          | [], some j => x.config.prefixText ++
              (if n < j.stops.length then (stopAt j.stops n).name else []) ++ glyph.toList
          | [], none => []
        let codes := x.config.width / f.width
        let lines := (List.range ((x.config.height + 1) / (f.height + 1))).filter (· * codes < text.length)
        page = clear :: lines.map (fun j => make (.text (byteOf x.config.font) 0 (j * (f.height + 1) : Nat) 15 0 false
          (slice text (j * codes) codes))) ++ [make .flip]) ∧
      ∃ u, exec .composeTurn s = .next (runEngine u) ∧ UnchangedBut [.engine, .panels] s u ∧
        u.engine = { s.engine with composerQ := s.engine.composerQ ++ page.take room } ∧
        (page.length ≤ room →
          u.panels = s.panels.setPanel p { x with composer := some .flipWait, back := back }) ∧
        (room < page.length → u.panels = { s.panels.setPanel p
          { x with composer := some .composing, back := back } with
            composing := some { panel := p, records := page.drop room } })) ∧
    ∀ (k : Composition) (r : Record) (rest : List Record) (s : State), s.panels.composing = some k →
      k.records = r :: rest → s.engine.composerQ.length < 16 →
      ∃ u, exec .composerPlaceRecord s = .next (runEngine u) ∧ UnchangedBut [.engine, .panels] s u ∧
        u.engine = { s.engine with composerQ := s.engine.composerQ ++ [r] } ∧
        (rest ≠ [] → u.panels = { s.panels with composing := some { k with records := rest } }) ∧
        (rest = [] → u.panels = { s.panels.setPanel k.panel
          { s.panel k.panel with composer := some .flipWait } with composing := none })

/-- A GLYPHS load replaces the bitmaps of its font and marks the NOTICE panels, or is rejected (section 4.4,
section 9.1.6, section 10.3, section 12.5). Model's own choices in it: log 7. -/
def Obligations.GlyphsLoadSetsFont : Prop :=
  ∀ (cmd : Instr) (f : Frame) (content : List Byte) (parts : Nat) (s t : State),
    HandsOver cmd .glyphs f content parts s t → s.panels.fonts.length = 4 →
    let font := natAt content 0 1
    let width := natAt content 1 1
    let height := natAt content 2 1
    let first := natAt content 3 1
    let count := natAt content 4 1
    let size := height * ((width + 7) / 8)
    let inRange := font ≤ 3 ∧ 4 ≤ width ∧ width ≤ 16 ∧ 4 ≤ height ∧ height ≤ 16 ∧ first ≤ 252 ∧ 1 ≤ count ∧
      count ≤ 253 ∧ first + count ≤ 253
    let whole := content.length = 5 + count * size
    let rejects := fun cause => exec cmd s = .next (batchInvalid .glyphs f cause 0 t)
    (content.length < 5 → rejects 1) ∧
    (5 ≤ content.length → ¬ inRange → rejects 3) ∧
    (5 ≤ content.length → inRange → ¬ whole → rejects 1) ∧
    (inRange → whole →
      ∃ u, exec cmd s = .next (batchCommitted .glyphs f content parts u) ∧
        UnchangedBut [.engine, .panels, .freeCount] t u ∧
        u.panels.fonts.length = 4 ∧ (∀ i, i ≠ font → u.panels.fonts[i]? = s.panels.fonts[i]?) ∧
        (∃ g, u.panels.fonts[font]? = some (some g) ∧ g.width = width ∧ g.height = height ∧
          ∀ code, code < 253 → g.bitmap code =
            if first ≤ code ∧ code < first + count then slice content (5 + (code - first) * size) size
            else match s.panels.fonts.getD font none with
              | some old => if old.width = width ∧ old.height = height then old.bitmap code else []
              | none => []) ∧
        u.panels.composing = s.panels.composing ∧
        (∀ p, let x := if (s.panel p).config.role = .notice then (s.panel p).markDirty else s.panel p
          u.panel p = { x with back := (u.panel p).back } ∧ (u.panel p).back.tag = x.back.tag ∧
          (s.engine.running.all (fun v => decide (v.record.target ≠ some p) && v.record.target.isSome) = true →
            u.panel p = x)) ∧
        (s.engine.running = none → u.engine = s.engine) ∧
        ∀ v, s.engine.running = some v → ∃ work part cell,
          u.engine = { s.engine with running := some { v with work := work, part := part, cell := cell } } ∧
          (v.part = 0 → v.cell = none → part ≠ 0 → cell = v.record.fontIn s.panels.fonts))

/-- PANEL_ROW_END latches rows in turn, and FRAME_BOUNDARY adopts timing and completes a pending flip (section
10.1.1, section 10.2). Model's own choices in it: log 8, 43. -/
def Obligations.PanelRefreshAndFlip : Prop :=
  ∀ (p : PanelId) (f : Refresh) (s : State), (s.panel p).refresh = some f →
    let x := s.panel p
    (f.boundaryDue = false →
      (∀ y, f.position = .visible y →
        let n := min x.config.width (x.rowPeriod * 25 / 24)
        let k := f.shifted.length
        let colour := fun i => x.palette.getD
          (if x.config.forceBlank then 0 else (x.shown.pixels.get (y * 512 + i)).toNat) 0
        let g : Refresh :=
          { position := if y + 1 < x.config.height then .visible (y + 1) else .blank 0
            shifted := [], latched := f.shifted ++ (List.range (n - k)).map (fun i => colour (k + i))
            boundaryDue := decide (x.config.height ≤ y + 1) }
        exec (.panelRowEnd p) s = .next (s.setPanel p { x with refresh := some g })) ∧
      (∀ k, f.position = .blank k →
        let g : Refresh := { f with position := if k + 1 < x.blankRows then .blank (k + 1) else .visible 0 }
        exec (.panelRowEnd p) s = .next (s.setPanel p { x with refresh := some g }))) ∧
    (f.boundaryDue = true →
      let adopted := { x with
        rowPeriod := x.config.rowPeriod, blankRows := x.config.blankRows
        refresh := some { f with boundaryDue := false } }
      (x.flipPending = false → exec (.frameBoundary p) s = .next (s.setPanel p adopted)) ∧
      (x.flipPending = true → ∃ u, exec (.frameBoundary p) s = .next (runEngine u) ∧
        UnchangedBut [.panels, .notices] s u ∧
        u.panels = s.panels.setPanel p { adopted with
          shown := x.back, back := x.shown, flipPending := false
          composer := if x.composer = some .flipWait then (if x.redo then some .dirty else some .clean)
            else x.composer
          redo := if x.composer = some .flipWait then false else x.redo } ∧
        u.notices = if x.config.role = .notice then { s.notices with
          fromPanels := s.notices.fromPanels ++ [.flipped x.back.tag x.enabled] } else s.notices))

/-- Writes of a panel's enable, role, geometry and timing take effect as section 10.1 says (section 10.1,
section 10.1.1, section 10.5). Model's own choices in it: log 7, 19, 37, 39. -/
def Obligations.PanelRoleEnableGeometryTiming : Prop :=
  ∀ (p : PanelId) (value : List Byte) (s : State), s.mgmt.locked = false →
    let x := s.panel p
    (∀ b : Bool, itemNumber value = some (bit b) →
      (x.config.enable = b → exec (.panelEnableWrite p value) s = .next (s.recorded .ok)) ∧
      (x.config.enable = !b → x.config.role ≠ .off →
        ∃ u, exec (.panelEnableWrite p value) s = .next (State.recorded .ok (runEngine u)) ∧
          UnchangedBut [.panels, .notices] s u ∧ (∀ q, q ≠ p → u.panel q = s.panel q) ∧
          (b = true → u.panel p =
            Panel.markDirty { x with config := { x.config with enable := true }, refresh := some {} }) ∧
          (b = false → x.flipPending = false → u.panel p = { x with
            config := { x.config with enable := false }, rowPeriod := x.config.rowPeriod
            blankRows := x.config.blankRows, refresh := none }) ∧
          (b = false → x.flipPending = true → (u.panel p).shown = x.back ∧ (u.panel p).back = x.shown ∧
            (u.panel p).flipPending = false ∧ (u.panel p).refresh = none))) ∧
    (∀ r : Role, itemNumber value = some (match r with | .off => 0 | .map => 1 | .notice => 2 | .free => 3) →
      (x.config.role = r → exec (.panelRoleWrite p value) s = .next (s.recorded .ok)) ∧
      (x.config.role ≠ r →
        ∃ u, exec (.panelRoleWrite p value) s = .next (State.recorded .ok (runEngine u)) ∧
          UnchangedBut [.engine, .panels, .notices] s u ∧ (∀ q, q ≠ p → u.panel q = s.panel q) ∧
          (u.panel p).config = { x.config with role := r } ∧ (u.panel p).redo = false ∧
          (u.panel p).composer = (if r = .map ∨ r = .notice then some .dirty else none) ∧
          u.engine = { s.engine with suspended := s.engine.suspended.map (fun v =>
            if v.record.target = some p then { v with roleChanged := true } else v) } ∧
          u.panels.composing = (if (s.panels.composing.map (·.panel)) = some p then none
            else s.panels.composing) ∧
          (x.config.role ≠ .off → r ≠ .off ∨ x.config.enable = false →
            (u.panel p).refresh = x.refresh ∧ (u.panel p).shown = x.shown ∧ (u.panel p).back = x.back) ∧
          (x.config.role = .off → x.config.enable = true → (u.panel p).refresh = some {}) ∧
          (r = .off → x.config.enable = true → (u.panel p).refresh = none ∧ (u.panel p).flipPending = false))) ∧
    ∀ n, itemNumber value = some n →
      (∀ f, let v := match f with
              | .width => (if n < 16 then 16 else if 512 < n then 512 else n) / 8 * 8
              | .height => if n < 8 then 8 else if 128 < n then 128 else n
        let result : ItemResult := if v = n then .ok else .clamped
        let config := match f with
          | .width => { x.config with width := v } | .height => { x.config with height := v }
        (config = x.config → exec (.panelGeometryWrite p f value) s = .next (s.recorded result)) ∧
        (config ≠ x.config → ∃ t, exec (.panelGeometryWrite p f value) s = .next (State.recorded result t) ∧
          UnchangedBut [.engine, .panels, .freeCount] s t ∧
          t.panel p = Panel.markDirty { x with
            config := config, shown := {}, back := {}
            refresh := x.refresh.map (fun g => { latched := g.latched }) } ∧
          (s.engine.running = none → t.engine = s.engine ∧ ∀ q, q ≠ p → t.panel q = s.panel q))) ∧
      ∀ f, let v := match f with
             | .rowPeriod => if n < 20 then 20 else if 2000 < n then 2000 else n
             | .blankRows => if n < 1 then 1 else if 64 < n then 64 else n
        let result : ItemResult := if v = n then .ok else .clamped
        let y := { x with config := match f with
          | .rowPeriod => { x.config with rowPeriod := v } | .blankRows => { x.config with blankRows := v } }
        exec (.panelTimingWrite p f value) s = .next (State.recorded result (s.setPanel p
          (if x.enabled then y else
            { y with rowPeriod := y.config.rowPeriod, blankRows := y.config.blankRows })))

/-- Writes of panel fields, palettes and side glyphs store their value and mark the pages they change (section
10.1, section 10.3, section 10.4). Model's own choices in it: log 8, 37. -/
def Obligations.DisplayFieldsAreWritten : Prop :=
  (∀ x : Panel, (x.composer = none ∨ x.composer = some .dirty → x.markDirty = x) ∧
      (x.composer = some .clean → x.markDirty = { x with composer := some .dirty }) ∧
      (x.composer = some .composing ∨ x.composer = some .flipWait → x.markDirty = { x with redo := true })) ∧
    ∀ (p : PanelId) (value : List Byte) (s : State),
      let x := s.panel p
      let stored := fun (role : Role) (config : PanelConfig) => s.setPanel p
        (if config = x.config then x else if x.config.role = role then Panel.markDirty { x with config := config }
          else { x with config := config })
      (value.length ≤ 16 → exec (.panelFieldWrite p 8 value) s =
        .next (State.recorded .ok (stored .notice { x.config with prefixText := value }))) ∧
      (∀ n, itemNumber value = some n →
        let small : ItemResult := if n ≤ 15 then .ok else .clamped
        let v : Pixel := BitVec.ofNat 4 (min n 15)
        exec (.panelFieldWrite p 7 value) s = .next (State.recorded (if n ≤ 3 then .ok else .clamped)
          (stored .notice { x.config with font := min n 3 })) ∧
        exec (.panelFieldWrite p 9 value) s =
          .next (State.recorded small (stored .map { x.config with travelled := v })) ∧
        exec (.panelFieldWrite p 10 value) s =
          .next (State.recorded small (stored .map { x.config with future := v })) ∧
        exec (.panelFieldWrite p 11 value) s =
          .next (State.recorded small (stored .map { x.config with stopMark := v })) ∧
        exec (.panelFieldWrite p 12 value) s =
          .next (State.recorded small (stored .map { x.config with marker := v })) ∧
        exec (.panelFieldWrite p 13 value) s =
          .next (State.recorded small (stored .map { x.config with markerStale := v })) ∧
        exec (.panelFieldWrite p 14 value) s = .next (State.recorded (if n ≤ 65535 then .ok else .clamped)
          (stored .map { x.config with pattern := BitVec.ofNat 16 (min n 65535) }))) ∧
      (∀ b : Bool, itemNumber value = some (bit b) →
        ∃ t, exec (.panelFieldWrite p 6 value) s = .next (State.recorded .ok t) ∧
          UnchangedBut [.panels, .freeCount] s t ∧ (∀ q, q ≠ p → t.panel q = s.panel q) ∧
          t.panel p = { x with config := { x.config with forceBlank := b }, refresh := (t.panel p).refresh } ∧
          (x.refresh = none → (t.panel p).refresh = none) ∧
          ∀ f, x.refresh = some f → ∃ more, (t.panel p).refresh = some { f with shifted := f.shifted ++ more }) ∧
      (∀ e n, e < 16 → itemNumber value = some n →
        ∃ t, exec (.palettesWrite (byteOf (panelNum p * 16 + e)) value) s =
            .next (State.recorded (if n ≤ 4095 then .ok else .clamped) t) ∧
          UnchangedBut [.panels, .freeCount] s t ∧ (∀ q, q ≠ p → t.panel q = s.panel q) ∧
          t.panel p = { x with palette := x.palette.set e (BitVec.ofNat 12 (min n 4095))
                               refresh := (t.panel p).refresh } ∧
          (x.refresh = none → (t.panel p).refresh = none) ∧
          ∀ f, x.refresh = some f → ∃ more, (t.panel p).refresh = some { f with shifted := f.shifted ++ more }) ∧
      ∀ (i : Byte) (n : Nat), i.toNat < 3 → itemNumber value = some n →
        (252 < n → n ≠ 255 → exec (.sideglyphsWrite i value) s = .next (s.recorded .badValue)) ∧
        (n ≤ 252 ∨ n = 255 →
          let code : Option Byte := if n = 255 then none else some (byteOf n)
          let k := if i = 0 then { s.panels with sideLeft := code }
            else if i = 1 then { s.panels with sideRight := code } else { s.panels with sideBoth := code }
          (k = s.panels → exec (.sideglyphsWrite i value) s = .next (s.recorded .ok)) ∧
          (k ≠ s.panels → ∃ t, exec (.sideglyphsWrite i value) s = .next (State.recorded .ok t) ∧
            UnchangedBut [.panels] s t ∧ t.panels.sideLeft = k.sideLeft ∧ t.panels.sideRight = k.sideRight ∧
            t.panels.sideBoth = k.sideBoth ∧ t.panels.fonts = s.panels.fonts ∧
            t.panels.composing = s.panels.composing ∧
            ∀ q, t.panel q = if (s.panel q).config.role = .notice then (s.panel q).markDirty else s.panel q))

/-- Writes to CLASSIFY, GROUPS, SEATMAP, LINES, DOORS, REPORTS and the scanner enable store their value (section
2.4, section 2.8, section 5.6, section 7.1, section 8.1, section 8.2, section 8.3, section 11.5). -/
def Obligations.TablesAreWritten : Prop :=
  ∀ (i : Byte) (value : List Byte) (s : State), s.mgmt.locked = false →
    let k := i.toNat
    (∀ b : Bool, itemNumber value = some (bit b) →
      (k < 24 → ¬ (k = 21 ∧ b = true) → exec (.classifyWrite i value) s =
        .next (State.recorded .ok { s with classifier := { s.classifier with
          entries := s.classifier.entries.modify (k / 3) (fun e => match k % 3 with
            | 0 => { e with consumeOnMatch := b }
            | 1 => { e with forwardOnMatch := b }
            | _ => { e with forwardOnNomatch := b }) } })) ∧
      (k = 21 → b = true → exec (.classifyWrite i value) s = .next (s.recorded .badValue)) ∧
      (k < 64 → ∃ t, exec (.groupsWrite i value) s = .next (State.recorded .ok t) ∧
        t = { s with classifier := { s.classifier with groups := t.classifier.groups } } ∧
        ∀ n, n < 64 → t.classifier.groups.getLsbD n = if n = k then b else s.classifier.groups.getLsbD n) ∧
      (b = s.scanner.enable → exec (.scannerEnableWrite value) s = .next (s.recorded .ok)) ∧
      (b = true → s.scanner.enable = false → ∃ t, exec (.scannerEnableWrite value) s =
          .next (State.recorded .ok t) ∧ UnchangedBut [.scanner] s t ∧ t.scanner.enable = true ∧
        t.scanner.phaseOn = true ∧ t.scanner.blinkCount = 0 ∧ t.scanner.working = s.resv.image ∧
        t.scanner.checks = List.replicate 96 none ∧ t.scanner.misses = s.scanner.misses ∧
        t.scanner.faults = s.scanner.faults ∧ t.scanner.lines = s.scanner.lines ∧
        t.scanner.plan = some { rows := (List.range 8).filter (fun r => s.scanner.lines.rows.getD r false)
                                period := s.scanner.rowPeriod, lines := s.scanner.lines }) ∧
      (b = false → s.scanner.enable = true → exec (.scannerEnableWrite value) s =
        .next (State.recorded .ok { s with scanner := { s.scanner with
          enable := false, plan := none, checks := List.replicate 96 none, misses := List.replicate 96 0
          sunk := none, red := List.replicate 12 .released, green := List.replicate 12 .released } })) ∧
      (k < 48 → k % 3 = 0 → exec (.reportsWrite i value) s = .next (State.recorded .ok { s with
        reports := { s.reports with cells := s.reports.cells.modify (k / 3) (fun x =>
          { x with enable := b, due := x.due && b }) } })) ∧
      (k < 48 → k % 3 = 1 → exec (.reportsWrite i value) s = .next (State.recorded .ok { s with
        reports := { s.reports with cells := s.reports.cells.modify (k / 3) (fun x =>
          { x with priority := if b then .urgent else .normal }) } }))) ∧
    (∀ n, itemNumber value = some n →
      (k < 48 → k % 3 = 2 → exec (.reportsWrite i value) s =
        .next (State.recorded (if n ≤ 7 then .ok else .clamped) { s with reports := { s.reports with
          cells := s.reports.cells.modify (k / 3) (fun x => { x with offset := min n 7 }) } })) ∧
      (k < 8 → n ≤ 1 → exec (.linesWrite i value) s = .next (State.recorded .ok { s with scanner :=
        { s.scanner with lines := { s.scanner.lines with
          rows := s.scanner.lines.rows.modify k (fun _ => decide (n = 1)) } } })) ∧
      (∀ line : ColumnLine, line = { used := n.testBit 0, openDrain := n.testBit 1, activeLow := n.testBit 2 } →
        (8 ≤ k → k < 20 → n ≤ 7 → exec (.linesWrite i value) s = .next (State.recorded .ok { s with scanner :=
          { s.scanner with lines := { s.scanner.lines with
            red := s.scanner.lines.red.modify (k - 8) (fun _ => line) } } })) ∧
        (20 ≤ k → k < 32 → n ≤ 7 → exec (.linesWrite i value) s = .next (State.recorded .ok { s with scanner :=
          { s.scanner with lines := { s.scanner.lines with
            green := s.scanner.lines.green.modify (k - 20) (fun _ => line) } } }))) ∧
      (∀ m : DoorMode, n = (match m with | .off => 0 | .rising => 1 | .falling => 2 | .both => 3) →
        (k = 0 → exec (.doorsWrite i value) s = .next (State.recorded .ok { s with tracker :=
          { s.tracker with doorL := { s.tracker.doorL with mode := m } } })) ∧
        (k = 1 → exec (.doorsWrite i value) s = .next (State.recorded .ok { s with tracker :=
          { s.tracker with doorR := { s.tracker.doorR with mode := m } } }))) ∧
      (k < 96 → n ≤ 255 → s.resv.seats.length = 96 →
        let old := (s.resv.seats.getD k {}).number
        let other := ∃ j x, s.resv.seats[j]? = some x ∧ j ≠ k ∧ x.number = n
        (n = old → exec (.seatmapWrite i value) s = .next (s.recorded .ok)) ∧
        (n ≠ old → n ≠ 0 → other → exec (.seatmapWrite i value) s = .next (s.recorded .badValue)) ∧
        (n ≠ old → (n = 0 ∨ ¬ other) →
          let seats := s.resv.seats.modify k (fun x => { x with number := n, segments := [], data := .unknown })
          exec (.seatmapWrite i value) s = .next (State.recorded .ok { s with resv := { s.resv with
            seats := seats, image := seats.map (lampOf s.resv.journey) } })))) ∧
    exec .clearLampFaults s = .next (State.recorded .ok { s with scanner := { s.scanner with
      faults := List.replicate 96 false, misses := List.replicate 96 0 } })

/-- Management items are read, written or refused by their table's rules, and a frame's answers sent back
(section 11.1, section 11.1.1, section 11.1.2, section 11.1.3, section 11.2). Model's own choices in it: log 6.
-/
def Obligations.ItemsAreAppliedAndAnswered : Prop :=
  ∀ s : State,
    (∀ i : ReadItem,
      let answer := fun a : Answer =>
        exec (.mgmtReadItem (.item i)) s = .next { s with mgmt := { s.mgmt with answer := some a } }
      let size := match i.table.toNat with
        | 0 => 16 | 1 => 24 | 2 => 64 | 3 => 96 | 4 => 64 | 5 => 64 | 6 => 32 | 7 => 2 | 8 => 48 | 9 => 3
        | 10 => 105 | _ => 0
      let fits := 1 ≤ i.count.toNat ∧ i.count.toNat ≤ 32 ∧ i.first.toNat + i.count.toNat ≤ size
      (11 < i.table.toNat → answer { result := .badTable, values := [] }) ∧
      (i.table.toNat ≤ 11 → ¬ fits → answer { result := .badIndex, values := [] }) ∧
      (fits → ∃ values, answer { result := .ok, values := values } ∧ values.length = i.count.toNat ∧
        ∀ k, k < i.count.toNat →
          values[k]? = some (readValue i.table.toNat (i.first.toNat + k) s))) ∧
    (readValue 0 4 s = valueBytes s.link.pauseQuanta ∧ readValue 10 29 s = valueBytes s.tracker.c ∧
      ∀ k, readValue 3 k s = valueBytes (s.resv.seats.getD k {}).number) ∧
    (∀ (value : List Byte) (n : Nat), itemNumber value = some n →
      let wrote := fun (i : Byte) (lo hi : Nat) (t : Nat → State) =>
        let v := if n < lo then lo else if hi < n then hi else n
        exec (.mgmtWriteItem (.item { table := 0, index := i, value := value })) s =
          .next (State.recorded (if v = n then .ok else .clamped) (t v))
      wrote 4 1 255 (fun v => { s with link := { s.link with pauseQuanta := v } }) ∧
      wrote 5 10 255 (fun v => { s with tracker := { s.tracker with staleLimit := v } }) ∧
      wrote 6 100 65535 (fun v => { s with tracker := { s.tracker with approachA := v } }) ∧
      wrote 7 50 2000 (fun v => { s with tracker := { s.tracker with windowW := v } }) ∧
      wrote 8 10 1000 (fun v => { s with tracker := { s.tracker with marginM := v } }) ∧
      wrote 9 1 8 (fun v => { s with scanner := { s.scanner with rowPeriod := v } }) ∧
      wrote 10 1 255 (fun v => { s with scanner := { s.scanner with blinkDivisor := v } }) ∧
      wrote 12 0 255 (fun v => { s with reports := { s.reports with base := v } }) ∧
      (s.mgmt.locked = false →
        wrote 14 0 (2 ^ 48 - 1) (fun v => { s with mgmt := { s.mgmt with storedId := BitVec.ofNat 48 v } }) ∧
        wrote 15 0 99 (fun v => { s with mgmt := { s.mgmt with storedLabel := v } }))) ∧
    (∀ (i : Byte) (value : List Byte), i.toNat ≤ 104 →
      exec (.mgmtWriteItem (.item { table := 10, index := i, value := value })) s =
        .next (s.recorded .readOnly)) ∧
    exec .serviceLock s = .next (State.recorded .ok { s with mgmt := { s.mgmt with locked := true } }) ∧
    (s.mgmt.locked = true → ∀ (i : Byte) (p : PanelId) (value : List Byte),
      let refused := fun c : Instr => exec c s = .next (s.recorded .locked)
      (i.toNat < 4 → refused (.portSettingsWrite i value)) ∧
      (i.toNat < 24 → refused (.classifyWrite i value)) ∧
      (i.toNat < 96 → refused (.seatmapWrite i value)) ∧ refused (.panelRoleWrite p value) ∧
      (∀ f, refused (.panelGeometryWrite p f value)) ∧ (∀ f, refused (.panelTimingWrite p f value)) ∧
      (i.toNat < 32 → refused (.linesWrite i value)) ∧ (i.toNat < 2 → refused (.doorsWrite i value)) ∧
      (i = 14 ∨ i = 15 →
        refused (.mgmtWriteItem (.item { table := 0, index := i, value := value })))) ∧
    ∀ (c : Copy) (rest : List Copy), s.mgmt.waiting = none → s.classifier.mgmt = c :: rest →
      let taken := { s with classifier := { s.classifier with mgmt := rest } }
      let fromItsEnd := ∀ p, s.consist.facing = some p →
        c.port = match c.frame.origin with | .end1 => p | .end2 => opposite p
      let settles := fun (i : Instr) (t : State) (answers : List Answer) =>
        let q := t.port c.port
        let f := replyFrame c.frame (replyPayload t answers)
        (q.isUp = false → exec i s = .next { t with mgmt := { t.mgmt with waiting := none } }) ∧
        (q.isUp = true → q.ltx.length < 4 → exec i s = .next
          ({ t with mgmt := { t.mgmt with waiting := none } }.setPort c.port
            (Port.arbitrate { q with ltx := q.ltx ++ [f] }))) ∧
        (q.isUp = true → 4 ≤ q.ltx.length → exec i s = .next
          { t with mgmt := { t.mgmt with waiting := some { frame := f, port := c.port } } })
      (c.frame.cls = 14 →
        (¬ fromItsEnd ∨ readItems c.frame.payload = none → exec (.mgmtReadItem .frame) s = .next taken) ∧
        ∀ items, fromItsEnd → readItems c.frame.payload = some items →
          settles (.mgmtReadItem .frame) taken (items.map (fun i => applyRead i taken))) ∧
      (c.frame.cls = 13 →
        (¬ fromItsEnd ∨ writeItems c.frame.payload = none → exec (.mgmtWriteItem .frame) s = .next taken) ∧
        ∀ items, fromItsEnd → writeItems c.frame.payload = some items →
          settles (.mgmtWriteItem .frame) (items.foldl (fun t i => (applyWrite i t).1) taken)
            (applyWrites items taken).2)

/-- PIN_RESET, the settings load, and the drain and effects of a soft reset (section 1.1, section 11.3, section
12.7). Model's own choices in it: log 1, 7, 13, 20, 21, 40. -/
def Obligations.ResetsAndSettingsLoad : Prop :=
  ∀ s : State,
    exec .pinReset s = .next { State.reset with
      tracker := { State.reset.tracker with
        doorL := { pin := s.tracker.doorL.pin, debounced := s.tracker.doorL.pin }
        doorR := { pin := s.tracker.doorR.pin, debounced := s.tracker.doorR.pin } }
      freeCount := s.freeCount, pending := s.pending } ∧
    (∀ bs : List Byte, s.mgmt.loading = true → s.link.portA.state = .off → s.link.portB.state = .off →
      let good := bs.length = 11 ∧ (∃ b ∈ bs, b ≠ 0xFF) ∧ (crc16 (bs.take 9)).toNat = natAt bs 9 2
      let loaded := fun (id label quanta : Nat) (x : PortId → PortSettings) (t : State) =>
        UnchangedBut [.link, .consist, .mgmt, .reports] s t ∧
        t.consist = { s.consist with unitId := BitVec.ofNat 48 id, label := label } ∧
        t.mgmt = { s.mgmt with storedId := BitVec.ofNat 48 id, storedLabel := label, loading := false
                               bus := if s.mgmt.save.isSome then s.mgmt.bus else none } ∧
        t.link.pauseQuanta = quanta ∧ ∀ p, (t.port p).heldSettings = x p ∧ (t.port p).working = x p ∧
          ((x p).presence = .present → (t.port p).state = .down ∧ (t.port p).seekTimer = true ∧
            (t.port p).windowCount = 0) ∧
          ((x p).presence = .absent → (t.port p).state = .off)
      let bits := byteAt bs 7
      let settings := fun (absent single : Bool) => ({ presence := if absent then .absent else .present
                                                       limit := if single then .single else .dual } : PortSettings)
      (good → ∃ t, exec (.settingsLoadEnd bs) s = .next t ∧
        loaded (natAt bs 0 6) (if natAt bs 6 1 ≤ 99 then natAt bs 6 1 else 0) (max 1 (natAt bs 8 1))
          (fun p => match p with
            | .A => settings (bits.getLsbD 7) (bits.getLsbD 6)
            | .B => settings (bits.getLsbD 5) (bits.getLsbD 4)) t) ∧
      (¬ good → s.reports.cells.length = 16 → ∃ t, exec (.settingsLoadEnd bs) s = .next t ∧
        loaded 0 0 40 (fun _ => settings false false) t ∧
        (t.report .settings).pending = true ∧ (t.report .settings).detail = [2])) ∧
    (∀ bs : List Byte, s.mgmt.loading = false → exec (.settingsLoadEnd bs) s = .next s) ∧
    (s.mgmt.draining = true → exec .softReset s = .next (s.recorded .busy)) ∧
    (s.mgmt.draining = false → exec .softReset s = .next (State.recorded .ok { s with mgmt := { s.mgmt with
      draining := true, drainTimer := true
      engineIdle := s.engine.running.isNone && s.engine.suspended.isNone && s.engine.composerQ.isEmpty &&
        s.engine.inBandQ.isEmpty
      noBatch := s.slots.slot0.isNone && s.slots.slot1.isNone } })) ∧
    exec .drainTimeout s = .next { s with mgmt := { s.mgmt with drainTimer := false } } ∧
    let isOver := s.mgmt.draining = true ∧
      ((s.mgmt.engineIdle = true ∧ s.mgmt.noBatch = true) ∨ s.mgmt.drainTimer = false)
    (¬ isOver → exec .softResetEffects s = .next s) ∧
    (isOver → ∃ t, exec .softResetEffects s = .next t ∧ t.pending = s.pending ∧ t.slots = {} ∧ t.engine = {} ∧
      t.classifier = { s.classifier with consist := [], position := none, batch := [], notice := [] } ∧
      t.consist = { s.consist with
        state := .uninaugurated, ordinal := 0, table := [], record := none, waiting := none } ∧
      t.tracker = { s.tracker with
        journey := none, state := .idle, c := 0, e := 0, v := 0, motion := .stationary, status := .none
        tickTimer := false, staleness := none, marker := none } ∧
      t.notices = { count := s.notices.count } ∧
      t.resv.seats = s.resv.seats.map (fun x => { x with segments := [], data := .unknown }) ∧
      t.resv.journey = none ∧ t.resv.inbox = [] ∧
      t.scanner = { s.scanner with faults := List.replicate 96 false, misses := List.replicate 96 0 } ∧
      t.reports = { s.reports with cells := s.reports.cells.map (fun x =>
        { x with pending := false, due := false, detail := [] }) } ∧
      t.panels.fonts = s.panels.fonts ∧ t.panels.composing = none ∧
      (∀ p, (t.panel p).shown = (s.panel p).shown ∧ (t.panel p).config = (s.panel p).config ∧
        (t.panel p).flipPending = (s.panel p).flipPending ∧ (t.panel p).redo = false ∧
        (t.panel p).composer = (if (s.panel p).config.role = .map ∨ (s.panel p).config.role = .notice
          then some .dirty else none) ∧
        (s.engine.running = none → (t.panel p).back = (s.panel p).back)) ∧
      (s.mgmt.waiting = none → t.mgmt = { s.mgmt with draining := false, drainTimer := false } ∧
        ∀ p, t.port p = { s.port p with ltx := [], fairness := 0 }))

/-- A save writes the 11-byte record, waits for the memory, reads it back and reports the outcome (section 11.2,
section 12.7). Model's own choices in it: log 20. -/
def Obligations.SettingsAreSaved : Prop :=
  ∀ s : State,
    let flag := fun b : Bool => if b then 1 else 0
    let bits := fun a b : PortSettings =>
      flag (decide (a.presence = .absent)) * 128 + flag (decide (a.limit = .single)) * 64 +
        flag (decide (b.presence = .absent)) * 32 + flag (decide (b.limit = .single)) * 16
    let body := beBytes 6 s.mgmt.storedId.toNat ++
      [byteOf s.mgmt.storedLabel, byteOf (bits s.link.portA.heldSettings s.link.portB.heldSettings),
        byteOf s.link.pauseQuanta]
    let stands := fun (v : Save) (bus : Option Transaction) =>
      { s with mgmt := { s.mgmt with save := some v, bus := bus } }
    let ended := fun code : Byte =>
      raise .settings [code] { s with mgmt := { s.mgmt with save := none, bus := none } }
    (s.mgmt.save ≠ none → exec .saveSettings s = .next (s.recorded .busy)) ∧
    (s.mgmt.save = none → exec .saveSettings s = .next (State.recorded .ok (stands
      { record := body ++ beBytes 2 (crc16 body).toNat, phase := .writeEnable }
      (some { command := 0x06, driven := [], reads := 0 })))) ∧
    ∀ (v : Save) (data : List Byte), s.mgmt.save = some v →
      (v.phase = .writeEnable → exec (.settingsTransactionDone data) s = .next (stands { v with phase := .write }
        (some { command := 0x02, driven := [0, 0] ++ v.record, reads := 0 }))) ∧
      (v.phase = .write → exec (.settingsTransactionDone data) s =
        .next (stands { v with phase := .pollWait } none)) ∧
      (v.phase = .status → ∀ b rest, data = b :: rest →
        (b.getLsbD 0 = true → exec (.settingsTransactionDone data) s =
          .next (stands { v with phase := .pollWait } none)) ∧
        (b.getLsbD 0 = false → exec (.settingsTransactionDone data) s = .next (stands
          { v with phase := .readBack } (some { command := 0x03, driven := [0, 0], reads := 11 })))) ∧
      (v.phase = .readBack →
        (data = v.record → (∃ b ∈ data, b ≠ 0xFF) →
          exec (.settingsTransactionDone data) s = .next (ended 0)) ∧
        (data ≠ v.record ∨ (∀ b ∈ data, b = 0xFF) →
          exec (.settingsTransactionDone data) s = .next (ended 1))) ∧
      (v.phase = .pollWait → exec .saveStatusPoll s = .next (stands { v with phase := .status }
        (some { command := 0x05, driven := [], reads := 1 }))) ∧
      (v.phase = .pollWait ∨ v.phase = .status → exec .saveTimeout s = .next (ended 1))

/-- Raising a class sets its detail, and makes it pending and due when it was not pending; clearing undoes it
(section 11.4, section 11.5). Model's own choices in it: log 18. -/
def Obligations.ReportClassesAreRaisedAndCleared : Prop :=
  ∀ s : State, s.reports.cells.length = 16 →
    let cleared := fun x : ReportCell => { x with pending := false, due := false, detail := [] }
    (∀ (cls : ReportClass) (detail : List Byte),
      let x := s.report cls
      let t := raise cls detail s
      UnchangedBut [.reports] s t ∧ OnlyReport cls s t ∧ t.report cls = { x with
        detail := detail, pending := true, due := if x.pending then x.due else x.enable }) ∧
    (∃ m, readStatus 57 s = valueBytes m ∧ ∀ n, n < 16 → m.testBit n = (s.reports.cells.getD n {}).pending) ∧
    (∀ cls : ReportClass, (s.report cls).detail ≠ [] →
      readStatus (65 + reportNum cls) s = (s.report cls).detail) ∧
    (∀ (value : List Byte) (mask : Nat), itemNumber value = some mask →
      ∃ t, exec (.clearReports value) s = .next (State.recorded .ok t) ∧ UnchangedBut [.reports] s t ∧
        t.reports.base = s.reports.base ∧ t.reports.count = s.reports.count ∧
        t.reports.cells.length = 16 ∧ ∀ n, n < 16 → t.reports.cells.getD n {} =
          if mask.testBit n then cleared (s.reports.cells.getD n {}) else s.reports.cells.getD n {}) ∧
    ∀ t, s.mgmt.drained = true → exec .softResetEffects s = .next t →
      t.reports = { s.reports with cells := s.reports.cells.map cleared }

/-- REPORT_BUILD sends one REPORT of every due class by its cause, when its LTX has room (section 11.5, section
12.8). -/
def Obligations.ReportFrameIsBuilt : Prop :=
  ∀ s : State, s.reports.cells.length = 16 → s.consist.waiting = none → s.mgmt.waiting = none →
    let r := s.reports
    let cell := fun n => r.cells.getD n {}
    let due := (List.range 16).filter (fun n => (cell n).due)
    let sent := { s with reports := { r with cells := r.cells.map (fun (x : ReportCell) => { x with due := false }) } }
    (due = [] → exec .reportBuild s = .next s) ∧
    ∀ n ∈ due, ((cell n).priority = .urgent ∧ (∀ m ∈ due, m < n → (cell m).priority = .normal)) ∨
        ((∀ m ∈ due, (cell m).priority = .normal) ∧ ∀ m ∈ due, n ≤ m) →
      let payload := [byteOf n, byteOf (r.base / r.count * r.count + (cell n).offset % r.count)] ++
        beBytes 2 (pendingSet r.cells) ++ [byteOf due.length] ++
        due.flatMap (fun m => [byteOf m, byteOf (cell m).detail.length] ++ (cell m).detail)
      let after := fun (q : Port) (f : Frame) =>
        if q.isUp then Port.arbitrate { q with ltx := q.ltx ++ [f] } else q
      (∀ j p, s.tracker.journey = some j → s.consist.facing = some p →
        let o := match j.lead with | .end1 => p | .end2 => opposite p
        let f := endFrame 16 j.lead (match j.lead with | .end1 => 1 | .end2 => 2) payload
        ((s.port o).isUp = false ∨ (s.port o).ltx.length < 4 →
          exec .reportBuild s = .next (sent.setPort o (after (s.port o) f))) ∧
        ((s.port o).isUp = true → 4 ≤ (s.port o).ltx.length → exec .reportBuild s = .next s)) ∧
      (s.tracker.journey = none ∨ s.consist.facing = none →
        let f := endFrame 16 .end1 3 payload
        ((∀ p, (s.port p).isUp = true → (s.port p).ltx.length < 4) → exec .reportBuild s =
          .next ((sent.setPort .A (after (s.port .A) f)).setPort .B (after (s.port .B) f))) ∧
        ((∃ p, (s.port p).isUp = true ∧ 4 ≤ (s.port p).ltx.length) → exec .reportBuild s = .next s))
end

