-- ==== Sys2Proof/Laws/State.lean ====
section
/-! SUPPORT. The small lemmas of the state's named updates: what each reads back, and what it leaves. -/

namespace Sys2Proof.Machine

open Sys2Proof

/-! ## Ports and lanes -/

@[simp] theorem Link.port_setPort_same (k : Link) (p : PortId) (x : Port) : (k.setPort p x).port p = x := by
  cases p <;> rfl

@[simp] theorem Link.port_setPort_opposite (k : Link) (p : PortId) (x : Port) :
    (k.setPort p x).port (opposite p) = k.port (opposite p) := by cases p <;> rfl

theorem Link.port_setPort_ne (k : Link) {p r : PortId} (h : r ≠ p) (x : Port) :
    (k.setPort p x).port r = k.port r := by cases p <;> cases r <;> first | rfl | exact absurd rfl h

@[simp] theorem Link.setPort_quanta (k : Link) (p : PortId) (x : Port) :
    (k.setPort p x).pauseQuanta = k.pauseQuanta := by cases p <;> rfl

@[simp] theorem Link.setPort_setPort (k : Link) (p : PortId) (x y : Port) :
    (k.setPort p x).setPort p y = k.setPort p y := by cases p <;> rfl

@[simp] theorem Link.setPort_port (k : Link) (p : PortId) : k.setPort p (k.port p) = k := by cases p <;> rfl

@[simp] theorem opposite_opposite (p : PortId) : opposite (opposite p) = p := by cases p <;> rfl

@[simp] theorem opposite_ne (p : PortId) : opposite p ≠ p := by cases p <;> decide

@[simp] theorem State.port_setPort_same (s : State) (p : PortId) (x : Port) : (s.setPort p x).port p = x :=
  Link.port_setPort_same s.link p x

@[simp] theorem State.port_setPort_opposite (s : State) (p : PortId) (x : Port) :
    (s.setPort p x).port (opposite p) = s.port (opposite p) := Link.port_setPort_opposite s.link p x

@[simp] theorem State.setPort_setPort (s : State) (p : PortId) (x y : Port) :
    (s.setPort p x).setPort p y = s.setPort p y := by simp [State.setPort]

@[simp] theorem State.setPort_port (s : State) (p : PortId) : s.setPort p (s.port p) = s := by
  simp [State.setPort, State.port]

@[simp] theorem State.setPort_quanta (s : State) (p : PortId) (x : Port) :
    (s.setPort p x).link.pauseQuanta = s.link.pauseQuanta := Link.setPort_quanta s.link p x

@[simp] theorem State.setPort_classifier (s : State) (p : PortId) (x : Port) :
    (s.setPort p x).classifier = s.classifier := rfl
@[simp] theorem State.setPort_consist (s : State) (p : PortId) (x : Port) :
    (s.setPort p x).consist = s.consist := rfl
@[simp] theorem State.setPort_slots (s : State) (p : PortId) (x : Port) : (s.setPort p x).slots = s.slots := rfl
@[simp] theorem State.setPort_tracker (s : State) (p : PortId) (x : Port) :
    (s.setPort p x).tracker = s.tracker := rfl
@[simp] theorem State.setPort_notices (s : State) (p : PortId) (x : Port) :
    (s.setPort p x).notices = s.notices := rfl
@[simp] theorem State.setPort_resv (s : State) (p : PortId) (x : Port) : (s.setPort p x).resv = s.resv := rfl
@[simp] theorem State.setPort_scanner (s : State) (p : PortId) (x : Port) :
    (s.setPort p x).scanner = s.scanner := rfl
@[simp] theorem State.setPort_engine (s : State) (p : PortId) (x : Port) : (s.setPort p x).engine = s.engine := rfl
@[simp] theorem State.setPort_panels (s : State) (p : PortId) (x : Port) : (s.setPort p x).panels = s.panels := rfl
@[simp] theorem State.setPort_mgmt (s : State) (p : PortId) (x : Port) : (s.setPort p x).mgmt = s.mgmt := rfl
@[simp] theorem State.setPort_reports (s : State) (p : PortId) (x : Port) :
    (s.setPort p x).reports = s.reports := rfl
@[simp] theorem State.setPort_freeCount (s : State) (p : PortId) (x : Port) :
    (s.setPort p x).freeCount = s.freeCount := rfl
@[simp] theorem State.setPort_pending (s : State) (p : PortId) (x : Port) :
    (s.setPort p x).pending = s.pending := rfl

@[simp] theorem Port.lane_setLane_same (q : Port) (l : LaneId) (x : Lane) : (q.setLane l x).lane l = x := by
  cases l <;> rfl

@[simp] theorem Port.lane_setLane_other (q : Port) (l : LaneId) (x : Lane) :
    (q.setLane l x).lane (otherLane l) = q.lane (otherLane l) := by cases l <;> rfl

@[simp] theorem Port.setLane_lane (q : Port) (l : LaneId) : q.setLane l (q.lane l) = q := by cases l <;> rfl

@[simp] theorem Port.setLane_setLane (q : Port) (l : LaneId) (x y : Lane) :
    (q.setLane l x).setLane l y = q.setLane l y := by cases l <;> rfl

@[simp] theorem Port.setLane_state (q : Port) (l : LaneId) (x : Lane) : (q.setLane l x).state = q.state := by
  cases l <;> rfl
@[simp] theorem Port.setLane_held (q : Port) (l : LaneId) (x : Lane) :
    (q.setLane l x).heldSettings = q.heldSettings := by cases l <;> rfl
@[simp] theorem Port.setLane_working (q : Port) (l : LaneId) (x : Lane) :
    (q.setLane l x).working = q.working := by cases l <;> rfl
@[simp] theorem Port.setLane_windowCount (q : Port) (l : LaneId) (x : Lane) :
    (q.setLane l x).windowCount = q.windowCount := by cases l <;> rfl
@[simp] theorem Port.setLane_windowTimer (q : Port) (l : LaneId) (x : Lane) :
    (q.setLane l x).windowTimer = q.windowTimer := by cases l <;> rfl
@[simp] theorem Port.setLane_seekTimer (q : Port) (l : LaneId) (x : Lane) :
    (q.setLane l x).seekTimer = q.seekTimer := by cases l <;> rfl
@[simp] theorem Port.setLane_syncTimer (q : Port) (l : LaneId) (x : Lane) :
    (q.setLane l x).syncTimer = q.syncTimer := by cases l <;> rfl
@[simp] theorem Port.setLane_gate (q : Port) (l : LaneId) (x : Lane) : (q.setLane l x).gate = q.gate := by
  cases l <;> rfl
@[simp] theorem Port.setLane_gateTimer (q : Port) (l : LaneId) (x : Lane) :
    (q.setLane l x).gateTimer = q.gateTimer := by cases l <;> rfl
@[simp] theorem Port.setLane_pauseAsserted (q : Port) (l : LaneId) (x : Lane) :
    (q.setLane l x).pauseAsserted = q.pauseAsserted := by cases l <;> rfl
@[simp] theorem Port.setLane_resendTimer (q : Port) (l : LaneId) (x : Lane) :
    (q.setLane l x).resendTimer = q.resendTimer := by cases l <;> rfl
@[simp] theorem Port.setLane_waitingPause (q : Port) (l : LaneId) (x : Lane) :
    (q.setLane l x).waitingPause = q.waitingPause := by cases l <;> rfl
@[simp] theorem Port.setLane_fairness (q : Port) (l : LaneId) (x : Lane) :
    (q.setLane l x).fairness = q.fairness := by cases l <;> rfl
@[simp] theorem Port.setLane_rxq (q : Port) (l : LaneId) (x : Lane) : (q.setLane l x).rxq = q.rxq := by
  cases l <;> rfl
@[simp] theorem Port.setLane_ftx (q : Port) (l : LaneId) (x : Lane) : (q.setLane l x).ftx = q.ftx := by
  cases l <;> rfl
@[simp] theorem Port.setLane_ltx (q : Port) (l : LaneId) (x : Lane) : (q.setLane l x).ltx = q.ltx := by
  cases l <;> rfl
@[simp] theorem Port.setLane_isUp (q : Port) (l : LaneId) (x : Lane) : (q.setLane l x).isUp = q.isUp := by
  cases l <;> rfl

/-! ## Panels -/

@[simp] theorem Panels.panel_setPanel_same (k : Panels) (p : PanelId) (x : Panel) :
    (k.setPanel p x).panel p = x := by cases p <;> rfl

theorem Panels.panel_setPanel_ne (k : Panels) {p r : PanelId} (h : r ≠ p) (x : Panel) :
    (k.setPanel p x).panel r = k.panel r := by cases p <;> cases r <;> first | rfl | exact absurd rfl h

@[simp] theorem Panels.setPanel_setPanel (k : Panels) (p : PanelId) (x y : Panel) :
    (k.setPanel p x).setPanel p y = k.setPanel p y := by cases p <;> rfl

@[simp] theorem Panels.setPanel_panel (k : Panels) (p : PanelId) : k.setPanel p (k.panel p) = k := by
  cases p <;> rfl

@[simp] theorem Panels.setPanel_fonts (k : Panels) (p : PanelId) (x : Panel) :
    (k.setPanel p x).fonts = k.fonts := by cases p <;> rfl
@[simp] theorem Panels.setPanel_composing (k : Panels) (p : PanelId) (x : Panel) :
    (k.setPanel p x).composing = k.composing := by cases p <;> rfl
@[simp] theorem Panels.setPanel_sideLeft (k : Panels) (p : PanelId) (x : Panel) :
    (k.setPanel p x).sideLeft = k.sideLeft := by cases p <;> rfl
@[simp] theorem Panels.setPanel_sideRight (k : Panels) (p : PanelId) (x : Panel) :
    (k.setPanel p x).sideRight = k.sideRight := by cases p <;> rfl
@[simp] theorem Panels.setPanel_sideBoth (k : Panels) (p : PanelId) (x : Panel) :
    (k.setPanel p x).sideBoth = k.sideBoth := by cases p <;> rfl

@[simp] theorem State.panel_setPanel_same (s : State) (p : PanelId) (x : Panel) :
    (s.setPanel p x).panel p = x := Panels.panel_setPanel_same s.panels p x

theorem State.panel_setPanel_ne (s : State) {p r : PanelId} (h : r ≠ p) (x : Panel) :
    (s.setPanel p x).panel r = s.panel r := Panels.panel_setPanel_ne s.panels h x

@[simp] theorem State.setPanel_setPanel (s : State) (p : PanelId) (x y : Panel) :
    (s.setPanel p x).setPanel p y = s.setPanel p y := by simp [State.setPanel]

@[simp] theorem State.setPanel_panel (s : State) (p : PanelId) : s.setPanel p (s.panel p) = s := by
  simp [State.setPanel, State.panel]

@[simp] theorem State.setPanel_panels (s : State) (p : PanelId) (x : Panel) :
    (s.setPanel p x).panels = s.panels.setPanel p x := rfl
@[simp] theorem State.setPanel_link (s : State) (p : PanelId) (x : Panel) : (s.setPanel p x).link = s.link := rfl
@[simp] theorem State.setPanel_classifier (s : State) (p : PanelId) (x : Panel) :
    (s.setPanel p x).classifier = s.classifier := rfl
@[simp] theorem State.setPanel_consist (s : State) (p : PanelId) (x : Panel) :
    (s.setPanel p x).consist = s.consist := rfl
@[simp] theorem State.setPanel_slots (s : State) (p : PanelId) (x : Panel) : (s.setPanel p x).slots = s.slots := rfl
@[simp] theorem State.setPanel_tracker (s : State) (p : PanelId) (x : Panel) :
    (s.setPanel p x).tracker = s.tracker := rfl
@[simp] theorem State.setPanel_notices (s : State) (p : PanelId) (x : Panel) :
    (s.setPanel p x).notices = s.notices := rfl
@[simp] theorem State.setPanel_resv (s : State) (p : PanelId) (x : Panel) : (s.setPanel p x).resv = s.resv := rfl
@[simp] theorem State.setPanel_scanner (s : State) (p : PanelId) (x : Panel) :
    (s.setPanel p x).scanner = s.scanner := rfl
@[simp] theorem State.setPanel_engine (s : State) (p : PanelId) (x : Panel) :
    (s.setPanel p x).engine = s.engine := rfl
@[simp] theorem State.setPanel_mgmt (s : State) (p : PanelId) (x : Panel) : (s.setPanel p x).mgmt = s.mgmt := rfl
@[simp] theorem State.setPanel_reports (s : State) (p : PanelId) (x : Panel) :
    (s.setPanel p x).reports = s.reports := rfl
@[simp] theorem State.setPanel_freeCount (s : State) (p : PanelId) (x : Panel) :
    (s.setPanel p x).freeCount = s.freeCount := rfl
@[simp] theorem State.setPanel_pending (s : State) (p : PanelId) (x : Panel) :
    (s.setPanel p x).pending = s.pending := rfl

/-! ## Lists and slots -/

@[simp] theorem updAt_nil {α : Type} (i : Nat) (f : α → α) : updAt i f [] = [] := by cases i <;> rfl

@[simp] theorem updAt_length {α : Type} (i : Nat) (f : α → α) (l : List α) : (updAt i f l).length = l.length := by
  induction l generalizing i with
  | nil => simp
  | cons a as ih => cases i with
    | zero => rfl
    | succ j => simp [updAt, ih]

theorem getElem?_updAt_same {α : Type} (i : Nat) (f : α → α) (l : List α) : (updAt i f l)[i]? = l[i]?.map f := by
  induction l generalizing i with
  | nil => simp
  | cons a as ih => cases i with
    | zero => rfl
    | succ j => simpa [updAt] using ih j

theorem getElem?_updAt_ne {α : Type} {i j : Nat} (h : j ≠ i) (f : α → α) (l : List α) :
    (updAt i f l)[j]? = l[j]? := by
  induction l generalizing i j with
  | nil => simp
  | cons a as ih =>
    cases i with
    | zero => cases j with
      | zero => exact absurd rfl h
      | succ k => rfl
    | succ i => cases j with
      | zero => rfl
      | succ k => simpa [updAt] using ih (by omega)

/-- What `updAt` can put in a list: an old element, or the image of the element at the place. -/
theorem mem_updAt {α : Type} {i : Nat} {f : α → α} {l : List α} {x : α} (h : x ∈ updAt i f l) :
    x ∈ l ∨ ∃ y, l[i]? = some y ∧ x = f y := by
  induction l generalizing i with
  | nil => simp at h
  | cons a as ih =>
    cases i with
    | zero =>
      rcases List.mem_cons.mp h with rfl | h
      · exact .inr ⟨a, rfl, rfl⟩
      · exact .inl (List.mem_cons_of_mem _ h)
    | succ j =>
      rcases List.mem_cons.mp h with rfl | h
      · exact .inl (List.mem_cons_self ..)
      · rcases ih h with h | ⟨y, hy, rfl⟩
        · exact .inl (List.mem_cons_of_mem _ h)
        · exact .inr ⟨y, hy, rfl⟩

@[simp] theorem Slots.slot_setSlot (k : Slots) (i : SlotId) (b : Option Batch) : (k.setSlot i b).slot i = b := by
  cases i <;> rfl

/-- A command in front of the queue is what the step runs. -/
theorem step_cons (c : Instr) (rest : List Instr) (s : State) :
    step { s with pending := c :: rest } = exec c { s with pending := rest } := rfl

/-- A step that answers a next state idled, or ran the command in front. -/
theorem step_next {s t : State} (h : step s = .next t) :
    (s.pending = [] ∧ t = s) ∨
      ∃ c rest, s.pending = c :: rest ∧ exec c { s with pending := rest } = .next t := by
  unfold step at h
  split at h
  · next hp => cases h; exact .inl ⟨hp, rfl⟩
  · next c rest hp => exact .inr ⟨c, rest, hp, h⟩

end Sys2Proof.Machine
end

