-- ==== Sys2Proof/Laws/Ops.lean ====
section
/-! SUPPORT. What the shared operations do, each said once: raising a class, the next stop, placing a segment, giving the
notice queue a new content, and drawing, which touches the back page's pixels alone. -/

namespace Sys2Proof.Machine

open Sys2Proof

/-! ## Lists -/

/-- An entry replaced is the library's `modify`. -/
theorem updAt_eq_modify {α : Type} (f : α → α) : (i : Nat) → (l : List α) → updAt i f l = l.modify i f
  | i, [] => by cases i <;> rfl
  | 0, a :: l => rfl
  | i + 1, a :: l => by
    rw [List.modify_succ_cons, ← updAt_eq_modify f i l]
    rfl

/-! ## Reports (R197) -/

/-- The sixteen classes have different numbers. -/
theorem reportNum_inj {a b : ReportClass} (h : reportNum a = reportNum b) : a = b := by
  cases a <;> cases b <;> first | rfl | cases h

theorem reportNum_lt (c : ReportClass) : reportNum c < 16 := by cases c <;> decide

/-- A raised class has the event's detail and is pending; it becomes due only when it was not pending. -/
theorem report_raise_same (cls : ReportClass) (detail : List Byte) (s : State)
    (h : s.reports.cells.length = 16) : (raise cls detail s).report cls = raiseCell detail (s.report cls) := by
  have hlt : reportNum cls < s.reports.cells.length := h ▸ reportNum_lt cls
  simp [State.report, raise, updAt_eq_modify, List.getD, hlt]

/-- Raising a class leaves every other class. -/
theorem report_raise_other {cls other : ReportClass} (hne : other ≠ cls) (detail : List Byte) (s : State) :
    (raise cls detail s).report other = s.report other := by
  have hn : reportNum cls ≠ reportNum other := fun h => hne (reportNum_inj h).symm
  simp [State.report, raise, updAt_eq_modify, List.getD, hn]

theorem raise_onlyReport (cls : ReportClass) (detail : List Byte) (s : State) :
    OnlyReport cls s (raise cls detail s) := by
  refine ⟨rfl, rfl, fun n hn => ?_⟩
  have hne : ¬ reportNum cls = n := fun h => hn h.symm
  simp [raise, updAt_eq_modify, hne]

/-- Raising a class again with the same detail changes nothing. -/
theorem raise_raise (cls : ReportClass) (detail : List Byte) (s : State) :
    raise cls detail (raise cls detail s) = raise cls detail s := by
  have h : raiseCell detail ∘ raiseCell detail = raiseCell detail := by
    funext x; obtain ⟨p, _, _, _, _, _⟩ := x; cases p <;> rfl
  simp only [raise, updAt_eq_modify, List.modify_modify_eq, h]

/-! ## Placing frames in an RXQ (R15, R16, R21) -/

@[simp] theorem raise_port (cls : ReportClass) (detail : List Byte) (p : PortId) (s : State) :
    (raise cls detail s).port p = s.port p := rfl
@[simp] theorem raise_link (cls : ReportClass) (detail : List Byte) (s : State) :
    (raise cls detail s).link = s.link := rfl
theorem raise_setPort (cls : ReportClass) (detail : List Byte) (p : PortId) (q : Port) (s : State) :
    raise cls detail (s.setPort p q) = (raise cls detail s).setPort p q := rfl

/-- One frame placed, and the others after it. -/
theorem Port.placed_cons (f : Frame) (fs : List Frame) (quanta : Nat) (q : Port) (h8 : q.rxq.length < 8) :
    (let r := { q with rxq := q.rxq ++ [f] }
     (if r.rxq.length = 6 && r.isUp then r.assertPause quanta else r).placed fs quanta) =
      q.placed (f :: fs) quanta := by
  have h7 : 8 - q.rxq.length = (8 - (q.rxq.length + 1)) + 1 := by omega
  have hu : ({ q with rxq := q.rxq ++ [f] } : Port).isUp = q.isUp := rfl
  have ha (r : Port) : (r.assertPause quanta).isUp = r.isUp := rfl
  by_cases u : q.isUp = true
  · by_cases h5 : q.rxq.length = 5
    · have a : 6 ≤ 5 + (fs.length + 1) := by omega
      simp [Port.placed, hu, u, h5, a, Port.assertPause, resendPeriod]
    · by_cases h6 : q.rxq.length < 5 ∧ 6 ≤ q.rxq.length + 1 + fs.length
      · have a : q.rxq.length < 6 ∧ 6 ≤ q.rxq.length + (fs.length + 1) := by omega
        have b : q.rxq.length + 1 < 6 ∧ 6 ≤ q.rxq.length + 1 + fs.length := by omega
        have c : ¬ q.rxq.length + 1 = 6 := by omega
        simp [Port.placed, hu, u, h5, h7, a, b]
      · have a : ¬ (q.rxq.length < 6 ∧ 6 ≤ q.rxq.length + (fs.length + 1)) := by omega
        have b : ¬ (q.rxq.length + 1 < 6 ∧ 6 ≤ q.rxq.length + 1 + fs.length) := by omega
        simp [Port.placed, hu, u, h5, h7, a, b]
  · simp [Port.placed, hu, u, h7]

/-- Placing frames in turn: those that fit, the PAUSE decision at the high mark, and OVERFLOW for the others. -/
theorem placeHeld_eq (p : PortId) : (fs : List Frame) → (s : State) →
    placeHeld p fs s = (s.rxFull p fs).setPort p ((s.port p).placed fs s.link.pauseQuanta)
  | [], s => by
    have h : (s.port p).placed [] s.link.pauseQuanta = s.port p := by
      rw [Port.placed, if_neg (by rw [List.length_nil]; omega)]
      simp
    rw [h, placeHeld, State.rxFull, if_neg (by simp)]
    exact (State.setPort_port s p).symm
  | f :: fs, s => by
    rw [placeHeld, placeHeld_eq p fs]
    by_cases h8 : 8 ≤ (s.port p).rxq.length
    · have h0 : 8 - (s.port p).rxq.length = 0 := by omega
      have h6 : ¬ (s.port p).rxq.length < 6 := by omega
      have h9 : 8 < (s.port p).rxq.length + (fs.length + 1) := by omega
      have hr : raiseOverflow 0 (some p) s = raise .overflow [0, byteOf (portCode p)] s := rfl
      rw [placeRxq, if_pos h8, hr]
      simp [State.rxFull, raise_raise, Port.placed, h0, h6, h9]
    · have hf : (fs ≠ [] ∧ 8 < (s.port p).rxq.length + 1 + fs.length) ↔
          (f :: fs ≠ [] ∧ 8 < (s.port p).rxq.length + (f :: fs).length) := by
        cases fs <;> simp <;> omega
      have hp := Port.placed_cons f fs s.link.pauseQuanta (s.port p) (by omega)
      rw [placeRxq, if_neg h8]
      simp only [State.rxFull, State.port_setPort_same, State.setPort_quanta]
      rw [← hp]
      have hl (r : Port) : (r.assertPause s.link.pauseQuanta).rxq = r.rxq := rfl
      have hlen : (if ((s.port p).rxq ++ [f]).length = 6 && ({ s.port p with rxq := (s.port p).rxq ++ [f] } : Port).isUp then
          ({ s.port p with rxq := (s.port p).rxq ++ [f] } : Port).assertPause s.link.pauseQuanta
          else { s.port p with rxq := (s.port p).rxq ++ [f] }).rxq.length = (s.port p).rxq.length + 1 := by
        split <;> simp [hl]
      rw [hlen]
      simp only [hf]
      split
      · rw [raise_setPort, State.setPort_setPort]
      · rw [State.setPort_setPort]
/-- The frames a lane holds, placed. -/
theorem releaseHeld_eq (p : PortId) (l : LaneId) (s : State) :
    releaseHeld p l s = (s.rxFull p ((s.port p).lane l).held).setPort p
      ((((s.port p).setLane l { (s.port p).lane l with held := [] }).placed ((s.port p).lane l).held
        s.link.pauseQuanta)) := by
  rw [releaseHeld, placeHeld_eq]
  simp only [State.rxFull, State.port_setPort_same, Port.setLane_rxq, State.setPort_quanta]
  split
  · rw [raise_setPort, State.setPort_setPort]
  · rw [State.setPort_setPort]

/-! ## The next stop (section 5.1) -/

/-- n is not before c. -/
theorem nextStop_ge (stops : List Stop) (c : Nat) : c ≤ nextStop stops c := by
  unfold nextStop
  cases hl : (List.range stops.length).filter
      (fun i => decide (c < i) && decide ((stopAt stops i).kind = .stop)) with
  | nil => exact Nat.le_refl c
  | cons n rest =>
    have hm : n ∈ (List.range stops.length).filter
        (fun i => decide (c < i) && decide ((stopAt stops i).kind = .stop)) := by rw [hl]; simp
    simp only [List.mem_filter, Bool.and_eq_true, decide_eq_true_eq] at hm
    exact Nat.le_of_lt hm.2.1

/-- n is c, or a STOP-kind stop of the journey after c. -/
theorem nextStop_cases (stops : List Stop) (c : Nat) : nextStop stops c = c ∨
    (c < nextStop stops c ∧ nextStop stops c < stops.length ∧
      (stopAt stops (nextStop stops c)).kind = .stop) := by
  unfold nextStop
  cases hl : (List.range stops.length).filter
      (fun i => decide (c < i) && decide ((stopAt stops i).kind = .stop)) with
  | nil => exact .inl rfl
  | cons n rest =>
    have hm : n ∈ (List.range stops.length).filter
        (fun i => decide (c < i) && decide ((stopAt stops i).kind = .stop)) := by rw [hl]; simp
    simp only [List.mem_filter, List.mem_range, Bool.and_eq_true, decide_eq_true_eq] at hm
    exact .inr ⟨hm.2.1, hm.1, hm.2.2⟩

/-! ## Segments (R119, R123) -/

/-- A segment placed in a list stands behind those whose from is not above its own. -/
theorem insertSegment_eq (g : Segment) : (l : List Segment) → insertSegment g l =
    l.takeWhile (fun h => decide (h.fromStop ≤ g.fromStop)) ++
      (g :: l.dropWhile (fun h => decide (h.fromStop ≤ g.fromStop)))
  | [] => rfl
  | h :: l => by
    by_cases hlt : g.fromStop < h.fromStop
    · have hle : ¬ h.fromStop ≤ g.fromStop := by omega
      simp [insertSegment, hlt, hle]
    · have hle : h.fromStop ≤ g.fromStop := by omega
      simp [insertSegment, hlt, hle, insertSegment_eq g l]

theorem insertSegment_length (g : Segment) : (l : List Segment) →
    (insertSegment g l).length = l.length + 1
  | [] => rfl
  | h :: l => by
    rw [insertSegment]
    split
    · rfl
    · simp [insertSegment_length g l]

/-- The number 0 names no seat, and a seat that is found carries the number (R122). -/
theorem findSeat_some {seats : List Seat} {number i : Nat} (h : findSeat seats number = some i) :
    number ≠ 0 ∧ ∃ x, seats[i]? = some x ∧ x.number = number := by
  unfold findSeat at h
  split at h
  · cases h
  · next h0 =>
    obtain ⟨hlt, hp, -⟩ := List.findIdx?_eq_some_iff_getElem.1 h
    exact ⟨h0, _, List.getElem?_eq_getElem hlt, by simpa using hp⟩

/-! ## The notice queue (R111, R114) -/

/-- A new content with the same head changes the queue alone; another stops the timer, starts the new head's when no
NOTICE panel is enabled, and marks the NOTICE panels. -/
theorem setQueue_cases (q : List Notice) (s : State) :
    (q.head?.map (·.number) = s.notices.queue.head?.map (·.number) ∧
      setQueue q s = { s with notices := { s.notices with queue := q } }) ∨
    (q.head?.map (·.number) ≠ s.notices.queue.head?.map (·.number) ∧
      setQueue q s = markRole .notice { s with notices := { s.notices with
        queue := q, dwell := if s.panels.anyNotice then none else q.head?.map (·.dwell) } }) := by
  unfold setQueue
  split
  · next h => exact .inl ⟨h, rfl⟩
  · next h =>
    refine .inr ⟨h, ?_⟩
    cases q <;> cases s.panels.anyNotice <;> rfl

/-- The timer of a head that is not running starts with the head's dwell, and nothing else changes. -/
theorem startDwell_cases (u : NoticeUnit) :
    (∃ h w, u.queue = h :: w ∧ u.dwell = none ∧ startDwell u = { u with dwell := some h.dwell }) ∨
      ((u.queue = [] ∨ u.dwell.isSome = true) ∧ startDwell u = u) := by
  unfold startDwell
  split
  · next h w hq hd => exact .inl ⟨h, w, hq, hd, rfl⟩
  · next hno =>
    refine .inr ⟨?_, rfl⟩
    cases hq : u.queue with
    | nil => exact .inl rfl
    | cons h w =>
      cases hd : u.dwell with
      | none => exact absurd hd (hno h w hq)
      | some d => exact .inr rfl

/-! ## The flip of a panel (R176) -/

/-- Completing a flip leaves every other panel. -/
theorem completeFlip_other {p q : PanelId} (h : q ≠ p) (s : State) : (completeFlip p s).panel q = s.panel q := by
  unfold completeFlip
  simp only
  split <;> cases p <;> cases q <;> first | rfl | exact absurd rfl h

/-- Completing a flip exchanges the pages and ends it. -/
theorem completeFlip_same (p : PanelId) (s : State) :
    (completeFlip p s).panel p = (s.panel p).exchange.flipComposer := by
  unfold completeFlip
  simp only
  split <;> cases p <;> rfl

end Sys2Proof.Machine
end

