-- ==== Sys2Proof/Laws/Draw.lean ====
section
/-! SUPPORT. What the engine arbiter does, said once: each choice takes one record, it goes on until none is left
to choose, any sufficient fuel leads to the same end, and the start checks are the table of R151. -/

namespace Sys2Proof.Machine

open Sys2Proof

/-- How many records wait: those of both queues and the one in the suspend slot. -/
def Engine.waitingCount (e : Engine) : Nat := e.composerQ.length + e.inBandQ.length + e.suspended.toList.length

@[simp] theorem raise_engine (cls : ReportClass) (detail : List Byte) (s : State) :
    (raise cls detail s).engine = s.engine := rfl
@[simp] theorem raise_panels (cls : ReportClass) (detail : List Byte) (s : State) :
    (raise cls detail s).panels = s.panels := rfl
@[simp] theorem raise_mgmt (cls : ReportClass) (detail : List Byte) (s : State) :
    (raise cls detail s).mgmt = s.mgmt := rfl

@[simp] theorem reportDraw_engine (src : DrawSource) (r : Record) (res : DrawResult) (s : State) :
    (reportDraw src r res s).engine = s.engine := by
  unfold reportDraw; split <;> rfl

@[simp] theorem completeFlip_engine (p : PanelId) (s : State) : (completeFlip p s).engine = s.engine := by
  unfold completeFlip; dsimp only; split <;> rfl

@[simp] theorem markFlip_engine (p : PanelId) (s : State) : (markFlip p s).engine = s.engine := by
  unfold markFlip; dsimp only; split <;> simp

/-- A record taken from a queue changes neither the queues nor the suspend slot. -/
theorem startRecord_waiting (src : DrawSource) (r : Record) (s : State) :
    (startRecord src r s).engine.waitingCount = s.engine.waitingCount := by
  unfold startRecord; split
  · split <;> simp [Engine.waitingCount]
  · simp

/-- The suspended record leaves the slot. -/
theorem resumeRecord_waiting (u : Running) (s : State) (h : s.engine.suspended = some u) :
    (resumeRecord u s).engine.waitingCount + 1 = s.engine.waitingCount := by
  unfold resumeRecord; split
  · simp [Engine.waitingCount, h]
  · rw [reportDraw_engine]
    unfold Engine.leavePattern
    split
    · cases u.source <;> simp [Engine.setPattern, Engine.waitingCount, h]
    · simp [Engine.waitingCount, h]

/-- One choice takes one record out of the queues and the slot. -/
theorem chooseOnce_waiting {s t : State} (h : chooseOnce s = some t) :
    t.engine.waitingCount + 1 = s.engine.waitingCount := by
  unfold chooseOnce at h
  split at h
  · cases h
  · split at h
    · rename_i hq
      split at h <;> cases h
      rw [startRecord_waiting]; simp [Engine.waitingCount, hq]; omega
    · split at h
      · rename_i hs
        split at h <;> cases h
        exact resumeRecord_waiting _ _ hs
      · split at h
        · rename_i hb
          split at h <;> cases h
          rw [startRecord_waiting]; simp [Engine.waitingCount, hb]; omega
        · cases h

/-- Any fuel of at least the records that wait leads to the same end. -/
theorem chooseLoop_fuel : (n m : Nat) → (s : State) → s.engine.waitingCount ≤ n →
    s.engine.waitingCount ≤ m → chooseLoop n s = chooseLoop m s
  | n, m, s, hn, hm => by
    cases hc : chooseOnce s with
    | none => cases n <;> cases m <;> simp [chooseLoop, hc]
    | some t =>
      have ht := chooseOnce_waiting hc
      match n, m with
      | 0, _ => omega
      | _, 0 => omega
      | n + 1, m + 1 =>
        simp only [chooseLoop, hc]
        exact chooseLoop_fuel n m t (by omega) (by omega)

/-- The fuel of `runEngine` suffices. -/
theorem runEngine_fuel (s : State) :
    s.engine.waitingCount ≤ s.engine.composerQ.length + s.engine.inBandQ.length + 2 := by
  unfold Engine.waitingCount
  cases s.engine.suspended <;> simp

/-- After a choice the arbiter chooses again. -/
theorem runEngine_some {s t : State} (h : chooseOnce s = some t) : runEngine s = runEngine t := by
  unfold runEngine
  have ht := chooseOnce_waiting h
  have hs := runEngine_fuel s
  rw [show chooseLoop (s.engine.composerQ.length + s.engine.inBandQ.length + 2) s =
    chooseLoop (s.engine.composerQ.length + s.engine.inBandQ.length + 1) t by simp [chooseLoop, h]]
  exact congrArg noteEngineIdle (chooseLoop_fuel _ _ t (by omega) (runEngine_fuel t))

/-- With nothing to choose the arbiter rests. -/
theorem runEngine_none {s : State} (h : chooseOnce s = none) : runEngine s = noteEngineIdle s := by
  simp [runEngine, chooseLoop, h]

/-- While a record runs the arbiter chooses nothing. -/
theorem runEngine_running {s : State} {u : Running} (h : s.engine.running = some u) : runEngine s = s := by
  rw [runEngine_none (by simp [chooseOnce, h])]
  simp [noteEngineIdle, Engine.isIdle, h]

/-- The start checks are those of the table of R151. -/
theorem startOk_iff (src : DrawSource) (r : Record) (s : State) (h : s.panels.fonts.length = 4) :
    startOk src r s = true ↔ StartChecks src r s := by
  have known : ∀ font : Byte, (fontOf s.panels.fonts font).isSome = true ↔
      font.toNat ≤ 3 ∧ s.panels.fonts.getD font.toNat none ≠ none := by
    intro font
    unfold fontOf
    constructor
    · intro hf
      refine ⟨?_, by simpa [Option.isSome_iff_ne_none] using hf⟩
      by_contra hc
      rw [List.getD_eq_default _ _ (by omega)] at hf
      cases hf
    · intro hf
      exact Option.isSome_iff_ne_none.mpr hf.2
  have target : r.targetOk src s = true ↔
      ∃ p, r.target = some p ∧ (src = .inBand → (s.panel p).config.role = .free) := by
    unfold Record.targetOk
    cases r.target with
    | none => simp
    | some p => cases src <;> simp
  unfold startOk StartChecks Record.coded Record.kindOk
  rw [Bool.and_eq_true, Bool.and_eq_true, target, and_assoc]
  refine and_congr_right fun _ => ?_
  cases r.body <;> simp only [known, decide_eq_true_eq, Bool.and_eq_true, true_and, and_true, Bool.false_eq_true,
    and_assoc]
  cases s.engine.heldLine <;> simp

end Sys2Proof.Machine
end

