-- ==== Sys2Proof/Laws/Frames.lean ====
section
/-! SUPPORT. What each shared operation leaves unchanged, in one form: an operation that writes only parts of `ps` keeps
"all but `ps` is as in `s`". The side conditions are found by `assumption` or `decide`, so a proof composes the lemmas. -/

namespace Sys2Proof.Machine

set_option Elab.async false

open Sys2Proof

variable {ps qs : List Part} {s t u : State}

/-! ## The frame itself -/

theorem UnchangedBut.refl (ps : List Part) (s : State) : UnchangedBut ps s s := by
  constructor <;> intro _ <;> rfl

theorem UnchangedBut.trans (h : UnchangedBut ps s t) (k : UnchangedBut ps t u) : UnchangedBut ps s u := by
  constructor <;> intro n
  · exact (k.link n).trans (h.link n)
  · exact (k.classifier n).trans (h.classifier n)
  · exact (k.consist n).trans (h.consist n)
  · exact (k.slots n).trans (h.slots n)
  · exact (k.tracker n).trans (h.tracker n)
  · exact (k.notices n).trans (h.notices n)
  · exact (k.resv n).trans (h.resv n)
  · exact (k.scanner n).trans (h.scanner n)
  · exact (k.engine n).trans (h.engine n)
  · exact (k.panels n).trans (h.panels n)
  · exact (k.mgmt n).trans (h.mgmt n)
  · exact (k.reports n).trans (h.reports n)
  · exact (k.freeCount n).trans (h.freeCount n)
  · exact (k.pending n).trans (h.pending n)

theorem UnchangedBut.mono (h : UnchangedBut ps s t) (sub : ps ⊆ qs) : UnchangedBut qs s t := by
  constructor <;> intro n
  · exact h.link (fun m => n (sub m))
  · exact h.classifier (fun m => n (sub m))
  · exact h.consist (fun m => n (sub m))
  · exact h.slots (fun m => n (sub m))
  · exact h.tracker (fun m => n (sub m))
  · exact h.notices (fun m => n (sub m))
  · exact h.resv (fun m => n (sub m))
  · exact h.scanner (fun m => n (sub m))
  · exact h.engine (fun m => n (sub m))
  · exact h.panels (fun m => n (sub m))
  · exact h.mgmt (fun m => n (sub m))
  · exact h.reports (fun m => n (sub m))
  · exact h.freeCount (fun m => n (sub m))
  · exact h.pending (fun m => n (sub m))

/-! ## Updates of one part -/

theorem link_keeps {x : Link} (h : UnchangedBut ps s t) (m : Part.link ∈ ps := by first | assumption | decide | simp [touched]) :
    UnchangedBut ps s { t with link := x } :=
  { h with link := fun n => absurd m n }

theorem classifier_keeps {x : Classifier} (h : UnchangedBut ps s t) (m : Part.classifier ∈ ps := by first | assumption | decide | simp [touched]) :
    UnchangedBut ps s { t with classifier := x } :=
  { h with classifier := fun n => absurd m n }

theorem consist_keeps {x : Consist} (h : UnchangedBut ps s t) (m : Part.consist ∈ ps := by first | assumption | decide | simp [touched]) :
    UnchangedBut ps s { t with consist := x } :=
  { h with consist := fun n => absurd m n }

theorem slots_keeps {x : Slots} (h : UnchangedBut ps s t) (m : Part.slots ∈ ps := by first | assumption | decide | simp [touched]) :
    UnchangedBut ps s { t with slots := x } :=
  { h with slots := fun n => absurd m n }

theorem tracker_keeps {x : Tracker} (h : UnchangedBut ps s t) (m : Part.tracker ∈ ps := by first | assumption | decide | simp [touched]) :
    UnchangedBut ps s { t with tracker := x } :=
  { h with tracker := fun n => absurd m n }

theorem notices_keeps {x : NoticeUnit} (h : UnchangedBut ps s t) (m : Part.notices ∈ ps := by first | assumption | decide | simp [touched]) :
    UnchangedBut ps s { t with notices := x } :=
  { h with notices := fun n => absurd m n }

theorem resv_keeps {x : Resv} (h : UnchangedBut ps s t) (m : Part.resv ∈ ps := by first | assumption | decide | simp [touched]) :
    UnchangedBut ps s { t with resv := x } :=
  { h with resv := fun n => absurd m n }

theorem scanner_keeps {x : Scanner} (h : UnchangedBut ps s t) (m : Part.scanner ∈ ps := by first | assumption | decide | simp [touched]) :
    UnchangedBut ps s { t with scanner := x } :=
  { h with scanner := fun n => absurd m n }

theorem engine_keeps {x : Engine} (h : UnchangedBut ps s t) (m : Part.engine ∈ ps := by first | assumption | decide | simp [touched]) :
    UnchangedBut ps s { t with engine := x } :=
  { h with engine := fun n => absurd m n }

theorem panels_keeps {x : Panels} (h : UnchangedBut ps s t) (m : Part.panels ∈ ps := by first | assumption | decide | simp [touched]) :
    UnchangedBut ps s { t with panels := x } :=
  { h with panels := fun n => absurd m n }

theorem mgmt_keeps {x : Mgmt} (h : UnchangedBut ps s t) (m : Part.mgmt ∈ ps := by first | assumption | decide | simp [touched]) :
    UnchangedBut ps s { t with mgmt := x } :=
  { h with mgmt := fun n => absurd m n }

theorem reports_keeps {x : Reports} (h : UnchangedBut ps s t) (m : Part.reports ∈ ps := by first | assumption | decide | simp [touched]) :
    UnchangedBut ps s { t with reports := x } :=
  { h with reports := fun n => absurd m n }

theorem freeCount_keeps {x : Nat} (h : UnchangedBut ps s t) (m : Part.freeCount ∈ ps := by first | assumption | decide | simp [touched]) :
    UnchangedBut ps s { t with freeCount := x } :=
  { h with freeCount := fun n => absurd m n }

theorem engine_freeCount_keeps {x : Engine} {y : Nat} (h : UnchangedBut ps s t)
    (m : Part.engine ∈ ps := by first | assumption | decide | simp [touched]) (n : Part.freeCount ∈ ps := by first | assumption | decide | simp [touched]) :
    UnchangedBut ps s { t with engine := x, freeCount := y } :=
  { h with engine := fun k => absurd m k, freeCount := fun k => absurd n k }

theorem panels_freeCount_keeps {x : Panels} {y : Nat} (h : UnchangedBut ps s t)
    (m : Part.panels ∈ ps := by first | assumption | decide | simp [touched]) (n : Part.freeCount ∈ ps := by first | assumption | decide | simp [touched]) :
    UnchangedBut ps s { t with panels := x, freeCount := y } :=
  { h with panels := fun k => absurd m k, freeCount := fun k => absurd n k }

theorem engine_panels_keeps {x : Engine} {y : Panels} (h : UnchangedBut ps s t)
    (m : Part.engine ∈ ps := by first | assumption | decide | simp [touched]) (n : Part.panels ∈ ps := by first | assumption | decide | simp [touched]) :
    UnchangedBut ps s { t with engine := x, panels := y } :=
  { h with engine := fun k => absurd m k, panels := fun k => absurd n k }

theorem notices_resv_keeps {x : NoticeUnit} {y : Resv} (h : UnchangedBut ps s t)
    (m : Part.notices ∈ ps := by first | assumption | decide | simp [touched]) (n : Part.resv ∈ ps := by first | assumption | decide | simp [touched]) :
    UnchangedBut ps s { t with notices := x, resv := y } :=
  { h with notices := fun k => absurd m k, resv := fun k => absurd n k }

theorem consist_resv_keeps {x : Consist} {y : Resv} (h : UnchangedBut ps s t)
    (m : Part.consist ∈ ps := by first | assumption | decide | simp [touched]) (n : Part.resv ∈ ps := by first | assumption | decide | simp [touched]) :
    UnchangedBut ps s { t with consist := x, resv := y } :=
  { h with consist := fun k => absurd m k, resv := fun k => absurd n k }

theorem tracker_notices_keeps {x : Tracker} {y : NoticeUnit} (h : UnchangedBut ps s t)
    (m : Part.tracker ∈ ps := by first | assumption | decide | simp [touched]) (n : Part.notices ∈ ps := by first | assumption | decide | simp [touched]) :
    UnchangedBut ps s { t with tracker := x, notices := y } :=
  { h with tracker := fun k => absurd m k, notices := fun k => absurd n k }

/-! ## Flags and reports -/

theorem raise_keeps {c : ReportClass} {d : List Byte} (h : UnchangedBut ps s t)
    (m0 : Part.reports ∈ ps := by first | assumption | decide | simp [touched]) :
    UnchangedBut ps s (raise c d t) := reports_keeps h

theorem raiseOverflow_keeps {k : Nat} {p : Option PortId} (h : UnchangedBut ps s t)
    (m0 : Part.reports ∈ ps := by first | assumption | decide | simp [touched]) :
    UnchangedBut ps s (raiseOverflow k p t) := raise_keeps h

theorem raiseConsist_keeps  (h : UnchangedBut ps s t)
    (m0 : Part.reports ∈ ps := by first | assumption | decide | simp [touched]) :
    UnchangedBut ps s (raiseConsist t) := raise_keeps h

theorem noteEngineIdle_keeps  (h : UnchangedBut ps s t)
    (m0 : Part.mgmt ∈ ps := by first | assumption | decide | simp [touched]) :
    UnchangedBut ps s (noteEngineIdle t) := by
  unfold noteEngineIdle; split
  · exact mgmt_keeps h
  · exact h

theorem noteNoBatch_keeps  (h : UnchangedBut ps s t)
    (m0 : Part.mgmt ∈ ps := by first | assumption | decide | simp [touched]) :
    UnchangedBut ps s (noteNoBatch t) := by
  unfold noteNoBatch; split
  · exact mgmt_keeps h
  · exact h

/-! ## Ports -/

theorem setPort_keeps {p : PortId} {x : Port} (h : UnchangedBut ps s t)
    (m0 : Part.link ∈ ps := by first | assumption | decide | simp [touched]) :
    UnchangedBut ps s (t.setPort p x) := link_keeps h

theorem arbitrate_keeps {p : PortId} (h : UnchangedBut ps s t)
    (m0 : Part.link ∈ ps := by first | assumption | decide | simp [touched]) :
    UnchangedBut ps s (arbitrate p t) := setPort_keeps h

theorem offerFtx_keeps {p : PortId} {f : Frame} (h : UnchangedBut ps s t)
    (m0 : Part.link ∈ ps := by first | assumption | decide | simp [touched])
    (m1 : Part.reports ∈ ps := by first | assumption | decide | simp [touched]) :
    UnchangedBut ps s (offerFtx p f t) := by
  unfold offerFtx; split
  · split
    · exact setPort_keeps h
    · exact raiseOverflow_keeps h
  · exact h

theorem placeLtx_keeps {p : PortId} {f : Frame} (h : UnchangedBut ps s t)
    (m0 : Part.link ∈ ps := by first | assumption | decide | simp [touched]) :
    UnchangedBut ps s (placeLtx p f t) := by
  unfold placeLtx; split
  · exact setPort_keeps h
  · exact h

theorem placeRxq_keeps {p : PortId} {f : Frame} (h : UnchangedBut ps s t)
    (m0 : Part.link ∈ ps := by first | assumption | decide | simp [touched])
    (m1 : Part.reports ∈ ps := by first | assumption | decide | simp [touched]) :
    UnchangedBut ps s (placeRxq p f t) := by
  unfold placeRxq; split
  · exact raiseOverflow_keeps h
  · exact setPort_keeps h

theorem reportPort_keeps {p : PortId} {k : Nat} (h : UnchangedBut ps s t)
    (m0 : Part.reports ∈ ps := by first | assumption | decide | simp [touched]) :
    UnchangedBut ps s (reportPort p k t) := raise_keeps h

theorem topologyChange_keeps  (h : UnchangedBut ps s t)
    (m0 : Part.consist ∈ ps := by first | assumption | decide | simp [touched])
    (m1 : Part.reports ∈ ps := by first | assumption | decide | simp [touched]) :
    UnchangedBut ps s (topologyChange t) := by
  unfold topologyChange; split
  · exact raiseConsist_keeps (consist_keeps h)
  · exact h

theorem passToOff_keeps {p : PortId} (h : UnchangedBut ps s t)
    (m0 : Part.link ∈ ps := by first | assumption | decide | simp [touched])
    (m1 : Part.reports ∈ ps := by first | assumption | decide | simp [touched]) :
    UnchangedBut ps s (passToOff p t) := by
  unfold passToOff; split
  · exact reportPort_keeps (setPort_keeps h)
  · exact h

theorem enterDown_keeps {p : PortId} {k : Nat} (h : UnchangedBut ps s t)
    (m0 : Part.link ∈ ps := by first | assumption | decide | simp [touched])
    (m1 : Part.reports ∈ ps := by first | assumption | decide | simp [touched]) :
    UnchangedBut ps s (enterDown p k t) := passToOff_keeps (reportPort_keeps (setPort_keeps h))

theorem reenterDown_keeps {p : PortId} (h : UnchangedBut ps s t)
    (m0 : Part.link ∈ ps := by first | assumption | decide | simp [touched])
    (m1 : Part.reports ∈ ps := by first | assumption | decide | simp [touched]) :
    UnchangedBut ps s (reenterDown p t) := passToOff_keeps (setPort_keeps h)

theorem enterTraining_keeps {p : PortId} {l : LaneId} (h : UnchangedBut ps s t)
    (m0 : Part.link ∈ ps := by first | assumption | decide | simp [touched])
    (m1 : Part.reports ∈ ps := by first | assumption | decide | simp [touched]) :
    UnchangedBut ps s (enterTraining p l t) := reportPort_keeps (setPort_keeps h)

theorem enterUp_keeps {p : PortId} {st : PortState} {a b : Lane} (h : UnchangedBut ps s t)
    (m0 : Part.link ∈ ps := by first | assumption | decide | simp [touched])
    (m1 : Part.consist ∈ ps := by first | assumption | decide | simp [touched])
    (m2 : Part.reports ∈ ps := by first | assumption | decide | simp [touched]) :
    UnchangedBut ps s (enterUp p st a b t) := topologyChange_keeps (reportPort_keeps (setPort_keeps h))

theorem endWindowEarly_keeps {p : PortId} (h : UnchangedBut ps s t)
    (m0 : Part.link ∈ ps := by first | assumption | decide | simp [touched])
    (m1 : Part.consist ∈ ps := by first | assumption | decide | simp [touched])
    (m2 : Part.reports ∈ ps := by first | assumption | decide | simp [touched]) :
    UnchangedBut ps s (endWindowEarly p t) := by
  unfold endWindowEarly; dsimp only; split <;> exact enterUp_keeps h

theorem placeHeld_keeps {p : PortId} {fs : List Frame} (h : UnchangedBut ps s t)
    (m0 : Part.link ∈ ps := by first | assumption | decide | simp [touched])
    (m1 : Part.reports ∈ ps := by first | assumption | decide | simp [touched]) :
    UnchangedBut ps s (placeHeld p fs t) := by
  induction fs generalizing t with
  | nil => exact h
  | cons f fs ih => exact ih (placeRxq_keeps h)

theorem leaveUp_keeps {p : PortId} (h : UnchangedBut ps s t)
    (m0 : Part.link ∈ ps := by first | assumption | decide | simp [touched])
    (m1 : Part.consist ∈ ps := by first | assumption | decide | simp [touched])
    (m2 : Part.reports ∈ ps := by first | assumption | decide | simp [touched]) :
    UnchangedBut ps s (leaveUp p t) := topologyChange_keeps (setPort_keeps (placeHeld_keeps h))

theorem releaseHeld_keeps {p : PortId} {l : LaneId} (h : UnchangedBut ps s t)
    (m0 : Part.link ∈ ps := by first | assumption | decide | simp [touched])
    (m1 : Part.reports ∈ ps := by first | assumption | decide | simp [touched]) :
    UnchangedBut ps s (releaseHeld p l t) := placeHeld_keeps (setPort_keeps h)

theorem afterValid_keeps {p : PortId} {l : LaneId} (h : UnchangedBut ps s t)
    (m0 : Part.link ∈ ps := by first | assumption | decide | simp [touched])
    (m1 : Part.reports ∈ ps := by first | assumption | decide | simp [touched]) :
    UnchangedBut ps s (afterValid p l t) := arbitrate_keeps (releaseHeld_keeps (setPort_keeps h))

theorem receiveBad_keeps {p : PortId} {l : LaneId} {r : RxReason} (h : UnchangedBut ps s t)
    (m0 : Part.link ∈ ps := by first | assumption | decide | simp [touched])
    (m1 : Part.reports ∈ ps := by first | assumption | decide | simp [touched]) :
    UnchangedBut ps s (receiveBad p l r t) := by
  unfold receiveBad; dsimp only
  split <;> split
  · exact arbitrate_keeps (releaseHeld_keeps (setPort_keeps (raise_keeps h)))
  · exact setPort_keeps (raise_keeps h)
  · exact arbitrate_keeps (releaseHeld_keeps (raise_keeps h))
  · exact raise_keeps h

theorem actTrain_keeps {p : PortId} {l : LaneId} {ph : TrainPhase} (h : UnchangedBut ps s t)
    (m0 : Part.link ∈ ps := by first | assumption | decide | simp [touched])
    (m1 : Part.consist ∈ ps := by first | assumption | decide | simp [touched])
    (m2 : Part.reports ∈ ps := by first | assumption | decide | simp [touched]) :
    UnchangedBut ps s (actTrain p l ph t) := by
  unfold actTrain; dsimp only
  repeat' split
  · exact h
  · exact enterTraining_keeps h
  · exact endWindowEarly_keeps (setPort_keeps h)
  · exact setPort_keeps h
  · exact enterTraining_keeps (leaveUp_keeps h)
  · exact afterValid_keeps (setPort_keeps h)
  · exact h
  · exact enterTraining_keeps (leaveUp_keeps h)
  · exact afterValid_keeps (setPort_keeps h)
  · exact h

theorem acceptFrame_keeps {p : PortId} {l : LaneId} {later : Bool} {f : Frame} (h : UnchangedBut ps s t)
    (m0 : Part.link ∈ ps := by first | assumption | decide | simp [touched])
    (m1 : Part.reports ∈ ps := by first | assumption | decide | simp [touched]) :
    UnchangedBut ps s (acceptFrame p l later f t) := by
  unfold acceptFrame; dsimp only; split
  · exact setPort_keeps h
  · exact afterValid_keeps (placeRxq_keeps h)

theorem writeHeld_keeps {p : PortId} {x : PortSettings} (h : UnchangedBut ps s t)
    (m0 : Part.link ∈ ps := by first | assumption | decide | simp [touched])
    (m1 : Part.reports ∈ ps := by first | assumption | decide | simp [touched]) :
    UnchangedBut ps s (writeHeld p x t) := by
  unfold writeHeld; dsimp only
  repeat' split
  all_goals first
    | exact enterDown_keeps (setPort_keeps h) | exact reenterDown_keeps (setPort_keeps h) | exact setPort_keeps h

theorem startPort_keeps {p : PortId} (h : UnchangedBut ps s t)
    (m0 : Part.link ∈ ps := by first | assumption | decide | simp [touched])
    (m1 : Part.reports ∈ ps := by first | assumption | decide | simp [touched]) :
    UnchangedBut ps s (startPort p t) := by
  unfold startPort; split
  · exact enterDown_keeps h
  · exact setPort_keeps h

/-! ## Panels and pages -/

theorem setPanel_keeps {p : PanelId} {x : Panel} (h : UnchangedBut ps s t)
    (m0 : Part.panels ∈ ps := by first | assumption | decide | simp [touched]) :
    UnchangedBut ps s (t.setPanel p x) := panels_keeps h

theorem markRole_keeps {r : Role} (h : UnchangedBut ps s t)
    (m0 : Part.panels ∈ ps := by first | assumption | decide | simp [touched]) :
    UnchangedBut ps s (markRole r t) := panels_keeps h

theorem markAll_keeps  (h : UnchangedBut ps s t)
    (m0 : Part.panels ∈ ps := by first | assumption | decide | simp [touched]) :
    UnchangedBut ps s (markAll t) := markRole_keeps (markRole_keeps h)

theorem completeFlip_keeps {p : PanelId} (h : UnchangedBut ps s t)
    (m0 : Part.panels ∈ ps := by first | assumption | decide | simp [touched])
    (m1 : Part.notices ∈ ps := by first | assumption | decide | simp [touched]) :
    UnchangedBut ps s (completeFlip p t) := by
  unfold completeFlip; dsimp only; split
  · exact notices_keeps (setPanel_keeps h)
  · exact setPanel_keeps h

/-! ## The Raster Engine -/

theorem reportDraw_keeps {src : DrawSource} {r : Record} {res : DrawResult} (h : UnchangedBut ps s t)
    (m0 : Part.reports ∈ ps := by first | assumption | decide | simp [touched]) :
    UnchangedBut ps s (reportDraw src r res t) := by
  unfold reportDraw; split
  · exact raise_keeps h
  · exact h

theorem markFlip_keeps {p : PanelId} (h : UnchangedBut ps s t)
    (m0 : Part.panels ∈ ps := by first | assumption | decide | simp [touched])
    (m1 : Part.notices ∈ ps := by first | assumption | decide | simp [touched]) :
    UnchangedBut ps s (markFlip p t) := by
  unfold markFlip; dsimp only; split
  · exact setPanel_keeps h
  · exact completeFlip_keeps (setPanel_keeps h)

theorem startRecord_keeps {src : DrawSource} {r : Record} (h : UnchangedBut ps s t)
    (m0 : Part.engine ∈ ps := by first | assumption | decide | simp [touched])
    (m1 : Part.panels ∈ ps := by first | assumption | decide | simp [touched])
    (m2 : Part.notices ∈ ps := by first | assumption | decide | simp [touched])
    (m3 : Part.reports ∈ ps := by first | assumption | decide | simp [touched]) :
    UnchangedBut ps s (startRecord src r t) := by
  unfold startRecord; split
  · split
    · exact markFlip_keeps h
    · exact engine_keeps h
  · exact reportDraw_keeps h

theorem resumeRecord_keeps {v : Running} (h : UnchangedBut ps s t)
    (m0 : Part.engine ∈ ps := by first | assumption | decide | simp [touched])
    (m1 : Part.reports ∈ ps := by first | assumption | decide | simp [touched]) :
    UnchangedBut ps s (resumeRecord v t) := by
  unfold resumeRecord; split
  · exact engine_keeps h
  · exact reportDraw_keeps (engine_keeps h)

theorem chooseOnce_keeps (h : UnchangedBut ps s t) (k : chooseOnce t = some u)
    (m0 : Part.engine ∈ ps := by first | assumption | decide | simp [touched])
    (m1 : Part.panels ∈ ps := by first | assumption | decide | simp [touched])
    (m2 : Part.notices ∈ ps := by first | assumption | decide | simp [touched])
    (m3 : Part.reports ∈ ps := by first | assumption | decide | simp [touched]) : UnchangedBut ps s u := by
  unfold chooseOnce at k
  repeat' split at k
  all_goals cases k
  · exact startRecord_keeps (engine_keeps h)
  · exact resumeRecord_keeps h
  · exact startRecord_keeps (engine_keeps h)

theorem chooseLoop_keeps {n : Nat} (h : UnchangedBut ps s t)
    (m0 : Part.engine ∈ ps := by first | assumption | decide | simp [touched])
    (m1 : Part.panels ∈ ps := by first | assumption | decide | simp [touched])
    (m2 : Part.notices ∈ ps := by first | assumption | decide | simp [touched])
    (m3 : Part.reports ∈ ps := by first | assumption | decide | simp [touched]) : UnchangedBut ps s (chooseLoop n t) := by
  induction n generalizing t with
  | zero => exact h
  | succ n ih =>
    unfold chooseLoop; split
    · exact h
    · next k => exact ih (chooseOnce_keeps h k)

theorem runEngine_keeps  (h : UnchangedBut ps s t)
    (m0 : Part.engine ∈ ps := by first | assumption | decide | simp [touched])
    (m1 : Part.panels ∈ ps := by first | assumption | decide | simp [touched])
    (m2 : Part.notices ∈ ps := by first | assumption | decide | simp [touched])
    (m3 : Part.mgmt ∈ ps := by first | assumption | decide | simp [touched])
    (m4 : Part.reports ∈ ps := by first | assumption | decide | simp [touched]) :
    UnchangedBut ps s (runEngine t) := noteEngineIdle_keeps (chooseLoop_keeps h)

theorem endRecord_keeps {v : Running} (h : UnchangedBut ps s t)
    (m0 : Part.engine ∈ ps := by first | assumption | decide | simp [touched])
    (m1 : Part.panels ∈ ps := by first | assumption | decide | simp [touched])
    (m2 : Part.notices ∈ ps := by first | assumption | decide | simp [touched])
    (m3 : Part.mgmt ∈ ps := by first | assumption | decide | simp [touched])
    (m4 : Part.reports ∈ ps := by first | assumption | decide | simp [touched]) :
    UnchangedBut ps s (endRecord v t) := runEngine_keeps (reportDraw_keeps (engine_keeps h))

theorem workOn_keeps {n : Nat} {v : Running} (h : UnchangedBut ps s t)
    (m0 : Part.panels ∈ ps := by first | assumption | decide | simp [touched]) :
    UnchangedBut ps s ((workOn n v t).1) := setPanel_keeps h

theorem meetRunning_keeps (h : UnchangedBut ps s t)
    (m0 : Part.engine ∈ ps := by first | assumption | decide | simp [touched])
    (m1 : Part.panels ∈ ps := by first | assumption | decide | simp [touched])
    (m2 : Part.freeCount ∈ ps := by first | assumption | decide | simp [touched]) : UnchangedBut ps s (meetRunning t) := by
  unfold meetRunning; split
  · exact h
  · exact engine_freeCount_keeps (setPanel_keeps h)

theorem abortDraw_keeps  (h : UnchangedBut ps s t)
    (m0 : Part.engine ∈ ps := by first | assumption | decide | simp [touched])
    (m1 : Part.panels ∈ ps := by first | assumption | decide | simp [touched])
    (m2 : Part.notices ∈ ps := by first | assumption | decide | simp [touched])
    (m3 : Part.mgmt ∈ ps := by first | assumption | decide | simp [touched])
    (m4 : Part.reports ∈ ps := by first | assumption | decide | simp [touched])
    (m5 : Part.freeCount ∈ ps := by first | assumption | decide | simp [touched]) :
    UnchangedBut ps s ((abortDraw t).1) := by
  unfold abortDraw; dsimp only
  repeat' split
  all_goals first
    | exact h | exact runEngine_keeps (reportDraw_keeps (engine_keeps (meetRunning_keeps h)))
    | exact runEngine_keeps (reportDraw_keeps (engine_keeps h))
    | exact runEngine_keeps (engine_keeps (meetRunning_keeps h)) | exact runEngine_keeps (engine_keeps h)

/-! ## The Panel Unit and the Page Composer -/

theorem keepShifted_keeps {p : PanelId} (h : UnchangedBut ps s t)
    (m0 : Part.panels ∈ ps := by first | assumption | decide | simp [touched])
    (m1 : Part.freeCount ∈ ps := by first | assumption | decide | simp [touched]) : UnchangedBut ps s (keepShifted p t) := by
  unfold keepShifted; dsimp only
  repeat' split
  · exact h
  · exact h
  · exact panels_freeCount_keeps h

theorem noteEnableChange_keeps {b : Bool} {p : PanelId} (h : UnchangedBut ps s t)
    (m0 : Part.notices ∈ ps := by first | assumption | decide | simp [touched]) :
    UnchangedBut ps s (noteEnableChange b p t) := by
  unfold noteEnableChange; split
  · exact h
  · exact notices_keeps h

theorem startRefresh_keeps {p : PanelId} (h : UnchangedBut ps s t)
    (m0 : Part.panels ∈ ps := by first | assumption | decide | simp [touched]) :
    UnchangedBut ps s (startRefresh p t) := setPanel_keeps h

theorem stopRefresh_keeps {p : PanelId} (h : UnchangedBut ps s t)
    (m0 : Part.panels ∈ ps := by first | assumption | decide | simp [touched])
    (m1 : Part.notices ∈ ps := by first | assumption | decide | simp [touched]) :
    UnchangedBut ps s (stopRefresh p t) := by
  unfold stopRefresh; dsimp only; split
  · exact completeFlip_keeps (setPanel_keeps h)
  · exact setPanel_keeps h

theorem settleEnabled_keeps {a b : Bool} {p : PanelId} (h : UnchangedBut ps s t)
    (m0 : Part.panels ∈ ps := by first | assumption | decide | simp [touched])
    (m1 : Part.notices ∈ ps := by first | assumption | decide | simp [touched]) :
    UnchangedBut ps s (settleEnabled a b p t) := by
  unfold settleEnabled; dsimp only
  repeat' split
  · exact noteEnableChange_keeps h
  · exact stopRefresh_keeps (noteEnableChange_keeps h)
  · exact startRefresh_keeps (noteEnableChange_keeps h)

theorem markPanel_keeps {p : PanelId} (h : UnchangedBut ps s t)
    (m0 : Part.panels ∈ ps := by first | assumption | decide | simp [touched]) :
    UnchangedBut ps s (markPanel p t) := setPanel_keeps h

theorem setConfig_keeps {p : PanelId} {r : Role} {c : PanelConfig} (h : UnchangedBut ps s t)
    (m0 : Part.panels ∈ ps := by first | assumption | decide | simp [touched]) :
    UnchangedBut ps s (setConfig p r c t) := by
  unfold setConfig; dsimp only; split
  · exact h
  · exact setPanel_keeps h

theorem writePanelEnable_keeps {p : PanelId} {v : List Byte} (h : UnchangedBut ps s t)
    (m0 : Part.engine ∈ ps := by first | assumption | decide | simp [touched])
    (m1 : Part.panels ∈ ps := by first | assumption | decide | simp [touched])
    (m2 : Part.notices ∈ ps := by first | assumption | decide | simp [touched])
    (m3 : Part.mgmt ∈ ps := by first | assumption | decide | simp [touched])
    (m4 : Part.reports ∈ ps := by first | assumption | decide | simp [touched]) :
    UnchangedBut ps s ((writePanelEnable p v t).1) := by
  unfold writePanelEnable; dsimp only
  repeat' split
  all_goals first
    | exact h | exact runEngine_keeps (markPanel_keeps (settleEnabled_keeps (setPanel_keeps h)))
    | exact runEngine_keeps (settleEnabled_keeps (setPanel_keeps h))

theorem writePanelRole_keeps {p : PanelId} {v : List Byte} (h : UnchangedBut ps s t)
    (m0 : Part.engine ∈ ps := by first | assumption | decide | simp [touched])
    (m1 : Part.panels ∈ ps := by first | assumption | decide | simp [touched])
    (m2 : Part.notices ∈ ps := by first | assumption | decide | simp [touched])
    (m3 : Part.mgmt ∈ ps := by first | assumption | decide | simp [touched])
    (m4 : Part.reports ∈ ps := by first | assumption | decide | simp [touched]) :
    UnchangedBut ps s ((writePanelRole p v t).1) := by
  unfold writePanelRole; dsimp only
  repeat' split
  all_goals first
    | exact h | exact runEngine_keeps (settleEnabled_keeps (engine_panels_keeps (setPanel_keeps h)))

theorem writePanelGeometry_keeps {p : PanelId} {f : GeometryField} {v : List Byte} (h : UnchangedBut ps s t)
    (m0 : Part.engine ∈ ps := by first | assumption | decide | simp [touched])
    (m1 : Part.panels ∈ ps := by first | assumption | decide | simp [touched])
    (m2 : Part.freeCount ∈ ps := by first | assumption | decide | simp [touched]) :
    UnchangedBut ps s ((writePanelGeometry p f v t).1) := by
  unfold writePanelGeometry; dsimp only
  repeat' split
  all_goals first | exact h | exact setPanel_keeps (meetRunning_keeps h)

theorem writePanelTiming_keeps {p : PanelId} {f : TimingField} {v : List Byte} (h : UnchangedBut ps s t)
    (m0 : Part.panels ∈ ps := by first | assumption | decide | simp [touched]) :
    UnchangedBut ps s ((writePanelTiming p f v t).1) := by
  unfold writePanelTiming; dsimp only
  repeat' split
  all_goals first | exact h | exact setPanel_keeps h

theorem writePanelField_keeps {p : PanelId} {k : Nat} {v : List Byte} (h : UnchangedBut ps s t)
    (m0 : Part.panels ∈ ps := by first | assumption | decide | simp [touched])
    (m1 : Part.freeCount ∈ ps := by first | assumption | decide | simp [touched]) :
    UnchangedBut ps s ((writePanelField p k v t).1) := by
  unfold writePanelField; split
  all_goals try unfold writeForceBlank
  all_goals try unfold writeClamped
  all_goals try unfold writePrefix
  all_goals dsimp only
  all_goals repeat' split
  all_goals first | exact h | exact setPanel_keeps (keepShifted_keeps h) | exact setConfig_keeps h

theorem writePanels_keeps {i : Nat} {v : List Byte} (h : UnchangedBut ps s t)
    (m0 : Part.engine ∈ ps := by first | assumption | decide | simp [touched])
    (m1 : Part.panels ∈ ps := by first | assumption | decide | simp [touched])
    (m2 : Part.notices ∈ ps := by first | assumption | decide | simp [touched])
    (m3 : Part.mgmt ∈ ps := by first | assumption | decide | simp [touched])
    (m4 : Part.reports ∈ ps := by first | assumption | decide | simp [touched])
    (m5 : Part.freeCount ∈ ps := by first | assumption | decide | simp [touched]) :
    UnchangedBut ps s ((writePanels i v t).1) := by
  unfold writePanels
  repeat' split
  all_goals first
    | exact h | exact writePanelRole_keeps h | exact writePanelGeometry_keeps h | exact writePanelTiming_keeps h
    | exact writePanelEnable_keeps h | exact writePanelField_keeps h

theorem writePalettes_keeps {i : Nat} {v : List Byte} (h : UnchangedBut ps s t)
    (m0 : Part.panels ∈ ps := by first | assumption | decide | simp [touched])
    (m1 : Part.freeCount ∈ ps := by first | assumption | decide | simp [touched]) :
    UnchangedBut ps s ((writePalettes i v t).1) := by
  unfold writePalettes; dsimp only
  repeat' split
  all_goals first | exact h | exact setPanel_keeps (keepShifted_keeps h)

theorem writeSideglyphs_keeps {i : Nat} {v : List Byte} (h : UnchangedBut ps s t)
    (m0 : Part.panels ∈ ps := by first | assumption | decide | simp [touched]) :
    UnchangedBut ps s ((writeSideglyphs i v t).1) := by
  unfold writeSideglyphs; dsimp only
  repeat' split
  all_goals first | exact h | exact markRole_keeps (panels_keeps h)

theorem placeRecords_keeps {k : Nat} (h : UnchangedBut ps s t)
    (m0 : Part.engine ∈ ps := by first | assumption | decide | simp [touched])
    (m1 : Part.panels ∈ ps := by first | assumption | decide | simp [touched]) :
    UnchangedBut ps s (placeRecords k t) := by
  unfold placeRecords; dsimp only
  repeat' split
  all_goals first | exact h | exact engine_panels_keeps h

theorem beginPage_keeps {p : PanelId} (h : UnchangedBut ps s t)
    (m0 : Part.panels ∈ ps := by first | assumption | decide | simp [touched]) :
    UnchangedBut ps s (beginPage p t) := panels_keeps (setPanel_keeps h)

/-! ## The Frame Classifier -/

theorem consumeDraw_keeps {f : Frame} (h : UnchangedBut ps s t)
    (m0 : Part.engine ∈ ps := by first | assumption | decide | simp [touched])
    (m1 : Part.panels ∈ ps := by first | assumption | decide | simp [touched])
    (m2 : Part.notices ∈ ps := by first | assumption | decide | simp [touched])
    (m3 : Part.mgmt ∈ ps := by first | assumption | decide | simp [touched])
    (m4 : Part.reports ∈ ps := by first | assumption | decide | simp [touched]) :
    UnchangedBut ps s (consumeDraw f t) := by
  unfold consumeDraw
  repeat' split
  all_goals first | exact raise_keeps h | exact runEngine_keeps (engine_keeps h)

theorem consumeCopy_keeps {c : Copy} (h : UnchangedBut ps s t)
    (m0 : Part.classifier ∈ ps := by first | assumption | decide | simp [touched])
    (m1 : Part.engine ∈ ps := by first | assumption | decide | simp [touched])
    (m2 : Part.panels ∈ ps := by first | assumption | decide | simp [touched])
    (m3 : Part.notices ∈ ps := by first | assumption | decide | simp [touched])
    (m4 : Part.mgmt ∈ ps := by first | assumption | decide | simp [touched])
    (m5 : Part.reports ∈ ps := by first | assumption | decide | simp [touched]) :
    UnchangedBut ps s (consumeCopy c t) := by
  unfold consumeCopy offerIntake
  repeat' split
  all_goals first
    | exact h | exact classifier_keeps h | exact raiseOverflow_keeps h | exact consumeDraw_keeps h

theorem forwardCopy_keeps {c : Copy} (h : UnchangedBut ps s t)
    (m0 : Part.link ∈ ps := by first | assumption | decide | simp [touched])
    (m1 : Part.reports ∈ ps := by first | assumption | decide | simp [touched]) :
    UnchangedBut ps s (forwardCopy c t) := by
  unfold forwardCopy; split
  · exact h
  · exact offerFtx_keeps h

theorem takeRxq_keeps {p : PortId} {fs : List Frame} (h : UnchangedBut ps s t)
    (m0 : Part.link ∈ ps := by first | assumption | decide | simp [touched]) :
    UnchangedBut ps s (takeRxq p fs t) := setPort_keeps h

theorem writeClassify_keeps {i : Nat} {v : List Byte} (h : UnchangedBut ps s t)
    (m0 : Part.classifier ∈ ps := by first | assumption | decide | simp [touched]) :
    UnchangedBut ps s ((writeClassify i v t).1) := by
  unfold writeClassify
  repeat' split
  all_goals first | exact h | exact classifier_keeps h

theorem writeGroups_keeps {i : Nat} {v : List Byte} (h : UnchangedBut ps s t)
    (m0 : Part.classifier ∈ ps := by first | assumption | decide | simp [touched]) :
    UnchangedBut ps s ((writeGroups i v t).1) := by
  unfold writeGroups
  repeat' split
  all_goals first | exact h | exact classifier_keeps h

/-! ## The Consist Manager -/

theorem setFacing_keeps {p : PortId} (h : UnchangedBut ps s t)
    (m0 : Part.consist ∈ ps := by first | assumption | decide | simp [touched])
    (m1 : Part.panels ∈ ps := by first | assumption | decide | simp [touched]) :
    UnchangedBut ps s (setFacing p t) := by
  unfold setFacing; dsimp only; split
  · exact consist_keeps h
  · exact markRole_keeps (consist_keeps h)

theorem failRoll_keeps {why : RollFailure} (h : UnchangedBut ps s t)
    (m0 : Part.consist ∈ ps := by first | assumption | decide | simp [touched])
    (m1 : Part.reports ∈ ps := by first | assumption | decide | simp [touched]) :
    UnchangedBut ps s (failRoll why t) := raise_keeps (consist_keeps h)

theorem setLabel_keeps {n : Nat} (h : UnchangedBut ps s t)
    (m0 : Part.consist ∈ ps := by first | assumption | decide | simp [touched])
    (m1 : Part.resv ∈ ps := by first | assumption | decide | simp [touched]) :
    UnchangedBut ps s (setLabel n t) := by
  unfold setLabel; split
  · exact h
  · exact consist_resv_keeps h

theorem adoptRoll_keeps {r : Roll} {rr : RollRecord} (h : UnchangedBut ps s t)
    (m0 : Part.consist ∈ ps := by first | assumption | decide | simp [touched])
    (m1 : Part.resv ∈ ps := by first | assumption | decide | simp [touched]) :
    UnchangedBut ps s (adoptRoll r rr t) := setLabel_keeps (consist_keeps h)

theorem checkRoll_keeps {r : Roll} {rr : RollRecord} (h : UnchangedBut ps s t)
    (m0 : Part.consist ∈ ps := by first | assumption | decide | simp [touched])
    (m1 : Part.resv ∈ ps := by first | assumption | decide | simp [touched])
    (m2 : Part.reports ∈ ps := by first | assumption | decide | simp [touched]) :
    UnchangedBut ps s (checkRoll r rr t) := by
  unfold checkRoll; split
  · exact failRoll_keeps h
  · exact adoptRoll_keeps h

theorem offerReturn_keeps {p : PortId} {f : Frame} (h : UnchangedBut ps s t)
    (m0 : Part.link ∈ ps := by first | assumption | decide | simp [touched])
    (m1 : Part.consist ∈ ps := by first | assumption | decide | simp [touched]) :
    UnchangedBut ps s (offerReturn p f t) := by
  unfold offerReturn; split
  · exact placeLtx_keeps (consist_keeps h)
  · exact consist_keeps h

theorem consistChanged_keeps {before : State} (h : UnchangedBut ps s t)
    (m0 : Part.reports ∈ ps := by first | assumption | decide | simp [touched]) :
    UnchangedBut ps s (consistChanged before t) := by
  unfold consistChanged; split
  · exact h
  · exact raiseConsist_keeps h

theorem newRoll_keeps {c : Copy} {r : Roll} (h : UnchangedBut ps s t)
    (m0 : Part.link ∈ ps := by first | assumption | decide | simp [touched])
    (m1 : Part.consist ∈ ps := by first | assumption | decide | simp [touched])
    (m2 : Part.resv ∈ ps := by first | assumption | decide | simp [touched])
    (m3 : Part.panels ∈ ps := by first | assumption | decide | simp [touched])
    (m4 : Part.reports ∈ ps := by first | assumption | decide | simp [touched]) :
    UnchangedBut ps s (newRoll c r t) := by
  unfold newRoll; dsimp only; split
  · exact offerFtx_keeps (consistChanged_keeps (consist_keeps (setFacing_keeps h)))
  · exact offerReturn_keeps (raiseConsist_keeps (checkRoll_keeps (consist_keeps (setFacing_keeps h))))

theorem setConsistIntake_keeps {q : List Copy} (h : UnchangedBut ps s t)
    (m0 : Part.classifier ∈ ps := by first | assumption | decide | simp [touched]) :
    UnchangedBut ps s (setConsistIntake q t) := classifier_keeps h

theorem returnOnward_keeps {p : PortId} {f : Frame} (h : UnchangedBut ps s t)
    (m0 : Part.link ∈ ps := by first | assumption | decide | simp [touched])
    (m1 : Part.reports ∈ ps := by first | assumption | decide | simp [touched]) :
    UnchangedBut ps s (returnOnward p f t) := by
  unfold returnOnward; split
  · exact h
  · exact offerFtx_keeps h

/-! ## The Journey Tracker -/

theorem tellJourney_keeps {m : ResvMsg} (h : UnchangedBut ps s t)
    (m0 : Part.notices ∈ ps := by first | assumption | decide | simp [touched])
    (m1 : Part.resv ∈ ps := by first | assumption | decide | simp [touched])
    (m2 : Part.panels ∈ ps := by first | assumption | decide | simp [touched]) :
    UnchangedBut ps s (tellJourney m t) := markAll_keeps (notices_resv_keeps h)

theorem loadJourney_keeps {v : List Byte} (h : UnchangedBut ps s t) (k : loadJourney v t = .committed u)
    (m0 : Part.tracker ∈ ps := by first | assumption | decide | simp [touched])
    (m1 : Part.notices ∈ ps := by first | assumption | decide | simp [touched])
    (m2 : Part.resv ∈ ps := by first | assumption | decide | simp [touched])
    (m3 : Part.panels ∈ ps := by first | assumption | decide | simp [touched]) : UnchangedBut ps s u := by
  unfold loadJourney at k
  split at k
  · cases k
  · dsimp only at k
    split at k <;> cases k <;> exact tellJourney_keeps (tracker_keeps h)

/-- Marks follow a hand-off whatever state it is judged against. -/
theorem markHandoff_keeps {before : State} (h : UnchangedBut ps s t)
    (m0 : Part.panels ∈ ps := by first | assumption | decide | simp [touched]) : UnchangedBut ps s (markHandoff before t) := by
  unfold markHandoff; dsimp only
  repeat' split
  · exact markRole_keeps (markRole_keeps h)
  · exact markRole_keeps h
  · exact markRole_keeps h
  · exact h

theorem tellAdvance_keeps {c : Nat} (h : UnchangedBut ps s t)
    (m0 : Part.resv ∈ ps := by first | assumption | decide | simp [touched]) :
    UnchangedBut ps s (tellAdvance c t) := by
  unfold tellAdvance; split
  · exact h
  · exact resv_keeps h

theorem reportSkipped_keeps {x : Handling} (h : UnchangedBut ps s t)
    (m0 : Part.reports ∈ ps := by first | assumption | decide | simp [touched]) :
    UnchangedBut ps s (reportSkipped x t) := by
  unfold reportSkipped; split
  · exact h
  · exact raise_keeps h

theorem handOn_keeps {before : State} {l : List Stop} {x : Handling} (h : UnchangedBut ps s t)
    (m0 : Part.tracker ∈ ps := by first | assumption | decide | simp [touched])
    (m1 : Part.notices ∈ ps := by first | assumption | decide | simp [touched])
    (m2 : Part.resv ∈ ps := by first | assumption | decide | simp [touched])
    (m3 : Part.panels ∈ ps := by first | assumption | decide | simp [touched])
    (m4 : Part.reports ∈ ps := by first | assumption | decide | simp [touched]) :
    UnchangedBut ps s (handOn before l x t) := by
  unfold handOn
  exact reportSkipped_keeps (tellAdvance_keeps (markHandoff_keeps (tracker_notices_keeps h)))

theorem doorUnexpected_keeps {d : DoorId} {b : Bool} (h : UnchangedBut ps s t)
    (m0 : Part.reports ∈ ps := by first | assumption | decide | simp [touched]) :
    UnchangedBut ps s (doorUnexpected d b t) := raise_keeps h

theorem doorArrival_keeps {l : List Stop} (h : UnchangedBut ps s t)
    (m0 : Part.tracker ∈ ps := by first | assumption | decide | simp [touched])
    (m1 : Part.notices ∈ ps := by first | assumption | decide | simp [touched])
    (m2 : Part.resv ∈ ps := by first | assumption | decide | simp [touched])
    (m3 : Part.panels ∈ ps := by first | assumption | decide | simp [touched])
    (m4 : Part.reports ∈ ps := by first | assumption | decide | simp [touched]) :
    UnchangedBut ps s (doorArrival l t) := by
  unfold doorArrival; exact handOn_keeps (tracker_keeps h)

theorem judgeEdge_keeps {d : DoorId} {b : Bool} (h : UnchangedBut ps s t)
    (m0 : Part.tracker ∈ ps := by first | assumption | decide | simp [touched])
    (m1 : Part.notices ∈ ps := by first | assumption | decide | simp [touched])
    (m2 : Part.resv ∈ ps := by first | assumption | decide | simp [touched])
    (m3 : Part.panels ∈ ps := by first | assumption | decide | simp [touched])
    (m4 : Part.reports ∈ ps := by first | assumption | decide | simp [touched]) :
    UnchangedBut ps s (judgeEdge d b t) := by
  unfold judgeEdge
  repeat' split
  all_goals first
    | exact h | exact doorArrival_keeps (doorUnexpected_keeps h) | exact doorArrival_keeps h
    | exact doorUnexpected_keeps h

theorem writeDoors_keeps {i : Nat} {v : List Byte} (h : UnchangedBut ps s t)
    (m0 : Part.tracker ∈ ps := by first | assumption | decide | simp [touched]) :
    UnchangedBut ps s ((writeDoors i v t).1) := by
  unfold writeDoors
  repeat' split
  all_goals first | exact h | exact tracker_keeps h

/-! ## The Notice Unit -/

theorem setQueue_keeps {q : List Notice} (h : UnchangedBut ps s t)
    (m0 : Part.notices ∈ ps := by first | assumption | decide | simp [touched])
    (m1 : Part.panels ∈ ps := by first | assumption | decide | simp [touched]) :
    UnchangedBut ps s (setQueue q t) := by
  unfold setQueue; dsimp only; split
  · exact notices_keeps h
  · exact markRole_keeps (notices_keeps (notices_keeps h))

theorem supersede_keeps {k : NoticeKind} (h : UnchangedBut ps s t)
    (m0 : Part.notices ∈ ps := by first | assumption | decide | simp [touched])
    (m1 : Part.panels ∈ ps := by first | assumption | decide | simp [touched]) :
    UnchangedBut ps s (supersede k t) := by
  unfold supersede; split
  all_goals first | exact h | exact setQueue_keeps h

theorem noticeDropped_keeps {k : Nat} {n : Notice} (h : UnchangedBut ps s t)
    (m0 : Part.reports ∈ ps := by first | assumption | decide | simp [touched]) :
    UnchangedBut ps s (noticeDropped k n t) := raise_keeps h

theorem placeNotice_keeps {n : Notice} (h : UnchangedBut ps s t)
    (m0 : Part.notices ∈ ps := by first | assumption | decide | simp [touched])
    (m1 : Part.panels ∈ ps := by first | assumption | decide | simp [touched]) :
    UnchangedBut ps s (placeNotice n t) := by
  unfold placeNotice; dsimp only; split <;> exact setQueue_keeps (notices_keeps h)

theorem displace_keeps {n : Notice} (h : UnchangedBut ps s t)
    (m0 : Part.notices ∈ ps := by first | assumption | decide | simp [touched])
    (m1 : Part.panels ∈ ps := by first | assumption | decide | simp [touched])
    (m2 : Part.reports ∈ ps := by first | assumption | decide | simp [touched]) :
    UnchangedBut ps s (displace n t) := by
  unfold displace
  repeat' split
  all_goals first
    | exact placeNotice_keeps (noticeDropped_keeps (setQueue_keeps h)) | exact noticeDropped_keeps h

theorem offerNotice_keeps {n : Notice} (h : UnchangedBut ps s t)
    (m0 : Part.notices ∈ ps := by first | assumption | decide | simp [touched])
    (m1 : Part.panels ∈ ps := by first | assumption | decide | simp [touched])
    (m2 : Part.reports ∈ ps := by first | assumption | decide | simp [touched]) :
    UnchangedBut ps s (offerNotice n t) := by
  unfold offerNotice; dsimp only; split
  · exact placeNotice_keeps (supersede_keeps h)
  · exact displace_keeps (supersede_keeps h)

theorem fireTrigger_keeps {k : Nat} (h : UnchangedBut ps s t)
    (m0 : Part.notices ∈ ps := by first | assumption | decide | simp [touched])
    (m1 : Part.panels ∈ ps := by first | assumption | decide | simp [touched])
    (m2 : Part.reports ∈ ps := by first | assumption | decide | simp [touched]) :
    UnchangedBut ps s (fireTrigger k t) := by
  unfold fireTrigger; split
  · exact h
  · exact offerNotice_keeps (notices_keeps h)

theorem fireAll_keeps {ks : List Nat} (h : UnchangedBut ps s t)
    (m0 : Part.notices ∈ ps := by first | assumption | decide | simp [touched])
    (m1 : Part.panels ∈ ps := by first | assumption | decide | simp [touched])
    (m2 : Part.reports ∈ ps := by first | assumption | decide | simp [touched]) : UnchangedBut ps s (fireAll ks t) := by
  induction ks generalizing t with
  | nil => exact h
  | cons k ks ih => exact ih (fireTrigger_keeps h)

theorem fireEvent_keeps {ev : TriggerEvent} {a : Option Nat} (h : UnchangedBut ps s t)
    (m0 : Part.notices ∈ ps := by first | assumption | decide | simp [touched])
    (m1 : Part.panels ∈ ps := by first | assumption | decide | simp [touched])
    (m2 : Part.reports ∈ ps := by first | assumption | decide | simp [touched]) :
    UnchangedBut ps s (fireEvent ev a t) := by
  unfold fireEvent; split
  · exact h
  · exact fireAll_keeps h

theorem actHandoff_keeps {x : Handoff} (h : UnchangedBut ps s t)
    (m0 : Part.notices ∈ ps := by first | assumption | decide | simp [touched])
    (m1 : Part.panels ∈ ps := by first | assumption | decide | simp [touched])
    (m2 : Part.reports ∈ ps := by first | assumption | decide | simp [touched]) :
    UnchangedBut ps s (actHandoff x t) := fireAll_keeps (notices_keeps (fireEvent_keeps (fireEvent_keeps h)))

theorem actJourneyReset_keeps  (h : UnchangedBut ps s t)
    (m0 : Part.notices ∈ ps := by first | assumption | decide | simp [touched])
    (m1 : Part.panels ∈ ps := by first | assumption | decide | simp [touched]) :
    UnchangedBut ps s (actJourneyReset t) := setQueue_keeps (notices_keeps h)

theorem actTracker_keeps {m : TrackerMsg} (h : UnchangedBut ps s t)
    (m0 : Part.notices ∈ ps := by first | assumption | decide | simp [touched])
    (m1 : Part.panels ∈ ps := by first | assumption | decide | simp [touched])
    (m2 : Part.reports ∈ ps := by first | assumption | decide | simp [touched]) :
    UnchangedBut ps s (actTracker m t) := by
  unfold actTracker; split
  · exact actHandoff_keeps h
  · exact actJourneyReset_keeps h

theorem setFromTracker_keeps {q : List TrackerMsg} (h : UnchangedBut ps s t)
    (m0 : Part.notices ∈ ps := by first | assumption | decide | simp [touched]) :
    UnchangedBut ps s (setFromTracker q t) := notices_keeps h

theorem setFromPanels_keeps {q : List PanelMsg} (h : UnchangedBut ps s t)
    (m0 : Part.notices ∈ ps := by first | assumption | decide | simp [touched]) :
    UnchangedBut ps s (setFromPanels q t) := notices_keeps h

theorem actTrackers_keeps {ms : List TrackerMsg} (h : UnchangedBut ps s t)
    (m0 : Part.notices ∈ ps := by first | assumption | decide | simp [touched])
    (m1 : Part.panels ∈ ps := by first | assumption | decide | simp [touched])
    (m2 : Part.reports ∈ ps := by first | assumption | decide | simp [touched]) :
    UnchangedBut ps s (ms.foldl (fun s m => actTracker m s) t) := by
  induction ms generalizing t with
  | nil => exact h
  | cons m ms ih => exact ih (actTracker_keeps h)

theorem catchUpNotices_keeps  (h : UnchangedBut ps s t)
    (m0 : Part.notices ∈ ps := by first | assumption | decide | simp [touched])
    (m1 : Part.panels ∈ ps := by first | assumption | decide | simp [touched])
    (m2 : Part.reports ∈ ps := by first | assumption | decide | simp [touched]) :
    UnchangedBut ps s (catchUpNotices t) := by
  unfold catchUpNotices; split
  · exact h
  · exact actTrackers_keeps (setFromTracker_keeps h)

theorem loadTriggers_keeps {v : List Byte} (h : UnchangedBut ps s t) (k : loadTriggers v t = .committed u)
    (m0 : Part.notices ∈ ps := by first | assumption | decide | simp [touched]) : UnchangedBut ps s u := by
  unfold loadTriggers at k
  split at k <;> cases k
  exact notices_keeps h

/-! ## The Reservation Unit -/

theorem commitSeats_keeps {l : List Seat} (h : UnchangedBut ps s t)
    (m0 : Part.resv ∈ ps := by first | assumption | decide | simp [touched]) :
    UnchangedBut ps s (commitSeats l t) := resv_keeps h

theorem reportFailures_keeps {e : TrainEnd} {b : Byte} {fs : Failures} (h : UnchangedBut ps s t)
    (m0 : Part.reports ∈ ps := by first | assumption | decide | simp [touched]) :
    UnchangedBut ps s (reportFailures e b fs t) := by
  unfold reportFailures; split
  · exact h
  · exact raise_keeps h

theorem catchUpResv_keeps  (h : UnchangedBut ps s t)
    (m0 : Part.resv ∈ ps := by first | assumption | decide | simp [touched]) :
    UnchangedBut ps s (catchUpResv t) := by
  unfold catchUpResv; split
  · exact h
  · exact resv_keeps h

theorem loadReservations_keeps {e : TrainEnd} {b : Byte} {v : List Byte} (h : UnchangedBut ps s t)
    (k : loadReservations e b v t = .committed u)
    (m0 : Part.resv ∈ ps := by first | assumption | decide | simp [touched])
    (m1 : Part.reports ∈ ps := by first | assumption | decide | simp [touched]) : UnchangedBut ps s u := by
  unfold loadReservations at k
  repeat' split at k
  all_goals cases k
  · exact reportFailures_keeps (commitSeats_keeps h)
  · exact commitSeats_keeps h

theorem writeSeatmap_keeps {i : Nat} {v : List Byte} (h : UnchangedBut ps s t)
    (m0 : Part.resv ∈ ps := by first | assumption | decide | simp [touched]) :
    UnchangedBut ps s ((writeSeatmap i v t).1) := by
  unfold writeSeatmap
  repeat' split
  all_goals first | exact h | exact commitSeats_keeps h

/-! ## The Batch Assembler -/

theorem loadGlyphs_keeps {v : List Byte} (h : UnchangedBut ps s t) (k : loadGlyphs v t = .committed u)
    (m0 : Part.engine ∈ ps := by first | assumption | decide | simp [touched])
    (m1 : Part.panels ∈ ps := by first | assumption | decide | simp [touched])
    (m2 : Part.freeCount ∈ ps := by first | assumption | decide | simp [touched]) : UnchangedBut ps s u := by
  unfold loadGlyphs at k
  dsimp only at k
  repeat' split at k
  all_goals cases k
  exact markRole_keeps (panels_keeps (meetRunning_keeps h))

theorem setSlot_keeps {i : SlotId} {b : Option Batch} (h : UnchangedBut ps s t)
    (m0 : Part.slots ∈ ps := by first | assumption | decide | simp [touched]) :
    UnchangedBut ps s (setSlot i b t) := slots_keeps h

theorem batchRejected_keeps {c : LoadClass} {e : TrainEnd} {b : Byte} {w : BatchReason} {i j k : Nat} (h : UnchangedBut ps s t)
    (m0 : Part.reports ∈ ps := by first | assumption | decide | simp [touched]) :
    UnchangedBut ps s (batchRejected c e b w i j k t) := raise_keeps h

theorem refusePart_keeps {c : LoadClass} {f : Frame} {w : BatchReason} (h : UnchangedBut ps s t)
    (m0 : Part.reports ∈ ps := by first | assumption | decide | simp [touched]) :
    UnchangedBut ps s (refusePart c f w t) := batchRejected_keeps h

theorem abandonBatch_keeps {i : SlotId} {b : Batch} {w : BatchReason} {k : Nat} (h : UnchangedBut ps s t)
    (m0 : Part.slots ∈ ps := by first | assumption | decide | simp [touched])
    (m1 : Part.mgmt ∈ ps := by first | assumption | decide | simp [touched])
    (m2 : Part.reports ∈ ps := by first | assumption | decide | simp [touched]) :
    UnchangedBut ps s (abandonBatch i b w k t) := noteNoBatch_keeps (batchRejected_keeps (setSlot_keeps h))

theorem catchUp_keeps {c : LoadClass} (h : UnchangedBut ps s t)
    (m0 : Part.notices ∈ ps := by first | assumption | decide | simp [touched])
    (m1 : Part.resv ∈ ps := by first | assumption | decide | simp [touched])
    (m2 : Part.panels ∈ ps := by first | assumption | decide | simp [touched])
    (m3 : Part.reports ∈ ps := by first | assumption | decide | simp [touched]) :
    UnchangedBut ps s (catchUp c t) := by
  unfold catchUp; split
  all_goals first | exact catchUpNotices_keeps h | exact catchUpResv_keeps h | exact h

theorem judge_keeps {c : LoadClass} {e : TrainEnd} {b : Byte} {v : List Byte} (h : UnchangedBut ps s t)
    (k : judge c e b v t = .committed u)
    (m0 : Part.tracker ∈ ps := by first | assumption | decide | simp [touched])
    (m1 : Part.notices ∈ ps := by first | assumption | decide | simp [touched])
    (m2 : Part.resv ∈ ps := by first | assumption | decide | simp [touched])
    (m3 : Part.engine ∈ ps := by first | assumption | decide | simp [touched])
    (m4 : Part.panels ∈ ps := by first | assumption | decide | simp [touched])
    (m5 : Part.reports ∈ ps := by first | assumption | decide | simp [touched])
    (m6 : Part.freeCount ∈ ps := by first | assumption | decide | simp [touched]) : UnchangedBut ps s u := by
  unfold judge at k
  split at k
  · exact loadJourney_keeps h k
  · exact loadTriggers_keeps h k
  · exact loadReservations_keeps h k
  · exact loadGlyphs_keeps h k

theorem handover_keeps {c : LoadClass} {f : Frame} {n : Nat} {v : List Byte} (h : UnchangedBut ps s t)
    (m0 : Part.tracker ∈ ps := by first | assumption | decide | simp [touched])
    (m1 : Part.notices ∈ ps := by first | assumption | decide | simp [touched])
    (m2 : Part.resv ∈ ps := by first | assumption | decide | simp [touched])
    (m3 : Part.engine ∈ ps := by first | assumption | decide | simp [touched])
    (m4 : Part.panels ∈ ps := by first | assumption | decide | simp [touched])
    (m5 : Part.reports ∈ ps := by first | assumption | decide | simp [touched])
    (m6 : Part.freeCount ∈ ps := by first | assumption | decide | simp [touched]) :
    UnchangedBut ps s (handover c f n v t) := by
  unfold handover; dsimp only; split
  · next k => exact raise_keeps (judge_keeps (catchUp_keeps h) k)
  · exact batchRejected_keeps (catchUp_keeps h)

theorem setBatchIntake_keeps {q : List Copy} (h : UnchangedBut ps s t)
    (m0 : Part.classifier ∈ ps := by first | assumption | decide | simp [touched]) :
    UnchangedBut ps s (setBatchIntake q t) := classifier_keeps h

theorem claimSlot_keeps {c : LoadClass} {i : SlotId} (h : UnchangedBut ps s t) (k : claimSlot c t = some (i, u))
    (m0 : Part.slots ∈ ps := by first | assumption | decide | simp [touched])
    (m1 : Part.reports ∈ ps := by first | assumption | decide | simp [touched]) : UnchangedBut ps s u := by
  unfold claimSlot at k
  split at k
  · split at k <;> cases k
    · exact batchRejected_keeps (setSlot_keeps h)
    · exact h
  · obtain ⟨_, _, e⟩ := Option.map_eq_some_iff.mp k
    cases e
    exact h

/-! ## The Lamp Scanner -/

theorem raiseLampFault_keeps {i : Nat} {a b : Bool} (h : UnchangedBut ps s t)
    (m0 : Part.reports ∈ ps := by first | assumption | decide | simp [touched]) :
    UnchangedBut ps s (raiseLampFault i a b t) := raise_keeps h

theorem judgePosition_keeps {i : Nat} (h : UnchangedBut ps s t)
    (m0 : Part.scanner ∈ ps := by first | assumption | decide | simp [touched])
    (m1 : Part.reports ∈ ps := by first | assumption | decide | simp [touched]) :
    UnchangedBut ps s (judgePosition i t) := by
  unfold judgePosition; dsimp only
  repeat' split
  all_goals first | exact h | exact raiseLampFault_keeps (scanner_keeps h) | exact scanner_keeps h

theorem judgePositions_keeps {l : List Nat} (h : UnchangedBut ps s t)
    (m0 : Part.scanner ∈ ps := by first | assumption | decide | simp [touched])
    (m1 : Part.reports ∈ ps := by first | assumption | decide | simp [touched]) :
    UnchangedBut ps s (l.foldl (fun s i => judgePosition i s) t) := by
  induction l generalizing t with
  | nil => exact h
  | cons i l ih => exact ih (judgePosition_keeps h)

theorem judgeFrame_keeps  (h : UnchangedBut ps s t)
    (m0 : Part.scanner ∈ ps := by first | assumption | decide | simp [touched])
    (m1 : Part.reports ∈ ps := by first | assumption | decide | simp [touched]) :
    UnchangedBut ps s (judgeFrame t) := judgePositions_keeps h

theorem writeScannerEnable_keeps {v : List Byte} (h : UnchangedBut ps s t)
    (m0 : Part.scanner ∈ ps := by first | assumption | decide | simp [touched]) :
    UnchangedBut ps s ((writeScannerEnable v t).1) := by
  unfold writeScannerEnable
  repeat' split
  all_goals first | exact h | exact scanner_keeps h

theorem writeLines_keeps {i : Nat} {v : List Byte} (h : UnchangedBut ps s t)
    (m0 : Part.scanner ∈ ps := by first | assumption | decide | simp [touched]) :
    UnchangedBut ps s ((writeLines i v t).1) := by
  unfold writeLines
  repeat' split
  all_goals first | exact h | exact scanner_keeps h

/-! ## The Report Unit and the Management Unit -/

theorem setCell_keeps {k : Nat} {f : ReportCell → ReportCell} (h : UnchangedBut ps s t)
    (m0 : Part.reports ∈ ps := by first | assumption | decide | simp [touched]) :
    UnchangedBut ps s (setCell k f t) := reports_keeps h

theorem writeReports_keeps {i : Nat} {v : List Byte} (h : UnchangedBut ps s t)
    (m0 : Part.reports ∈ ps := by first | assumption | decide | simp [touched]) :
    UnchangedBut ps s ((writeReports i v t).1) := by
  unfold writeReports
  repeat' split
  all_goals first | exact h | exact setCell_keeps h

theorem clearReports_keeps {v : List Byte} (h : UnchangedBut ps s t)
    (m0 : Part.reports ∈ ps := by first | assumption | decide | simp [touched]) :
    UnchangedBut ps s ((clearReports v t).1) := by
  unfold clearReports; split
  · exact h
  · exact reports_keeps h

theorem writePortSettings_keeps {i : Nat} {v : List Byte} (h : UnchangedBut ps s t)
    (m0 : Part.link ∈ ps := by first | assumption | decide | simp [touched])
    (m1 : Part.reports ∈ ps := by first | assumption | decide | simp [touched]) :
    UnchangedBut ps s ((writePortSettings i v t).1) := by
  unfold writePortSettings
  repeat' split
  all_goals try unfold writePortItem
  all_goals repeat' split
  all_goals first | exact h | exact writeHeld_keeps h

theorem writeNumber_keeps {lo hi : Nat} {v : List Byte} {set : Nat → State → State} (h : UnchangedBut ps s t)
    (k : ∀ n, UnchangedBut ps s (set n t)) : UnchangedBut ps s (writeNumber lo hi v set t).1 := by
  unfold writeNumber; split
  · exact h
  · exact k _

theorem writeSettings_keeps {i : Nat} {v : List Byte} (h : UnchangedBut ps s t)
    (m0 : Part.link ∈ ps := by first | assumption | decide | simp [touched])
    (m1 : Part.tracker ∈ ps := by first | assumption | decide | simp [touched])
    (m2 : Part.scanner ∈ ps := by first | assumption | decide | simp [touched])
    (m3 : Part.mgmt ∈ ps := by first | assumption | decide | simp [touched])
    (m4 : Part.reports ∈ ps := by first | assumption | decide | simp [touched]) :
    UnchangedBut ps s ((writeSettings i v t).1) := by
  unfold writeSettings writeChannelCount
  repeat' split
  all_goals first
    | exact h | exact writePortSettings_keeps h | exact writeScannerEnable_keeps h | exact reports_keeps h
    | exact writeNumber_keeps h (fun _ => link_keeps h) | exact writeNumber_keeps h (fun _ => tracker_keeps h)
    | exact writeNumber_keeps h (fun _ => scanner_keeps h) | exact writeNumber_keeps h (fun _ => reports_keeps h)
    | exact writeNumber_keeps h (fun _ => mgmt_keeps h)

theorem setSave_keeps {v : Save} {b : Option Transaction} (h : UnchangedBut ps s t)
    (m0 : Part.mgmt ∈ ps := by first | assumption | decide | simp [touched]) :
    UnchangedBut ps s (setSave v b t) := mgmt_keeps h

theorem endSave_keeps {k : Nat} (h : UnchangedBut ps s t)
    (m0 : Part.mgmt ∈ ps := by first | assumption | decide | simp [touched])
    (m1 : Part.reports ∈ ps := by first | assumption | decide | simp [touched]) :
    UnchangedBut ps s (endSave k t) := raise_keeps (mgmt_keeps h)

theorem softReset_keeps  (h : UnchangedBut ps s t)
    (m0 : Part.mgmt ∈ ps := by first | assumption | decide | simp [touched]) :
    UnchangedBut ps s ((softReset t).1) := by
  unfold softReset; split
  · exact h
  · exact noteNoBatch_keeps (noteEngineIdle_keeps (mgmt_keeps h))

theorem saveSettings_keeps  (h : UnchangedBut ps s t)
    (m0 : Part.mgmt ∈ ps := by first | assumption | decide | simp [touched]) :
    UnchangedBut ps s ((saveSettings t).1) := by
  unfold saveSettings; split
  · exact h
  · exact mgmt_keeps h

theorem writeActions_keeps {i : Nat} {v : List Byte} (h : UnchangedBut ps s t)
    (m0 : Part.scanner ∈ ps := by first | assumption | decide | simp [touched])
    (m1 : Part.engine ∈ ps := by first | assumption | decide | simp [touched])
    (m2 : Part.panels ∈ ps := by first | assumption | decide | simp [touched])
    (m3 : Part.notices ∈ ps := by first | assumption | decide | simp [touched])
    (m4 : Part.mgmt ∈ ps := by first | assumption | decide | simp [touched])
    (m5 : Part.reports ∈ ps := by first | assumption | decide | simp [touched])
    (m6 : Part.freeCount ∈ ps := by first | assumption | decide | simp [touched]) :
    UnchangedBut ps s ((writeActions i v t).1) := by
  unfold writeActions
  repeat' split
  all_goals first
    | exact h | exact mgmt_keeps h | exact softReset_keeps h | exact saveSettings_keeps h | exact clearReports_keeps h
    | exact scanner_keeps h | exact abortDraw_keeps h

theorem applyWrite_keeps {i : WriteItem} (h : UnchangedBut ps s t)
    (m0 : Part.link ∈ ps := by first | assumption | decide | simp [touched])
    (m1 : Part.classifier ∈ ps := by first | assumption | decide | simp [touched])
    (m2 : Part.tracker ∈ ps := by first | assumption | decide | simp [touched])
    (m3 : Part.notices ∈ ps := by first | assumption | decide | simp [touched])
    (m4 : Part.resv ∈ ps := by first | assumption | decide | simp [touched])
    (m5 : Part.scanner ∈ ps := by first | assumption | decide | simp [touched])
    (m6 : Part.engine ∈ ps := by first | assumption | decide | simp [touched])
    (m7 : Part.panels ∈ ps := by first | assumption | decide | simp [touched])
    (m8 : Part.mgmt ∈ ps := by first | assumption | decide | simp [touched])
    (m9 : Part.reports ∈ ps := by first | assumption | decide | simp [touched])
    (m10 : Part.freeCount ∈ ps := by first | assumption | decide | simp [touched]) :
    UnchangedBut ps s ((applyWrite i t).1) := by
  unfold applyWrite
  repeat' split
  all_goals first
    | exact h | exact writeSettings_keeps h | exact writeClassify_keeps h | exact writeGroups_keeps h
    | exact writeSeatmap_keeps h | exact writePanels_keeps h | exact writePalettes_keeps h | exact writeLines_keeps h
    | exact writeDoors_keeps h | exact writeReports_keeps h | exact writeSideglyphs_keeps h
    | exact writeActions_keeps h

theorem applyWrites_keeps {is : List WriteItem} (h : UnchangedBut ps s t)
    (m0 : Part.link ∈ ps := by first | assumption | decide | simp [touched])
    (m1 : Part.classifier ∈ ps := by first | assumption | decide | simp [touched])
    (m2 : Part.tracker ∈ ps := by first | assumption | decide | simp [touched])
    (m3 : Part.notices ∈ ps := by first | assumption | decide | simp [touched])
    (m4 : Part.resv ∈ ps := by first | assumption | decide | simp [touched])
    (m5 : Part.scanner ∈ ps := by first | assumption | decide | simp [touched])
    (m6 : Part.engine ∈ ps := by first | assumption | decide | simp [touched])
    (m7 : Part.panels ∈ ps := by first | assumption | decide | simp [touched])
    (m8 : Part.mgmt ∈ ps := by first | assumption | decide | simp [touched])
    (m9 : Part.reports ∈ ps := by first | assumption | decide | simp [touched])
    (m10 : Part.freeCount ∈ ps := by first | assumption | decide | simp [touched]) :
    UnchangedBut ps s (applyWrites is t).1 := by
  induction is generalizing t with
  | nil => exact h
  | cons i is ih => exact ih (applyWrite_keeps h)

theorem offerReply_keeps {p : PortId} {f : Frame} (h : UnchangedBut ps s t)
    (m0 : Part.link ∈ ps := by first | assumption | decide | simp [touched])
    (m1 : Part.mgmt ∈ ps := by first | assumption | decide | simp [touched]) :
    UnchangedBut ps s (offerReply p f t) := by
  unfold offerReply; split
  · exact placeLtx_keeps (mgmt_keeps h)
  · exact mgmt_keeps h

theorem reply_keeps {c : Copy} {as : List Answer} (h : UnchangedBut ps s t)
    (m0 : Part.link ∈ ps := by first | assumption | decide | simp [touched])
    (m1 : Part.mgmt ∈ ps := by first | assumption | decide | simp [touched]) :
    UnchangedBut ps s (reply c as t) := offerReply_keeps h

/-! ## Answers -/

/-- What an item command answers: the item's effect, with its result kept. -/
theorem answered_eq (a : State × ItemResult) : answered a = .next (a.1.recorded a.2) := rfl

theorem recorded_keeps {r : ItemResult} (h : UnchangedBut ps s t)
    (m0 : Part.mgmt ∈ ps := by first | assumption | decide | simp [touched]) : UnchangedBut ps s (t.recorded r) := mgmt_keeps h

end Sys2Proof.Machine
end

