-- ==== Sys2Proof/Laws/Loads.lean ====
section
/-! SUPPORT. What handing a load over to its owner does, said once: which slot a part finds, and how a committed
and a rejected load end. -/

namespace Sys2Proof.Machine

open Sys2Proof

/-- The slot found is the first whose batch satisfies the test. -/
theorem findSlot_one {k : Slots} {test : Batch → Bool} {i : SlotId} {b : Batch}
    (hb : k.slot i = some b) (ht : test b = true)
    (h0 : i = .one → ∀ x, k.slot0 = some x → test x = false) : k.findSlot test = some i := by
  cases i with
  | zero => have : k.slot0 = some b := hb
            simp [Slots.findSlot, this, ht]
  | one =>
    have h1 : k.slot1 = some b := hb
    have h0 := h0 rfl
    cases hs : k.slot0 with
    | none => simp [Slots.findSlot, hs, h1, ht]
    | some x => simp [Slots.findSlot, hs, h1, ht, h0 x hs]

/-- A load handed over is judged by its owner on the state the owner meets. -/
theorem handsOver_exec {cmd : Instr} {k : LoadClass} {f : Frame} {content : List Byte} {parts : Nat} {s t : State}
    (h : HandsOver cmd k f content parts s t) :
    exec cmd s = .next (noteNoBatch (handover k f parts content t)) := by
  obtain ⟨hd, hk, arrival, rest, hq, h⟩ := h
  rcases h with ⟨rfl, hp, rfl, rfl, hno, ⟨i, hi⟩, rfl⟩ |
    ⟨i, b, rfl, hp, rfl, rfl, hb, hc, ho, hid, hone, he, hl, rfl⟩
  · have hpart : partOf .single s = some (k, f, rest) := by simp [partOf, hq, hp, hk]
    have hno0 := hno .zero
    have hno1 := hno .one
    have hclaim : ∃ i, claimSlot k (setBatchIntake rest s) = some (i, setBatchIntake rest s) := by
      have hf : (setBatchIntake rest s).slots.findSlot (fun b => decide (b.cls = k)) = none := by
        change s.slots.findSlot _ = none
        unfold Slots.findSlot
        have h0 : (s.slots.slot0.map (fun b => decide (b.cls = k))).getD false = false := by
          cases hs : s.slots.slot0 with
          | none => rfl
          | some x => simpa using hno0 x hs
        have h1 : (s.slots.slot1.map (fun b => decide (b.cls = k))).getD false = false := by
          cases hs : s.slots.slot1 with
          | none => rfl
          | some x => simpa using hno1 x hs
        simp [h0, h1]
      have hfr : ∃ i, (setBatchIntake rest s).slots.freeSlot = some i := by
        change ∃ i, s.slots.freeSlot = some i
        unfold Slots.freeSlot
        cases i with
        | zero => have : s.slots.slot0 = none := hi
                  exact ⟨.zero, by simp [this]⟩
        | one => have h1 : s.slots.slot1 = none := hi
                 cases hs : s.slots.slot0 with
                 | none => exact ⟨.zero, by simp⟩
                 | some x => exact ⟨.one, by simp [h1]⟩
      obtain ⟨i, hfr⟩ := hfr
      exact ⟨i, by simp [claimSlot, hf, hfr]⟩
    obtain ⟨i, hclaim⟩ := hclaim
    have hd' : (setBatchIntake rest s).mgmt.draining = false := hd
    simp only [exec, execBatchSingle, hpart, hd', Bool.false_eq_true, if_false, hclaim]
    rfl
  · have hpart : partOf .finish s = some (k, f, rest) := by simp [partOf, hq, hp, hk]
    have hfind : (setBatchIntake rest s).slots.findSlot (belongs k f) = some i := by
      apply findSlot_one (b := b) hb
      · simp [belongs, hc, ho, hid]
      · intro h1 x hx
        have := hone h1 x hx
        simp only [belongs]; by_contra hh; simp at hh; exact this ⟨hh.1, hh.2.1, hh.2.2⟩
    have hslot : (setBatchIntake rest s).slots.slot i = some b := hb
    have hfault : partFault b f = none := by
      have : ¬ 16384 < b.content.length + f.payload.length := by rw [List.length_append] at hl; omega
      simp [partFault, he, this]
    simp only [exec, execBatchEnd, hpart, hfind, hslot, hfault]
    rfl

/-- Outside a drain nothing is told of the slots. -/
theorem noteNoBatch_id {s : State} (h : s.mgmt.draining = false) : noteNoBatch s = s := by
  simp [noteNoBatch, h]

/-- A load that its owner commits, with nothing told before and not yet taken. -/
theorem hands_committed {cmd : Instr} {k : LoadClass} {f : Frame} {content : List Byte} {parts : Nat} {s t u : State}
    (h : HandsOver cmd k f content parts s t) (hc : catchUp k t = t)
    (hj : judge k f.origin f.batchId content t = .committed u)
    (hu : u.mgmt.draining = false) : exec cmd s = .next (batchCommitted k f content parts u) := by
  rw [handsOver_exec h]
  unfold handover
  simp only [hc, hj]
  rw [noteNoBatch_id (by exact hu)]
  rfl

/-- A load that its owner rejects, with nothing told before and not yet taken. -/
theorem hands_rejected {cmd : Instr} {k : LoadClass} {f : Frame} {content : List Byte} {parts : Nat} {s t : State}
    {c : Cause} {i : Nat}
    (h : HandsOver cmd k f content parts s t) (hc : catchUp k t = t)
    (hj : judge k f.origin f.batchId content t = .rejected c i) (hd : t.mgmt.draining = false)
    : exec cmd s = .next (batchInvalid k f (causeCode c) i t) := by
  rw [handsOver_exec h]
  unfold handover
  simp only [hc, hj]
  rw [noteNoBatch_id (by exact hd)]
  simp [batchRejected, batchInvalid, batchReasonCode, byteOf]

/-- Handing over leaves all but the intake and the slots. -/
theorem hands_keeps {cmd : Instr} {k : LoadClass} {f : Frame} {content : List Byte} {parts : Nat} {s t : State}
    (h : HandsOver cmd k f content parts s t) : UnchangedBut [.classifier, .slots] s t := by
  obtain ⟨hd, hk, arrival, rest, hq, h⟩ := h
  rcases h with ⟨rfl, hp, rfl, rfl, hno, ⟨i, hi⟩, rfl⟩ |
    ⟨i, b, rfl, hp, rfl, rfl, hb, hc, ho, hid, hone, he, hl, rfl⟩ <;>
    constructor <;> intros <;> first | rfl | (rename_i hx; exact absurd (by decide) hx)

end Sys2Proof.Machine
end

