-- ==== Sys2Proof/Laws/PerInstr.lean ====
section
/-! SUPPORT. What holds of every command as syntax: a well-formed command that writes an item carries a value that a
write item of a frame can carry. -/

namespace Sys2Proof.Laws

open Sys2Proof

/-- The value bytes that a command carries to an item of the management tables. -/
def ValueFits.carried : Instr → List Byte
  | .mgmtWriteItem (.item i) => i.value
  | .portSettingsWrite _ value => value
  | .scannerEnableWrite value => value
  | .classifyWrite _ value => value
  | .groupsWrite _ value => value
  | .seatmapWrite _ value => value
  | .panelRoleWrite _ value => value
  | .panelEnableWrite _ value => value
  | .panelGeometryWrite _ _ value => value
  | .panelTimingWrite _ _ value => value
  | .panelFieldWrite _ _ value => value
  | .palettesWrite _ value => value
  | .linesWrite _ value => value
  | .doorsWrite _ value => value
  | .reportsWrite _ value => value
  | .sideglyphsWrite _ value => value
  | .clearReports value => value
  | .mgmtWriteItem .frame => []
  | .pinReset | .settingsLoadEnd _ | .seekTimerExpiry _ | .syncTimerExpiry _ | .receiveTrain _ _ _ _
  | .receiveBeacon _ _ _ _ | .receivePause _ _ _ _ | .receiveFrame _ _ _ _ | .windowExpiry _
  | .trainSilenceExpiry _ _ | .transmitIdleExpiry _ _ | .receiveSilenceExpiry _ _ | .pauseResendExpiry _
  | .gateTimerExpiry _ | .transmitDone _ _ | .classifyFrame _ | .takeRoll | .takeRollReturn
  | .rollReturnRetry | .rollTimeout | .takeLabels | .batchSingle | .batchStart | .batchMiddle | .batchEnd
  | .batchTimeout _ | .takePosition | .tick | .stalenessExpiry | .doorLevelChange _ _ | .debounceExpiry _
  | .noticeJourneyReset | .noticeHandoff | .takeNotice | .dwellExpiry | .noticeFlipReport
  | .noticeEnableChange | .flush | .purge | .lampRowPeriodEnd | .senseSample _ _ | .drawRecordEnd
  | .drawRecordSuspend _ | .composeTurn | .composerPlaceRecord | .panelRowEnd _ | .frameBoundary _
  | .mgmtReadItem _ | .serviceLock | .softReset | .drainTimeout | .softResetEffects | .saveSettings
  | .settingsTransactionDone _ | .saveStatusPoll | .saveTimeout | .clearLampFaults | .abortDraw
  | .replyRetry | .reportBuild => []

/-- A well-formed command's value has at most the 17 bytes of R204. -/
def ValueFits.Statement (i : Instr) : Prop := i.WellFormed = true → (ValueFits.carried i).length ≤ 17

theorem ValueFits.of_valueOk {v : List Byte} (h : valueOk v = true) : v.length ≤ 17 := of_decide_eq_true h

theorem ValueFits.of_empty {i : Instr} (h : ValueFits.carried i = []) : ValueFits.Statement i :=
  fun _ => by rw [h]; exact Nat.zero_le _

theorem ValueFits.pinReset : ValueFits.Statement .pinReset := ValueFits.of_empty rfl

theorem ValueFits.settingsLoadEnd (answer : List Byte) : ValueFits.Statement (.settingsLoadEnd answer) := ValueFits.of_empty rfl

theorem ValueFits.seekTimerExpiry (p : PortId) : ValueFits.Statement (.seekTimerExpiry p) := ValueFits.of_empty rfl

theorem ValueFits.syncTimerExpiry (p : PortId) : ValueFits.Statement (.syncTimerExpiry p) := ValueFits.of_empty rfl

theorem ValueFits.receiveTrain (p : PortId) (l : LaneId) (later : Bool) (bytes : List Byte) :
    ValueFits.Statement (.receiveTrain p l later bytes) := ValueFits.of_empty rfl

theorem ValueFits.receiveBeacon (p : PortId) (l : LaneId) (later : Bool) (bytes : List Byte) :
    ValueFits.Statement (.receiveBeacon p l later bytes) := ValueFits.of_empty rfl

theorem ValueFits.receivePause (p : PortId) (l : LaneId) (later : Bool) (bytes : List Byte) :
    ValueFits.Statement (.receivePause p l later bytes) := ValueFits.of_empty rfl

theorem ValueFits.receiveFrame (p : PortId) (l : LaneId) (later : Bool) (bytes : List Byte) :
    ValueFits.Statement (.receiveFrame p l later bytes) := ValueFits.of_empty rfl

theorem ValueFits.windowExpiry (p : PortId) : ValueFits.Statement (.windowExpiry p) := ValueFits.of_empty rfl

theorem ValueFits.trainSilenceExpiry (p : PortId) (l : LaneId) :
    ValueFits.Statement (.trainSilenceExpiry p l) := ValueFits.of_empty rfl

theorem ValueFits.transmitIdleExpiry (p : PortId) (l : LaneId) :
    ValueFits.Statement (.transmitIdleExpiry p l) := ValueFits.of_empty rfl

theorem ValueFits.receiveSilenceExpiry (p : PortId) (l : LaneId) :
    ValueFits.Statement (.receiveSilenceExpiry p l) := ValueFits.of_empty rfl

theorem ValueFits.pauseResendExpiry (p : PortId) : ValueFits.Statement (.pauseResendExpiry p) := ValueFits.of_empty rfl

theorem ValueFits.gateTimerExpiry (p : PortId) : ValueFits.Statement (.gateTimerExpiry p) := ValueFits.of_empty rfl

theorem ValueFits.transmitDone (p : PortId) (l : LaneId) : ValueFits.Statement (.transmitDone p l) := ValueFits.of_empty rfl

theorem ValueFits.classifyFrame (p : PortId) : ValueFits.Statement (.classifyFrame p) := ValueFits.of_empty rfl

theorem ValueFits.takeRoll : ValueFits.Statement .takeRoll := ValueFits.of_empty rfl

theorem ValueFits.takeRollReturn : ValueFits.Statement .takeRollReturn := ValueFits.of_empty rfl

theorem ValueFits.rollReturnRetry : ValueFits.Statement .rollReturnRetry := ValueFits.of_empty rfl

theorem ValueFits.rollTimeout : ValueFits.Statement .rollTimeout := ValueFits.of_empty rfl

theorem ValueFits.takeLabels : ValueFits.Statement .takeLabels := ValueFits.of_empty rfl

theorem ValueFits.batchSingle : ValueFits.Statement .batchSingle := ValueFits.of_empty rfl

theorem ValueFits.batchStart : ValueFits.Statement .batchStart := ValueFits.of_empty rfl

theorem ValueFits.batchMiddle : ValueFits.Statement .batchMiddle := ValueFits.of_empty rfl

theorem ValueFits.batchEnd : ValueFits.Statement .batchEnd := ValueFits.of_empty rfl

theorem ValueFits.batchTimeout (slot : SlotId) : ValueFits.Statement (.batchTimeout slot) := ValueFits.of_empty rfl

theorem ValueFits.takePosition : ValueFits.Statement .takePosition := ValueFits.of_empty rfl

theorem ValueFits.tick : ValueFits.Statement .tick := ValueFits.of_empty rfl

theorem ValueFits.stalenessExpiry : ValueFits.Statement .stalenessExpiry := ValueFits.of_empty rfl

theorem ValueFits.doorLevelChange (d : DoorId) (level : Bool) :
    ValueFits.Statement (.doorLevelChange d level) := ValueFits.of_empty rfl

theorem ValueFits.debounceExpiry (d : DoorId) : ValueFits.Statement (.debounceExpiry d) := ValueFits.of_empty rfl

theorem ValueFits.noticeJourneyReset : ValueFits.Statement .noticeJourneyReset := ValueFits.of_empty rfl

theorem ValueFits.noticeHandoff : ValueFits.Statement .noticeHandoff := ValueFits.of_empty rfl

theorem ValueFits.takeNotice : ValueFits.Statement .takeNotice := ValueFits.of_empty rfl

theorem ValueFits.dwellExpiry : ValueFits.Statement .dwellExpiry := ValueFits.of_empty rfl

theorem ValueFits.noticeFlipReport : ValueFits.Statement .noticeFlipReport := ValueFits.of_empty rfl

theorem ValueFits.noticeEnableChange : ValueFits.Statement .noticeEnableChange := ValueFits.of_empty rfl

theorem ValueFits.flush : ValueFits.Statement .flush := ValueFits.of_empty rfl

theorem ValueFits.purge : ValueFits.Statement .purge := ValueFits.of_empty rfl

theorem ValueFits.lampRowPeriodEnd : ValueFits.Statement .lampRowPeriodEnd := ValueFits.of_empty rfl

theorem ValueFits.senseSample (red green : BitVec 12) : ValueFits.Statement (.senseSample red green) := ValueFits.of_empty rfl

theorem ValueFits.drawRecordEnd : ValueFits.Statement .drawRecordEnd := ValueFits.of_empty rfl

theorem ValueFits.drawRecordSuspend (units : Nat) : ValueFits.Statement (.drawRecordSuspend units) := ValueFits.of_empty rfl

theorem ValueFits.composeTurn : ValueFits.Statement .composeTurn := ValueFits.of_empty rfl

theorem ValueFits.composerPlaceRecord : ValueFits.Statement .composerPlaceRecord := ValueFits.of_empty rfl

theorem ValueFits.panelRowEnd (panel : PanelId) : ValueFits.Statement (.panelRowEnd panel) := ValueFits.of_empty rfl

theorem ValueFits.frameBoundary (panel : PanelId) : ValueFits.Statement (.frameBoundary panel) := ValueFits.of_empty rfl

theorem ValueFits.mgmtReadItem (job : ReadJob) : ValueFits.Statement (.mgmtReadItem job) := ValueFits.of_empty rfl

theorem ValueFits.mgmtWriteItem (job : WriteJob) : ValueFits.Statement (.mgmtWriteItem job) :=
  match job with
  | .frame => ValueFits.of_empty rfl
  | .item i => fun h => ValueFits.of_valueOk (by
      simp only [Instr.WellFormed, Bool.and_eq_true] at h
      exact h.1)

theorem ValueFits.portSettingsWrite (index : Byte) (value : List Byte) :
    ValueFits.Statement (.portSettingsWrite index value) :=
  fun h => ValueFits.of_valueOk (by
    simp only [Instr.WellFormed, Bool.and_eq_true] at h
    exact h.2)

theorem ValueFits.scannerEnableWrite (value : List Byte) :
    ValueFits.Statement (.scannerEnableWrite value) := fun h => ValueFits.of_valueOk h

theorem ValueFits.classifyWrite (index : Byte) (value : List Byte) :
    ValueFits.Statement (.classifyWrite index value) :=
  fun h => ValueFits.of_valueOk (by
    simp only [Instr.WellFormed, Bool.and_eq_true] at h
    exact h.2)

theorem ValueFits.groupsWrite (index : Byte) (value : List Byte) :
    ValueFits.Statement (.groupsWrite index value) :=
  fun h => ValueFits.of_valueOk (by
    simp only [Instr.WellFormed, Bool.and_eq_true] at h
    exact h.2)

theorem ValueFits.seatmapWrite (index : Byte) (value : List Byte) :
    ValueFits.Statement (.seatmapWrite index value) :=
  fun h => ValueFits.of_valueOk (by
    simp only [Instr.WellFormed, Bool.and_eq_true] at h
    exact h.2)

theorem ValueFits.panelRoleWrite (panel : PanelId) (value : List Byte) :
    ValueFits.Statement (.panelRoleWrite panel value) := fun h => ValueFits.of_valueOk h

theorem ValueFits.panelEnableWrite (panel : PanelId) (value : List Byte) :
    ValueFits.Statement (.panelEnableWrite panel value) := fun h => ValueFits.of_valueOk h

theorem ValueFits.panelGeometryWrite (panel : PanelId) (field : GeometryField) (value : List Byte) :
    ValueFits.Statement (.panelGeometryWrite panel field value) := fun h => ValueFits.of_valueOk h

theorem ValueFits.panelTimingWrite (panel : PanelId) (field : TimingField) (value : List Byte) :
    ValueFits.Statement (.panelTimingWrite panel field value) := fun h => ValueFits.of_valueOk h

theorem ValueFits.panelFieldWrite (panel : PanelId) (field : Byte) (value : List Byte) :
    ValueFits.Statement (.panelFieldWrite panel field value) :=
  fun h => ValueFits.of_valueOk (by
    simp only [Instr.WellFormed, Bool.and_eq_true] at h
    exact h.2)

theorem ValueFits.palettesWrite (index : Byte) (value : List Byte) :
    ValueFits.Statement (.palettesWrite index value) :=
  fun h => ValueFits.of_valueOk (by
    simp only [Instr.WellFormed, Bool.and_eq_true] at h
    exact h.2)

theorem ValueFits.linesWrite (index : Byte) (value : List Byte) :
    ValueFits.Statement (.linesWrite index value) :=
  fun h => ValueFits.of_valueOk (by
    simp only [Instr.WellFormed, Bool.and_eq_true] at h
    exact h.2)

theorem ValueFits.doorsWrite (index : Byte) (value : List Byte) :
    ValueFits.Statement (.doorsWrite index value) :=
  fun h => ValueFits.of_valueOk (by
    simp only [Instr.WellFormed, Bool.and_eq_true] at h
    exact h.2)

theorem ValueFits.reportsWrite (index : Byte) (value : List Byte) :
    ValueFits.Statement (.reportsWrite index value) :=
  fun h => ValueFits.of_valueOk (by
    simp only [Instr.WellFormed, Bool.and_eq_true] at h
    exact h.2)

theorem ValueFits.sideglyphsWrite (index : Byte) (value : List Byte) :
    ValueFits.Statement (.sideglyphsWrite index value) :=
  fun h => ValueFits.of_valueOk (by
    simp only [Instr.WellFormed, Bool.and_eq_true] at h
    exact h.2)

theorem ValueFits.serviceLock : ValueFits.Statement .serviceLock := ValueFits.of_empty rfl

theorem ValueFits.softReset : ValueFits.Statement .softReset := ValueFits.of_empty rfl

theorem ValueFits.drainTimeout : ValueFits.Statement .drainTimeout := ValueFits.of_empty rfl

theorem ValueFits.softResetEffects : ValueFits.Statement .softResetEffects := ValueFits.of_empty rfl

theorem ValueFits.saveSettings : ValueFits.Statement .saveSettings := ValueFits.of_empty rfl

theorem ValueFits.settingsTransactionDone (data : List Byte) :
    ValueFits.Statement (.settingsTransactionDone data) := ValueFits.of_empty rfl

theorem ValueFits.saveStatusPoll : ValueFits.Statement .saveStatusPoll := ValueFits.of_empty rfl

theorem ValueFits.saveTimeout : ValueFits.Statement .saveTimeout := ValueFits.of_empty rfl

theorem ValueFits.clearReports (value : List Byte) : ValueFits.Statement (.clearReports value) := fun h => ValueFits.of_valueOk h

theorem ValueFits.clearLampFaults : ValueFits.Statement .clearLampFaults := ValueFits.of_empty rfl

theorem ValueFits.abortDraw : ValueFits.Statement .abortDraw := ValueFits.of_empty rfl

theorem ValueFits.replyRetry : ValueFits.Statement .replyRetry := ValueFits.of_empty rfl

theorem ValueFits.reportBuild : ValueFits.Statement .reportBuild := ValueFits.of_empty rfl

end Sys2Proof.Laws
end

