-- ==== Sys2Proof/Laws/Queues.lean ====
section
/-! SUPPORT. What the shared operations of the link do to a port's queues: their capacities are kept, and each offer
does one of the things R20 lists. -/

namespace Sys2Proof.Machine

open Sys2Proof

/-! ## Capacities -/

/-- Capacities are those of the queues and counts alone. -/
theorem Port.Fits.of_eq {q r : Port} (h : q.Fits) (hrxq : r.rxq = q.rxq) (hftx : r.ftx = q.ftx)
    (hltx : r.ltx = q.ltx) (hwin : r.windowCount = q.windowCount) (hfair : r.fairness = q.fairness) : r.Fits := by
  unfold Port.Fits
  rw [hrxq, hftx, hltx, hwin, hfair]
  exact h

theorem Port.Fits.setLane {q : Port} (h : q.Fits) (l : LaneId) (x : Lane) : (q.setLane l x).Fits := by
  cases l <;> exact h

theorem Port.Fits.assertPause {q : Port} (h : q.Fits) (n : Nat) : (q.assertPause n).Fits := h

theorem Port.Fits.resumePause {q : Port} (h : q.Fits) : q.resumePause.Fits := h

/-- The queues give a frame without growing, and the fairness count stays as R24 says. -/
theorem Port.Fits.fromQueues {q r : Port} {f : Frame} (h : q.Fits) (hq : q.fromQueues = some (f, r)) : r.Fits := by
  obtain ⟨h1, h2, h3, h4, h5, h6⟩ := h
  unfold Port.fromQueues at hq
  split at hq
  · cases hq
  · split at hq
    · cases hq
    · next hl hf =>
      injection hq with hq; injection hq with _ hq; subst hq
      exact ⟨h1, by simp [hf] at h2 ⊢; omega, h3, h4, h5, h6⟩
    · next hl hf =>
      injection hq with hq; injection hq with _ hq; subst hq
      exact ⟨h1, h2, by simp [hl] at h3 ⊢; omega, h4, Nat.zero_le 4, fun _ => rfl⟩
    · next hl hf =>
      split at hq
      · injection hq with hq; injection hq with _ hq; subst hq
        exact ⟨h1, h2, by simp [hl] at h3 ⊢; omega, h4, Nat.zero_le 4, fun _ => rfl⟩
      · next hfair =>
        injection hq with hq; injection hq with _ hq; subst hq
        refine ⟨h1, by simp [hf] at h2 ⊢; omega, h3, h4, ?_, fun h => absurd (hl.symm.trans h) (by simp)⟩
        show q.fairness + 1 ≤ 4
        omega

theorem Port.Fits.startActive {q : Port} (h : q.Fits) (l : LaneId) : (q.startActive l).Fits := by
  unfold Port.startActive
  split
  · exact Port.Fits.setLane (q := { q with waitingPause := none }) h l _
  · split
    · exact h.setLane l _
    · split
      · exact h.setLane l _
      · split
        · next hq => exact (h.fromQueues hq).setLane l _
        · exact h

theorem Port.Fits.startLane {q : Port} (h : q.Fits) (l : LaneId) : (q.startLane l).Fits := by
  unfold Port.startLane
  split
  · exact h
  · split
    · exact h.startActive l
    · split
      · exact h.setLane l _
      · exact h

/-- The transmit arbiter keeps every capacity. -/
theorem Port.Fits.arbitrate {q : Port} (h : q.Fits) : q.arbitrate.Fits := (h.startLane .zero).startLane .one

/-! ## One port of two -/

theorem LinkFits.port {s : State} (h : LinkFits s) (p : PortId) : (s.port p).Fits := by
  cases p
  · exact h.1
  · exact h.2

/-- The law of both ports after one of them is replaced. -/
theorem LinkFits.setPort {s : State} (h : LinkFits s) (p : PortId) {x : Port} (hx : x.Fits) :
    LinkFits (s.setPort p x) := by
  cases p
  · exact ⟨hx, h.2⟩
  · exact ⟨h.1, hx⟩

theorem LinkFits.raise {s : State} (h : LinkFits s) (cls : ReportClass) (detail : List Byte) :
    LinkFits (raise cls detail s) := h

/-! ## Offers -/

/-- What an offer to an FTX does (R20): placed with room in a port in UP, OVERFLOW without, nothing otherwise. -/
theorem offerFtx_cases (p : PortId) (f : Frame) (s : State) :
    ((s.port p).isUp = true ∧ (s.port p).ftx.length < 12 ∧ offerFtx p f s =
      s.setPort p (Port.arbitrate { s.port p with ftx := (s.port p).ftx ++ [f] })) ∨
    ((s.port p).isUp = true ∧ 12 ≤ (s.port p).ftx.length ∧ offerFtx p f s = raiseOverflow 1 (some p) s) ∨
    ((s.port p).isUp = false ∧ offerFtx p f s = s) := by
  unfold offerFtx
  split
  · next hup =>
    split
    · next hlt => exact .inl ⟨hup, hlt, rfl⟩
    · next hge => exact .inr (.inl ⟨hup, Nat.le_of_not_lt hge, rfl⟩)
  · next hup => exact .inr (.inr ⟨Bool.eq_false_iff.2 hup, rfl⟩)

/-- What settling an offer to an LTX does (R20). -/
theorem placeLtx_cases (p : PortId) (f : Frame) (s : State) :
    ((s.port p).isUp = true ∧ placeLtx p f s =
      s.setPort p (Port.arbitrate { s.port p with ltx := (s.port p).ltx ++ [f] })) ∨
    ((s.port p).isUp = false ∧ placeLtx p f s = s) := by
  unfold placeLtx
  split
  · next hup => exact .inl ⟨hup, rfl⟩
  · next hup => exact .inr ⟨Bool.eq_false_iff.2 hup, rfl⟩

theorem LinkFits.offerFtx {s : State} (h : LinkFits s) (p : PortId) (f : Frame) : LinkFits (offerFtx p f s) := by
  obtain ⟨-, hlt, he⟩ | ⟨-, -, he⟩ | ⟨-, he⟩ := offerFtx_cases p f s
  · rw [he]
    refine h.setPort p (Port.Fits.arbitrate ?_)
    obtain ⟨h1, -, h3⟩ := h.port p
    exact ⟨h1, by simpa using hlt, h3⟩
  · rw [he]; exact h
  · rw [he]; exact h

/-- An LTX offer that was found to be settled at once keeps the capacities. -/
theorem LinkFits.placeLtx {s : State} (h : LinkFits s) (p : PortId) (f : Frame)
    (ht : (s.port p).ltxTakes = true) : LinkFits (placeLtx p f s) := by
  obtain ⟨hup, he⟩ | ⟨-, he⟩ := placeLtx_cases p f s
  · rw [he]
    refine h.setPort p (Port.Fits.arbitrate ?_)
    obtain ⟨h1, h2, -, h4, h5, -⟩ := h.port p
    have hlt : (s.port p).ltx.length < 4 := by
      simpa [Port.ltxTakes, hup] using ht
    exact ⟨h1, h2, by simpa using hlt, h4, h5, fun hnil => absurd hnil (by simp)⟩
  · rw [he]; exact h

/-- Placing a received frame keeps the capacities (R16, R21). -/
theorem LinkFits.placeRxq {s : State} (h : LinkFits s) (p : PortId) (f : Frame) : LinkFits (placeRxq p f s) := by
  unfold Machine.placeRxq
  split
  · exact h
  · next hlt =>
    have hq : Port.Fits { s.port p with rxq := (s.port p).rxq ++ [f] } := by
      obtain ⟨-, h2⟩ := h.port p
      exact ⟨by simp; omega, h2⟩
    refine h.setPort p ?_
    split
    · exact hq.assertPause _
    · exact hq

end Sys2Proof.Machine
end

