-- ==== Sys2Proof/Laws/Store.lean ====
section
/-! SUPPORT. The page store: every write keeps the canonical form, and a read after a write. -/

namespace Sys2Proof.Machine

open Sys2Proof

/-! ## The canonical form -/

theorem Store.wfFrom_cons {lo : Option Nat} {a : Nat} {v : Pixel} {m : Store} :
    Store.wfFrom lo ((a, v) :: m) = true ↔ (∀ b ∈ lo, b < a) ∧ v ≠ 0 ∧ Store.wfFrom (some a) m = true := by
  cases lo <;> simp [Store.wfFrom, and_assoc]

/-- A canonical list from above an address is canonical from above any smaller one. -/
theorem Store.wfFrom_weaken {lo lo' : Option Nat} {m : Store} (h : Store.wfFrom lo m = true)
    (hlo : ∀ b' ∈ lo', ∃ b ∈ lo, b' ≤ b) : Store.wfFrom lo' m = true := by
  cases m with
  | nil => rfl
  | cons e m =>
    obtain ⟨h1, h2, h3⟩ := Store.wfFrom_cons.1 h
    refine Store.wfFrom_cons.2 ⟨fun b' hb' => ?_, h2, h3⟩
    obtain ⟨b, hb, hle⟩ := hlo b' hb'
    exact Nat.lt_of_le_of_lt hle (h1 b hb)

/-- No address at or below the bound is listed. -/
theorem Store.get_of_wfFrom {b a : Nat} : {m : Store} → Store.wfFrom (some b) m = true → a ≤ b → m.get a = 0
  | [], _, _ => rfl
  | (c, v) :: m, h, hab => by
    obtain ⟨h1, -, h3⟩ := Store.wfFrom_cons.1 h
    have hbc : b < c := h1 b rfl
    have hne : c ≠ a := by omega
    rw [Store.get, if_neg hne]
    exact Store.get_of_wfFrom h3 (by omega)

theorem Store.set_wfFrom {a : Nat} {v : Pixel} : {lo : Option Nat} → {m : Store} → Store.wfFrom lo m = true →
    (∀ b ∈ lo, b < a) → Store.wfFrom lo (m.set a v) = true
  | lo, [], _, hlo => by
    rw [Store.set]
    split
    · rfl
    · next hv => exact Store.wfFrom_cons.2 ⟨hlo, hv, rfl⟩
  | lo, (b, w) :: m, h, hlo => by
    obtain ⟨h1, h2, h3⟩ := Store.wfFrom_cons.1 h
    rw [Store.set]
    split
    · next hab =>
      split
      · exact h
      · next hv =>
        refine Store.wfFrom_cons.2 ⟨hlo, hv, Store.wfFrom_cons.2 ⟨?_, h2, h3⟩⟩
        rintro _ ⟨⟩
        exact hab
    · split
      · next hab =>
        subst hab
        split
        · exact Store.wfFrom_weaken h3 fun b' hb' => ⟨a, rfl, Nat.le_of_lt (hlo b' hb')⟩
        · next hv => exact Store.wfFrom_cons.2 ⟨hlo, hv, h3⟩
      · next hlt hne =>
        refine Store.wfFrom_cons.2 ⟨h1, h2, Store.set_wfFrom h3 ?_⟩
        rintro _ ⟨⟩
        omega

/-- A write keeps the canonical form. -/
theorem Store.set_wf {m : Store} (h : m.wf = true) (a : Nat) (v : Pixel) : (m.set a v).wf = true :=
  Store.set_wfFrom h fun _ hb => nomatch hb

/-! ## Reading after writing -/

/-- A write leaves every other address alone. -/
theorem Store.get_set_other {a b : Nat} (hab : b ≠ a) (v : Pixel) : (m : Store) → (m.set a v).get b = m.get b
  | [] => by
    rw [Store.set]
    split
    · rfl
    · exact if_neg (Ne.symm hab)
  | (c, w) :: m => by
    have hne : ∀ n : Store, Store.get ((a, v) :: n) b = n.get b := fun n => if_neg (Ne.symm hab)
    rw [Store.set]
    split
    · split
      · rfl
      · exact hne _
    · split
      · next hac =>
        subst hac
        have hcut : Store.get ((a, w) :: m) b = Store.get m b := if_neg (Ne.symm hab)
        split
        · exact hcut.symm
        · rw [hne, hcut]
      · rw [Store.get, Store.get, Store.get_set_other hab v m]

theorem Store.get_set_sameFrom {a : Nat} {v : Pixel} : {lo : Option Nat} → {m : Store} →
    Store.wfFrom lo m = true → (m.set a v).get a = v
  | lo, [], _ => by
    rw [Store.set]
    split
    · next hv => rw [hv]; rfl
    · rw [Store.get, if_pos rfl]
  | lo, (b, w) :: m, h => by
    obtain ⟨-, -, h3⟩ := Store.wfFrom_cons.1 h
    rw [Store.set]
    split
    · next hab =>
      split
      · next hv =>
        rw [hv, Store.get, if_neg (by omega)]
        exact Store.get_of_wfFrom h3 (by omega)
      · rw [Store.get, if_pos rfl]
    · split
      · next hab =>
        subst hab
        split
        · next hv => rw [hv]; exact Store.get_of_wfFrom h3 (Nat.le_refl a)
        · rw [Store.get, if_pos rfl]
      · next hne =>
        rw [Store.get, if_neg (Ne.symm hne)]
        exact Store.get_set_sameFrom h3

/-- A read of the address just written gives the value written. -/
theorem Store.get_set_same {m : Store} (h : m.wf = true) (a : Nat) (v : Pixel) : (m.set a v).get a = v :=
  Store.get_set_sameFrom h

/-- Two pixels of a panel at most 512 wide stand at different addresses. -/
theorem pixelAddr_inj {x y x' y' : Nat} (hx : x < 512) (hx' : x' < 512) :
    pixelAddr x y = pixelAddr x' y' ↔ x = x' ∧ y = y' := by
  unfold pixelAddr
  omega

/-! ## Drawing on a panel -/

/-- A drawn pixel changes nothing of a panel but the pixels of its back page. -/
theorem Panel.write_eq (rop : Byte) (c : Pixel) (px py : Int) (x : Panel) :
    ∃ m : Store, x.write rop c px py = { x with back := { x.back with pixels := m } } ∧
      (x.back.pixels.wf = true → m.wf = true) :=
  ⟨_, rfl, fun h => Store.set_wf h _ _⟩

theorem Panel.plot_eq (r : Record) (c : Pixel) (px py : Int) (x : Panel) :
    ∃ m : Store, x.plot r c px py = { x with back := { x.back with pixels := m } } ∧
      (x.back.pixels.wf = true → m.wf = true) := by
  unfold Panel.plot
  split
  · exact Panel.write_eq r.rop c px py x
  · exact ⟨_, rfl, id⟩

end Sys2Proof.Machine
end

