-- ==== Sys2Proof/Tests/Slice0.lean ====
section
/-! SUPPORT. Tests: ill-formed commands that WellFormed refuses, the manual's worked examples, and a witness for the
hypotheses of every statement that has some. -/

namespace Sys2Proof.Tests

open Sys2Proof Sys2Proof.Machine

/-! ## Well-formedness: one ill-formed term for each check -/

def long : List Byte := List.replicate 18 0

theorem test_wf_settingsLoadEnd : (Instr.settingsLoadEnd [0]).WellFormed = false := by decide
theorem test_wf_drawRecordSuspend : (Instr.drawRecordSuspend 0).WellFormed = false := by decide
theorem test_wf_mgmtWriteItem_value : (Instr.mgmtWriteItem (.item ⟨0, 4, long⟩)).WellFormed = false := by decide
theorem test_wf_mgmtWriteItem_row : (Instr.mgmtWriteItem (.item ⟨1, 0, [1]⟩)).WellFormed = false := by decide
theorem test_wf_mgmtWriteItem_fits : (Instr.mgmtWriteItem (.item ⟨0, 4, [40]⟩)).WellFormed = true := by decide
theorem test_wf_portSettingsWrite : (Instr.portSettingsWrite 4 [0]).WellFormed = false := by decide
theorem test_wf_scannerEnableWrite : (Instr.scannerEnableWrite long).WellFormed = false := by decide
theorem test_wf_classifyWrite : (Instr.classifyWrite 24 [0]).WellFormed = false := by decide
theorem test_wf_groupsWrite : (Instr.groupsWrite 64 [0]).WellFormed = false := by decide
theorem test_wf_seatmapWrite : (Instr.seatmapWrite 96 [0]).WellFormed = false := by decide
theorem test_wf_panelRoleWrite : (Instr.panelRoleWrite .p0 long).WellFormed = false := by decide
theorem test_wf_panelEnableWrite : (Instr.panelEnableWrite .p0 long).WellFormed = false := by decide
theorem test_wf_panelGeometryWrite : (Instr.panelGeometryWrite .p0 .width long).WellFormed = false := by decide
theorem test_wf_panelTimingWrite : (Instr.panelTimingWrite .p0 .rowPeriod long).WellFormed = false := by decide
theorem test_wf_panelFieldWrite_low : (Instr.panelFieldWrite .p0 5 [0]).WellFormed = false := by decide
theorem test_wf_panelFieldWrite_high : (Instr.panelFieldWrite .p0 15 [0]).WellFormed = false := by decide
theorem test_wf_palettesWrite : (Instr.palettesWrite 64 [0]).WellFormed = false := by decide
theorem test_wf_linesWrite : (Instr.linesWrite 32 [0]).WellFormed = false := by decide
theorem test_wf_doorsWrite : (Instr.doorsWrite 2 [0]).WellFormed = false := by decide
theorem test_wf_reportsWrite : (Instr.reportsWrite 48 [0]).WellFormed = false := by decide
theorem test_wf_sideglyphsWrite : (Instr.sideglyphsWrite 3 [0]).WellFormed = false := by decide
theorem test_wf_settingsTransactionDone :
    (Instr.settingsTransactionDone (List.replicate 12 0)).WellFormed = false := by decide
theorem test_wf_clearReports : (Instr.clearReports long).WellFormed = false := by decide

/-! ## The manual's worked examples -/

def frame (cls : BitVec 6) (payload : List Byte) : Frame :=
  { part := .single, origin := .end1, cls := cls, kind := 0, hop := 0, dest := 0, batchId := 0, seq := 0
    reserved := 0, payload := payload }

/-- R25: the bytes 31h to 39h give FC891918h. -/
theorem test_crc32_check_value :
    crc32 [0x31, 0x32, 0x33, 0x34, 0x35, 0x36, 0x37, 0x38, 0x39] = 0xFC891918#32 := by decide +kernel

/-- R198: base 64, count 4 and offset 3 give channel 67; base 64, count 8 and offset 5 give 69. -/
theorem test_channels : channelOf 64 4 3 = 67 ∧ channelOf 64 8 5 = 69 := by decide

/-- R21: with quanta of 40 the resend period is 20 quanta. -/
theorem test_resend_period : resendPeriod 40 = 20 ∧ resendPeriod 1 = 1 := by decide

/-- Section 1.8.3: with the count at 4 the head of LTX is started before FTX, and the count is 0. -/
theorem test_arbiter_calls_for_ltx :
    let q : Port := { state := .upSingle, lane0 := { state := .active }, fairness := 4
                      ftx := [frame 6 [5], frame 6 [6]], ltx := [frame 15 [1], frame 15 [2]] }
    (q.startLane .zero).lane0.tx = some (frame 15 [1]) ∧ (q.startLane .zero).fairness = 0 ∧
      (q.startLane .zero).ltx = [frame 15 [2]] := by decide

/-- Journey 412 of section 5.9. -/
def journey412 : Journey :=
  { id := 412, lead := .end2
    stops :=
      [{ distance := 12000, kind := .stop, side := .left, x := 10, y := 70, name := [65] },
       { distance := 20000, kind := .pass, side := .none, x := 25, y := 50, name := [66] },
       { distance := 48000, kind := .stop, side := .right, x := 40, y := 30, name := [67] },
       { distance := 60000, kind := .stop, side := .left, x := 200, y := 18, name := [68] },
       { distance := 71000, kind := .pass, side := .none, x := 260, y := 40, name := [69] },
       { distance := 83500, kind := .stop, side := .both, x := 330, y := 60, name := [70] },
       { distance := 97000, kind := .stop, side := .right, x := 420, y := 90, name := [71] }] }

/-- The tracker of journey 412 at stop `c`, with E in metres. -/
def at412 (st : TrackerState) (c em : Nat) (motion : Motion) : Tracker :=
  { journey := some journey412, state := st, c := c, e := em * 1000, motion := motion, status := .fresh
    tickTimer := true, staleness := some 100, marker := some (0, 0) }

/-- Section 5.9.1: 48,030 m is not beyond 48,050, so the train has not departed; 48,120 m departs it. -/
theorem test_departure :
    ((at412 .atStop 2 48030 .moving).handle true journey412.stops).state = .atStop ∧
      ((at412 .atStop 2 48120 .moving).handle true journey412.stops).departed = some 2 := by decide +kernel

/-- Section 5.9.1: the markers at 51,230 m and 58,210 m. -/
theorem test_markers :
    (at412 .cruise 2 51230 .moving).markerPoint journey412.stops = (83, 27) ∧
      (at412 .approach 2 58210 .moving).markerPoint journey412.stops = (176, 20) := by decide +kernel

/-- Section 5.9.2: one report far ahead passes stop 4 and skips stop 5. -/
theorem test_report_far_ahead :
    (at412 .atStop 3 84200 .moving).handle true journey412.stops =
      { state := .cruise, c := 5, reached := [4, 5], departed := some 3, arrived := none
        firstSkipped := some 5, skipped := 1 } := by decide +kernel

/-- Section 5.9.2: the marker after it. -/
theorem test_marker_far_ahead :
    (at412 .cruise 5 84200 .moving).markerPoint journey412.stops = (334, 61) := by decide +kernel

/-- Section 5.9.3: a report within W of stop 5 arrives the train. -/
theorem test_late_report_arrives :
    ((at412 .approach 4 83460 .stationary).handle true journey412.stops).arrived = some 5 := by decide +kernel

/-- The line of section 9.5.1. -/
def line951 : LineRun :=
  { x0 := 2, y0 := 1, x1 := 7, y1 := 4, rop := 0, colour := 9, pattern := 0xCCCC, omitLast := false
    step := 0, left := 6, position := 15, inside := none, clipStop := true }

theorem test_line_pixels : (List.range 6).map line951.point =
    [(2, 1), (3, 2), (4, 2), (5, 3), (6, 3), (7, 4)] := by decide

/-- The same pixels from the other end. -/
theorem test_line_pixels_back :
    (List.range 6).map { line951 with x0 := 7, y0 := 4, x1 := 2, y1 := 1 }.point =
    [(7, 4), (6, 3), (5, 3), (4, 2), (3, 2), (2, 1)] := by decide

def record (body : Body) (clipW : Nat) : Record :=
  { panel := 2, rop := 0, colour := 9, clipX := 0, clipY := 0, clipW := clipW, clipH := 16, body := body }

def lineBody : Body := .line 2 1 7 4 0xCCCC true false true 0

/-- Section 9.5.1: the line halts before step 3, with 3 pixels left and pattern position 12. -/
theorem test_line_halts :
    let a := runUnits [] (record lineBody 5) 6 0 none {} (.line line951)
    a.2 = .line { line951 with step := 3, left := 3, position := 12, inside := some true } ∧
      a.1.back.pixels = [(514, 9), (1027, 9)] := by decide +kernel

def trapezoid952 : Body := .trapezoid 4 6 2560 5120 128 (-64)

/-- Section 9.5.2: pixels 10 to 20, 11 to 19 and 11 to 19, in all 29. -/
theorem test_trapezoid :
    let x := (runUnits [] (record trapezoid952 64) 3 0 none {} (.rows 0)).1
    x.back.pixels = (List.range 11).map (fun i => (2048 + 10 + i, 9)) ++
      (List.range 9).map (fun i => (2560 + 11 + i, 9)) ++
      (List.range 9).map (fun i => (3072 + 11 + i, 9)) := by decide +kernel

/-- The table of R48: a part behind 24 entries sets OVERFULL and has roll ordinal 0 (section 3.7.3). -/
theorem test_roll_overfull :
    let r : Roll := { rollId := 0x0207, overfull := false, count := 24, entries := [] }
    r.append default = ({ r with overfull := true }, 0) := by decide

/-- R204: nine bytes of value are no number, and none is 0. -/
theorem test_item_numbers : itemNumber (List.replicate 9 0) = none ∧ itemNumber [] = some 0 := by decide

/-- A valid frame is read back as it was sent. -/
theorem test_frame_read_back : checkFrame (frame 6 [1, 2, 3]).wire = .valid (frame 6 [1, 2, 3]) := by
  decide +kernel

/-! ## Witnesses: small states -/

/-- A lane in a state with its timers running. -/
def lane (st : LaneState) : Lane := { state := st, idleTimer := true, rxSilence := true, trainSilence := true }

/-- A port in a state with both lanes as given. -/
def port (st : PortState) (l0 l1 : LaneState) : Port := { state := st, lane0 := lane l0, lane1 := lane l1 }

/-- A started part whose Port A is as given. -/
def withPort (q : Port) : State :=
  { State.reset with link := { portA := q, portB := port .down .seeking .seeking }, mgmt := { loading := false } }

def upA : Port := port .upDual .active .active
def upSingleA : Port := { port .upSingle .active .off with working := { limit := .single } }
def trainingA (l0 l1 : LaneState) : Port :=
  { port .training l0 l1 with windowCount := 1, windowTimer := true, syncTimer := true }
def downA : Port := { port .down .seeking .seeking with seekTimer := true }
def singleTrainingA (l0 : LaneState) : Port := { trainingA l0 .off with working := { limit := .single } }

def wire (cls : BitVec 6) (payload : List Byte) : List Byte := (frame cls payload).wire

/-- A copy of a frame that came in by Port A. -/
def copy (f : Frame) : Copy := { frame := f, port := .A }

/-! ## The machine and its invariants -/

def waits (c : Instr) (s : State) : State := { s with pending := [c] }

theorem witness_CommandsTouchOnlyTheirParts :
    ∃ t, exec (.doorLevelChange .left true) State.reset = .next t ∧ t.tracker.doorL.pin = true := ⟨_, rfl, rfl⟩

theorem witness_QueuesNeverOverfill :
    QueuesFit (withPort upA) ∧ ∃ t, step (waits (.transmitIdleExpiry .A .zero) (withPort upA)) = .next t := by
  refine ⟨?_, _, rfl⟩
  unfold QueuesFit LinkFits IntakesFit Port.Fits
  decide

theorem witness_TablesSlotsAndReportsKeepTheirLaws :
    ClassifierLaw State.reset ∧ ∃ t, step (waits (.classifyWrite 0 [0]) State.reset) = .next t :=
  ⟨⟨rfl, rfl⟩, _, rfl⟩

/-- A part in ROLLING, and one in VALID with itself in the table. -/
def rolling : State :=
  { State.reset with consist := { State.reset.consist with
      state := .rolling, rollId := 7, facing := some .A
      record := some { arrival := .A, origin := .end1, ordinal := 1 } } }

def valid : State :=
  { State.reset with consist := { State.reset.consist with
      state := .valid, rollId := 7, facing := some .A, ordinal := 1, label := 12
      table := [{ unitId := 0, label := 12, orientation := .aTowardEnd1 }] } }

theorem witness_ConsistLawIsKept : ConsistLaw rolling ∧ ConsistLaw valid ∧
    ∃ t, step (waits .rollTimeout rolling) = .next t := by
  refine ⟨?_, ?_, _, rfl⟩ <;> (unfold ConsistLaw; decide)

def batch (k : LoadClass) : Batch :=
  { cls := k, origin := .end1, batchId := 9, expected := some 1, parts := 1, content := [1] }

def assembling : State := { State.reset with slots := { slot0 := some (batch .journey), slot1 := some (batch .glyphs) } }

theorem witness_TablesSlotsAndReportsKeepTheirLaws_slots :
    SlotsLaw assembling ∧ ∃ t, step (waits (.batchTimeout .zero) assembling) = .next t := by
  refine ⟨?_, _, rfl⟩
  unfold SlotsLaw
  decide

/-- A part on journey 412. -/
def journeying (t : Tracker) : State := { State.reset with tracker := t }

def cruising : State := journeying { at412 .cruise 2 51230 .moving with v := 3350 }

theorem law_cruising : TrackerLaw cruising := by
  refine ⟨⟨by decide, by decide, rfl, rfl⟩, by decide, by decide, by decide, by decide, by decide, by decide,
    by decide, by decide⟩

theorem witness_TrackerLawIsKept :
    TrackerLaw cruising ∧ TrackerLaw State.reset ∧ ∃ t, step (waits .tick cruising) = .next t ∧
      t.tracker.e = 51233350 :=
  ⟨law_cruising, ⟨rfl, rfl, rfl, rfl, rfl, rfl, rfl, rfl, rfl⟩, by
    refine ⟨_, rfl, ?_⟩
    decide +kernel⟩

theorem witness_StopIndexNeverDecreases : TrackerLaw cruising ∧ Instr.tick ≠ .pinReset ∧
    Instr.tick ≠ .softResetEffects ∧ Instr.tick ≠ .batchSingle ∧ Instr.tick ≠ .batchEnd ∧
    ∃ t, exec .tick cruising = .next t :=
  ⟨law_cruising, by decide, by decide, by decide, by decide, _, rfl⟩

def notice (n : EntryNumber) (k : NoticeKind) (p : Priority) : Notice :=
  { number := n, kind := k, target := none, text := [65], dwell := 5, priority := p, source := .immediate }

def queued (q : List Notice) : State :=
  { State.reset with notices := { State.reset.notices with queue := q, dwell := some 5, count := 9 } }

def twoNotices : State := queued [notice 1 .nextStop .normal, notice 2 .custom .normal]

theorem witness_NoticeLawIsKept : NoticeLaw twoNotices ∧ ∃ t, step (waits .dwellExpiry twoNotices) = .next t := by
  refine ⟨?_, _, rfl⟩
  unfold NoticeLaw
  decide

def seat12 : Seat :=
  { number := 12, data := .known
    segments := [{ fromStop := 0, toStop := 2, tag := some 5 }, { fromStop := 2, toStop := 3, tag := none }] }

def resvJourney : ResvJourney := { id := 412, kinds := [.stop, .pass, .stop, .stop], c := 0, n := 2 }

def reserved : State :=
  let seats := seat12 :: List.replicate 95 {}
  let r : Resv := { seats := seats, journey := some resvJourney, inbox := [.advance 2 3] }
  { State.reset with resv := r.relamp }

theorem law_reserved : SeatsLaw reserved := by
  refine ⟨rfl, by decide +kernel, by decide +kernel, ?_⟩
  intro x hx
  have hx : x = seat12 ∨ x = {} := by
    rcases List.mem_cons.1 hx with h | h
    · exact .inl h
    · exact .inr (List.eq_of_mem_replicate h)
  rcases hx with rfl | rfl
  · refine ⟨by decide, ?_⟩
    show ∀ g ∈ seat12.segments, SegmentLaw resvJourney g
    unfold SegmentLaw
    decide
  · refine ⟨by decide, ?_⟩
    show ∀ g ∈ ({} : Seat).segments, SegmentLaw resvJourney g
    intro g hg
    cases hg

theorem witness_SeatsLawIsKept : SeatsLaw reserved ∧ ∃ t, step (waits .purge reserved) = .next t :=
  ⟨law_reserved, _, rfl⟩

theorem witness_ImageScannerAndPagesKeepTheirLaws :
    ImageLaw reserved ∧ ∃ t, step (waits .purge reserved) = .next t := ⟨rfl, _, rfl⟩

def usedLines : Lines :=
  { rows := [true, true] ++ List.replicate 6 false
    red := { used := true } :: List.replicate 11 {}, green := List.replicate 12 {} }

/-- A scanner at the row given, in its first frame. -/
def scanning (rows : List Nat) (check : FrameCheck) : State :=
  { State.reset with scanner := { State.reset.scanner with
      enable := true, lines := usedLines, plan := some { rows := rows, period := 2, lines := usedLines }
      sunk := rows.head?, checks := check :: List.replicate 95 none } }

theorem witness_ImageScannerAndPagesKeepTheirLaws_scanner :
    ScannerLaw (scanning [0, 1] none) ∧ ScannerLaw State.reset ∧
    ∃ t, step (waits .lampRowPeriodEnd (scanning [0, 1] none)) = .next t := by
  refine ⟨⟨by decide, fun _ => ⟨_, rfl, rfl⟩, by decide, by decide, by decide +kernel⟩,
    ⟨fun _ => ⟨rfl, rfl, rfl, rfl⟩, by decide, by decide, by decide, by decide +kernel⟩, _, rfl⟩

/-- Panel 2 enabled and FREE. -/
def freePanel : Panel := { config := { role := .free, enable := true }, refresh := some {} }

def fill : Record := record (.fillRect 1 1 2 2) 64

/-- A font of 4 by 4 pixels with one bitmap. -/
def font4 : Font := { width := 4, height := 4, bitmaps := [(65, [0x90, 0x60, 0x60, 0x90])] }

def drawing (src : DrawSource) : State :=
  { State.reset with
    panels := { State.reset.panels with panel2 := freePanel }
    engine := { State.reset.engine with running := some { source := src, record := fill, work := .rows 0 } } }

theorem witness_EngineLawIsKept :
    EngineLaw (drawing .inBand) ∧ ∃ t, step (waits .drawRecordEnd (drawing .inBand)) = .next t := by
  refine ⟨⟨by decide, by decide, ?_, ?_, ?_⟩, _, rfl⟩
  · rintro u ⟨⟩
  · rintro u ⟨⟩ -
    rfl
  · rintro u ⟨⟩
    exact ⟨.p2, rfl, rfl⟩

/-- A MAP panel that is enabled, and the whole MAP page of no journey about to be composed. -/
def mapPanel (c : ComposerState) : Panel :=
  { config := { role := .map, enable := true }, refresh := some {}, composer := some c }

def mapState (c : ComposerState) : State :=
  { State.reset with panels := { State.reset.panels with panel0 := mapPanel c } }

theorem witness_PanelsLawIsKept :
    PanelsLaw (mapState .dirty) ∧ ∃ t, step (waits .composeTurn (mapState .dirty)) = .next t := by
  refine ⟨⟨?_, ?_⟩, _, rfl⟩
  · unfold Panel.Law
    decide
  · rintro k ⟨⟩

def drawn : State :=
  { drawing .composer with
    panels := { State.reset.panels with panel2 := { freePanel with back := { pixels := [(3, 1), (514, 9)] } } } }

theorem witness_ImageScannerAndPagesKeepTheirLaws_pages :
    PagesLaw drawn ∧ ∃ t, step (waits .drawRecordEnd drawn) = .next t := by
  refine ⟨?_, _, rfl⟩
  unfold PagesLaw
  decide

/-- BATCH_DONE (class 6) pending and due. -/
def dueState : State :=
  { State.reset with reports := { State.reset.reports with
      cells := updAt 6 (fun x => { x with pending := true, due := true, detail := [1] }) State.reset.reports.cells } }

theorem witness_TablesSlotsAndReportsKeepTheirLaws_reports : ReportsLaw dueState ∧
    ∃ t, step (waits (.reportsWrite 18 [0]) dueState) = .next t ∧ (t.report .batchDone).due = false := by
  refine ⟨?_, _, rfl, rfl⟩
  unfold ReportsLaw
  decide

/-- A started part with the lock set. -/
def locked : State := { State.reset with mgmt := { locked := true, loading := false } }

theorem witness_ServiceLockHolds : Instr.doorsWrite 0 [1] ≠ .pinReset ∧ locked.mgmt.locked = true ∧
    locked.mgmt.loading = false ∧ ∃ t, exec (.doorsWrite 0 [1]) locked = .next t :=
  ⟨by decide, rfl, rfl, _, rfl⟩

/-! ## The link -/

theorem witness_TrainFramesAreSentAndCounted :
    (downA.state = .down ∧ downA.seekTimer = true ∧ (downA.lane .zero).state = .seeking ∧
      (downA.lane .zero).tx = none) ∧
    (let q := { downA with lane1 := { lane .seeking with tx := some (frame 0 [0]) } }
     (withPort q).port .A = q ∧ q.state = .down ∧ q.seekTimer = true ∧ (q.lane .one).state = .seeking ∧
      (q.lane .one).tx ≠ none) ∧
    (let q := { downA with lane1 := {} }
     q.state = .down ∧ q.seekTimer = true ∧ (q.lane .one).state ≠ .seeking ∧ (q.lane .one).trainDue = none) ∧
    (let q := { trainingA (.counting 0) .good with lane1 := { lane .good with tx := some (frame 0 [1]) } }
     q.state = .training ∧ q.syncTimer = true ∧ (q.lane .zero).state = .counting 0 ∧ (q.lane .zero).tx = none ∧
      (q.lane .one).state = .good ∧ (q.lane .one).tx ≠ none) ∧
    (let q := singleTrainingA (.counting 0)
     q.state = .training ∧ q.syncTimer = true ∧ (q.lane .one).state = .off ∧ (q.lane .one).trainDue = none) := by
  decide

theorem valid_train : checkFrame (wire 0 [1]) = .valid (frame 0 [1]) := by decide +kernel
theorem valid_seek : checkFrame (wire 0 [0]) = .valid (frame 0 [0]) := by decide +kernel
theorem valid_beacon : checkFrame (wire 1 []) = .valid (frame 1 []) := by decide +kernel
theorem valid_pause : checkFrame (wire 2 [40]) = .valid (frame 2 [40]) := by decide +kernel
theorem valid_position : checkFrame (wire 6 [1]) = .valid (frame 6 [1]) := by decide +kernel

/-- One port for each clause: counting on from 0 and 2, GOOD with the other lane not GOOD and GOOD, a SINGLE limit, and
the train silence. -/
theorem witness_TrainFramesAreSentAndCounted_counts :
    checkFrame (wire 0 [1]) = .valid (frame 0 [1]) ∧ (frame 0 [1]).cls = 0 ∧
    (∀ q ∈ [trainingA (.counting 0) (.counting 0), trainingA (.counting 2) .good, trainingA (.counting 3) (.counting 1),
        trainingA (.counting 3) .good, trainingA .good (.counting 0), singleTrainingA (.counting 3)],
      (withPort q).port .A = q ∧ q.state = .training ∧ q.within .zero = true ∧ (q.lane .zero).trainSilence = true) ∧
    (trainingA (.counting 3) (.counting 1)).within .one = true ∧
    (trainingA (.counting 3) .good).within .one = true ∧ (singleTrainingA (.counting 3)).within .one = false :=
  ⟨valid_train, rfl, by decide, rfl, rfl, rfl⟩

/-- The flow-control check on entering UP: 5 and 6 frames in the RXQ, lane 0 free, sending with lane 1 free, and both
sending. -/
def enteringUp (n : Nat) (tx0 tx1 : Option Frame) (l1 : LaneState) : Port :=
  { trainingA (.counting 3) l1 with
    rxq := List.replicate n (frame 6 []), lane0 := { lane (.counting 3) with tx := tx0 }
    lane1 := { lane l1 with tx := tx1 } }

theorem witness_TrainFramesAreSentAndCounted_flow :
    ∀ n ∈ [0, 5, 6, 8], ∀ a ∈ [none, some (frame 0 [1])], ∀ b ∈ [none, some (frame 0 [1])],
      let q := enteringUp n a b .good
      (withPort q).port .A = q ∧ q.state = .training ∧ q.within .zero = true ∧ q.within .one = true ∧
      (q.lane .zero).state = .counting 3 ∧ (q.lane .one).state = .good ∧ q.rxq.length = n ∧
      (q.lane .zero).tx = a ∧ (q.lane .one).tx = b := by decide +kernel

theorem witness_TrainTakesPortToTraining :
    checkFrame (wire 0 [0]) = .valid (frame 0 [0]) ∧ (frame 0 [0]).cls = 0 ∧ trainPhase (frame 0 [0]) = .seek ∧
    (downA.lane .zero).state ≠ .off ∧ downA.state = .down ∧ (downA.lane .one).tx = none ∧
    (upA.lane .zero).state ≠ .off ∧ upA.isUp = true := ⟨valid_seek, by decide⟩

/-- A port in UP whose lane 1 holds frames on start order, more than its RXQ has room for. -/
def holdingA (n : Nat) : Port :=
  { upA with lane1 := { lane .active with held := [frame 6 [1], frame 6 [2]] }, rxq := List.replicate n (frame 6 []) }

theorem witness_TrainTakesPortToTraining_held :
    ((holdingA 7).isUp = true ∧ (holdingA 7).within .one = true ∧
      (holdingA 7).lane0.held ++ (holdingA 7).lane1.held = [frame 6 [1], frame 6 [2]] ∧
      8 < (holdingA 7).rxq.length + 2 ∧ State.reset.reports.cells.length = 16) ∧
    (let q := { downA with lane1 := { lane .seeking with tx := some (frame 0 [0]) } }
     q.state = .down ∧ (q.lane .one).tx ≠ none) ∧ upSingleA.within .one = false := by decide

theorem witness_WindowExpiryOutcomes :
    (let q := trainingA .good (.counting 2)
     q.state = .training ∧ q.windowTimer = true ∧ q.within .one = true ∧ (q.lane .zero).state = .good ∧
      (q.lane .one).state ≠ .good) ∧
    (∀ n ∈ [1, 15, 16], let q := { trainingA (.counting 0) (.counting 3) with windowCount := n }
     q.state = .training ∧ q.windowTimer = true ∧ (q.lane .zero).state ≠ .good ∧ (q.lane .one).state ≠ .good ∧
      q.heldSettings.presence = .present) ∧
    (let q := { trainingA (.counting 0) (.counting 3) with windowCount := 16, heldSettings := { presence := .absent } }
     q.state = .training ∧ q.windowTimer = true ∧ (∀ l ∈ [LaneId.zero, .one], (q.lane l).state ≠ .good) ∧
      16 ≤ q.windowCount ∧ q.heldSettings.presence = .absent) := by decide

theorem witness_WindowExpiryOutcomes_flow :
    ∀ n ∈ [0, 5, 6, 8], ∀ a ∈ [none, some (frame 0 [1])],
      let q := { trainingA .good (.counting 2) with rxq := List.replicate n (frame 6 []), lane0 := { lane .good with tx := a } }
      q.state = .training ∧ q.windowTimer = true ∧ q.within .one = true ∧ (q.lane .zero).state = .good ∧
      (q.lane .one).state ≠ .good ∧ q.rxq.length = n ∧ (q.lane .zero).tx = a := by decide

theorem witness_LinkControlInUp :
    checkFrame (wire 1 []) = .valid (frame 1 []) ∧ checkFrame (wire 2 [40]) = .valid (frame 2 [40]) ∧
    checkFrame (wire 0 [1]) = .valid (frame 0 [1]) ∧ byteAt (frame 0 [1]).payload 0 ≠ 0 ∧
    (upA.activeOn .zero = true ∧ (upA.lane .one).held = []) ∧
    (∀ n ∈ [0, 4, 7, 8], (holdingA n).activeOn .zero = true ∧ ((holdingA n).lane .one).held ≠ []) ∧
    downA.activeOn .zero = false :=
  ⟨valid_beacon, valid_pause, valid_train, by decide⟩

theorem witness_ReceivedFramesEnterRxq :
    checkFrame (wire 6 [1]) = .valid (frame 6 [1]) ∧ 3 ≤ (frame 6 [1]).cls.toNat ∧
    downA.activeOn .zero = false ∧ upA.activeOn .zero = true ∧ upA.state = .upDual ∧ (upA.lane .one).held = [] ∧
    (∀ n ∈ [2, 3, 5, 6, 7], (holdingA n).activeOn .zero = true ∧
      (frame 6 [1] :: ((holdingA n).lane .one).held).length = 3 ∧ (holdingA n).rxq.length = n) ∧
    (∀ n ∈ [0, 4, 5, 6, 7, 8], let q := { upSingleA with rxq := List.replicate n (frame 6 [1]) }
      q.activeOn .zero = true ∧ q.state = .upSingle ∧ (q.lane .one).held = [] ∧ q.rxq.length = n) :=
  ⟨valid_position, by decide⟩

theorem witness_ReceptionChecks :
    (checkFrame (List.replicate 19 0) = .bad .runt ∧ checkFrame (List.replicate 513 0) = .bad .long) ∧
    checkFrame (List.replicate 20 0) = .bad .crc ∧ checkFrame (wire 1 [1]) = .bad .badHeader ∧
    (downA.lane .zero).state ≠ .off ∧ downA.state = .down ∧
    ((trainingA (.counting 2) .good).lane .zero).state = .counting 2 ∧
    (upA.lane .zero).state ≠ .off ∧ upA.isUp = true ∧ (upA.lane .one).held = [] ∧
    ((holdingA 7).lane .zero).state ≠ .off ∧ (holdingA 7).isUp = true ∧ ((holdingA 7).lane .one).held ≠ [] :=
  ⟨by decide +kernel, by decide +kernel, by decide +kernel, by decide⟩

theorem witness_PortTimersExpire :
    (upA.activeOn .zero = true ∧ (upA.lane .zero).idleTimer = true ∧ upA.state = .upDual ∧
      (upA.lane .zero).state = .active ∧ (upA.lane .zero).rxSilence = true ∧ (upA.lane .one).held = []) ∧
    ((holdingA 7).state = .upDual ∧ ((holdingA 7).lane .zero).state = .active ∧
      ((holdingA 7).lane .zero).rxSilence = true ∧ ((holdingA 7).lane .one).held ≠ [] ∧ 8 < (holdingA 7).rxq.length + 2) ∧
    (∀ x ∈ [Presence.present, .absent], ∀ l ∈ [LaneLimit.dual, .single],
      let q := { upSingleA with heldSettings := { presence := x, limit := l }, rxq := List.replicate 8 (frame 6 [])
                                lane0 := { lane .active with held := [frame 6 [1]] } }
      q.state = .upSingle ∧ (q.lane .zero).state = .active ∧ (q.lane .zero).rxSilence = true ∧
        q.heldSettings.presence = x ∧ q.heldSettings.limit = l ∧ q.lane0.held ++ q.lane1.held = [frame 6 [1]]) ∧
    State.reset.reports.cells.length = 16 ∧
    ({ upA with gate := .closed, gateTimer := some 40 } : Port).gateTimer = some 40 ∧
    (∀ n ∈ [5, 6], let q := { upA with resendTimer := some 20, rxq := List.replicate n (frame 6 [1]) }
      q.isUp = true ∧ q.resendTimer = some 20 ∧ q.rxq.length = n) := by decide

theorem witness_TransmitArbiter :
    (({ lane .active with tx := some (frame 6 [1]) } : Lane).tx = some (frame 6 [1])) ∧
    (upA.isUp = true ∧ (upA.lane .zero).state = .active ∧ (upA.lane .zero).tx = none ∧ upA.waitingPause = none ∧
      (upA.lane .zero).syncAnswer = false ∧ (upA.lane .zero).beaconDue = false ∧ upA.gate = .opened ∧
      upA.ltx = [] ∧ upA.ftx = []) ∧
    (let q := { upA with waitingPause := some 40, lane0 := { lane .active with syncAnswer := true } }
     q.isUp = true ∧ q.waitingPause = some 40) ∧
    (let q := { upA with lane0 := { lane .active with syncAnswer := true, beaconDue := true } }
     q.waitingPause = none ∧ (q.lane .zero).syncAnswer = true ∧ (q.lane .zero).beaconDue = true) ∧
    (let q := { upA with gate := .closed, ftx := [frame 6 [1]] }
     q.gate = .closed ∧ q.ftx = [frame 6 [1]] ∧ q.ltx = []) ∧
    (∀ n ∈ [0, 3, 4], let q := { upA with fairness := n, ftx := [frame 6 [1]], ltx := [frame 15 [1]] }
     q.ftx = frame 6 [1] :: [] ∧ q.ltx = frame 15 [1] :: [] ∧ q.fairness = n) := by decide

theorem witness_DestinationMatching :
    ∀ k ∈ List.range 8, ({ frame 6 [] with kind := BitVec.ofNat 3 k } : Frame).kind = BitVec.ofNat 3 k := by decide

def draining : State := { State.reset with mgmt := { State.reset.mgmt with draining := true } }

/-- A part in UP on both sides with frames in Port A's RXQ. -/
def received (fs : List Frame) : State :=
  { valid with link := { portA := { upA with rxq := fs, pauseAsserted := true }, portB := upA } }

theorem witness_FrameAtHeadIsSettled :
    (∀ f ∈ [frame 15 [], { frame 16 [] with hop := 31 }, frame 3 [], frame 4 []],
      ((received [f, frame 6 [], frame 6 []]).port .A).rxq = f :: [frame 6 [], frame 6 []]) ∧
    ((received []).port .B).isUp = true ∧ ((received []).port .B).ftx.length < 12 ∧
    ((withPort upA).port .B).isUp = false ∧
    (let s := { received [{ frame 6 [] with kind := 1, dest := 1 }] with
       classifier := { State.reset.classifier with consist := [copy (frame 3 []), copy (frame 3 [])] } }
     2 ≤ s.classifier.consist.length ∧ destinationMatches s { frame 6 [] with kind := 1, dest := 1 } = true ∧
      (s.classifier.entries.getD 0 {}).consumeOnMatch = true) ∧
    (let s := { received [{ frame 20 [] with kind := 3 }] with
       classifier := { State.reset.classifier with entries := List.replicate 8 { forwardOnNomatch := false } } }
     destinationMatches s { frame 20 [] with kind := 3 } = false ∧
      (s.classifier.entries.getD 7 {}).forwardOnNomatch = false ∧
      (s.classifier.entries.getD 0 {}).forwardOnNomatch = false) := by decide

/-- A frame for every part: its destination kind matches everywhere. -/
def toAll (cls : BitVec 6) (payload : List Byte) : Frame := { frame cls payload with kind := 0 }

/-- One frame of each consumed class meets an intake with room and one that is full; a DRAW a drain, a payload that is
no whole records, a queue with room and one that is full. -/
theorem witness_FrameAtHeadIsSettled_intakes :
    (∀ n ∈ [5, 13, 14, 6, 7, 8, 9, 10, 11, 12], let f := toAll (BitVec.ofNat 6 n) []
      ((received [f]).port .A).rxq = f :: [] ∧ f.cls.toNat = n ∧ destinationMatches (received [f]) f = true) ∧
    (∀ i ∈ List.range 7, ((received []).classifier.entries.getD i {}).consumeOnMatch = true) ∧
    (∀ n ∈ [0, 1, 2, 3, 4], (List.replicate n (copy (toAll 7 []))).length = n) ∧
    (∀ n ∈ [5, 13], let f := { toAll (BitVec.ofNat 6 n) [] with kind := 1, dest := 2 }
      ¬ destinationMatches (received [f]) f = true) ∧
    draining.mgmt.draining = true ∧ drawRecords [0] = none ∧
    (∃ rs, drawRecords [6, 2, 0, 9, 0, 0, 0, 0, 0, 0, 0, 0] = some rs ∧ rs.length = 1 ∧
      (∀ n ∈ [0, 15], (List.replicate n fill).length + rs.length ≤ 16) ∧ 16 < (List.replicate 16 fill).length + rs.length) ∧
    (∀ n ∈ [2, 7], let fs := List.replicate (n + 1) (toAll 7 [])
      ((received fs).port .A).rxq = toAll 7 [] :: List.replicate n (toAll 7 [])) ∧
    (let s := { received [toAll 7 []] with link := { (received [toAll 7 []]).link with
       portB := { upA with ftx := List.replicate 12 (toAll 7 []) } } }
     (s.port .B).isUp = true ∧ 12 ≤ (s.port .B).ftx.length) := by
  refine ⟨by decide, by decide, by decide, by decide, by decide, by decide, ⟨_, rfl, by decide⟩, by decide, by decide⟩

theorem witness_PortSettingsAreHeld :
    (withPort upA).mgmt.locked = false ∧ (withPort upA).mgmt.loading = false ∧
    itemNumber [0] = some (bit false) ∧ itemNumber [1] = some (bit true) ∧
    (∀ v : Bool, itemNumber [2] ≠ some (bit v)) ∧
    (upA.state = .upDual ∧ (trainingA .good .good).state = .training ∧ upSingleA.state = .upSingle) ∧
    (({} : Port).state = .off ∧ ({} : Port).heldSettings.presence = .present) ∧ downA.state = .down ∧
    State.reset.mgmt.loading = true ∧
    (let x := { downA.heldSettings with presence := if true then Presence.absent else .present }
     x.presence = .absent) := by decide

/-! ## The consist -/

/-- A part whose Consist Manager has a frame to take, arrived on Port A, with Port B UP. -/
def taking (s : State) (f : Frame) (p : PortId) : State :=
  { s with classifier := { State.reset.classifier with consist := [{ frame := f, port := p }] }
           link := { portA := upA, portB := upA } }

theorem witness_NewRollIsJoined :
    (∀ s ∈ [State.reset, valid, rolling], ∀ f ∈ [frame 3 [0, 8, 0, 0], frame 3 [0, 7, 0, 0], frame 3 [1]],
      (taking s f .A).classifier.consist = [copy f] ∧ f.cls = 3) ∧
    (let b := (frame 3 [0, 8, 0, 0]).payload
     b.length = 4 + 8 * natAt b 3 1 ∧ natAt b 3 1 < 24 ∧ natAt b 0 2 ≠ rolling.consist.rollId.toNat ∧
      (byteAt b 2).getLsbD 7 = false) ∧
    (frame 3 []).hop ≠ 31 ∧ ((taking valid (frame 3 []) .A).port .B).isUp = true ∧
    ((taking valid (frame 3 []) .A).port .B).ftx.length < 12 ∧ rolling.consist.state = .rolling ∧
    natAt (frame 3 [0, 7, 0, 0]).payload 0 2 = rolling.consist.rollId.toNat := by decide

/-- A ROLL of `n` entries with unit IDs from 1, roll id 8, with OVERFULL clear or set. -/
def rollFrame (flag : Byte) (n : Nat) : Frame :=
  frame 3 ([0, 8, flag, byteOf n] ++ (List.range n).flatMap (fun i => beBytes 6 (i + 1) ++ [0, 0]))

/-- The chain end: the opposite port not UP, or a hop count of 31; a list that the part joins, one that already has its
unit ID, one of 24 entries, and one with OVERFULL set. -/
theorem witness_NewRollIsJoined_chainEnd :
    (∀ f ∈ [rollFrame 0 0, rollFrame 0 23, rollFrame 0 24, rollFrame 0x80 2], (rollOf f.payload).any (fun r =>
      decide (r.rollId = 8 ∧ r.rollId ≠ rolling.consist.rollId ∧ natAt f.payload 3 1 = r.count ∧
        ((r.overfull = false ∧ r.count < 24) ↔ f = rollFrame 0 0 ∨ f = rollFrame 0 23))) = true) ∧
    ((withPort upA).port .B).isUp = false ∧ ({ rollFrame 0 0 with hop := 31 } : Frame).hop = 31 ∧
    valid.consist.label ≤ 99 ∧
    (rollOf (frame 3 [0, 8, 0, 1, 0, 0, 0, 0, 0, 0, 0, 0]).payload).any (fun r =>
      decide (¬ ((r.list.map (·.unitId)) ++ [valid.consist.unitId]).Nodup)) = true ∧
    (rollOf (rollFrame 0 23).payload).any (fun r =>
      decide ((r.list.map (·.unitId)) ++ [valid.consist.unitId]).Nodup) = true ∧
    (∀ n ∈ [0, 3, 4], let q := { upA with ltx := List.replicate n (frame 15 []) }
      q.isUp = true ∧ q.ltx.length = n) ∧ downA.isUp = false := by
  refine ⟨by decide +kernel, rfl, rfl, by decide, by decide +kernel, by decide +kernel, by decide, rfl⟩

/-- R44, R48, R54: a VALID part that a roll reaches at the chain end passes through ROLLING, and raises CONSIST though
it is VALID again with the same port facing END1. -/
theorem test_chain_end_raises_consist :
    let s := { taking valid (rollFrame 0 0) .A with link := { portA := upA, portB := downA } }
    ∃ t, exec .takeRoll s = .next t ∧ t.consist.state = .valid ∧ t.consist.facing = s.consist.facing ∧
      (t.report .consist).pending = true := ⟨_, rfl, by decide +kernel⟩

/-- A return whose one entry is the part itself, with label 12. -/
def ownReturn : Frame := frame 4 [0, 7, 0, 1, 0, 0, 0, 0, 0, 0, 12, 0]

theorem witness_MatchingReturnSettlesRoll :
    (taking rolling ownReturn .B).classifier.consist = [{ frame := ownReturn, port := .B }] ∧ ownReturn.cls = 4 ∧
    (∃ r ∈ rollOf ownReturn.payload, r.rollId = rolling.consist.rollId ∧ r.overfull = false ∧ r.count = 1 ∧
      (r.list.map (·.unitId)).Nodup ∧ (r.list.map (·.unitId))[1 - 1]? = some rolling.consist.unitId) ∧
    (∃ rr ∈ rolling.consist.record, PortId.B = opposite rr.arrival ∧ rr.ordinal = 1) ∧
    rolling.consist.state = .rolling ∧ valid.consist.state ≠ .rolling ∧ ownReturn.hop ≠ 31 ∧
    ((taking rolling ownReturn .B).port .A).isUp = true ∧ ((taking rolling ownReturn .B).port .A).ftx.length < 12 ∧
    (∃ r ∈ rollOf (frame 4 [0, 7, 128, 0]).payload, r.overfull = true ∧ r.rollId = rolling.consist.rollId) :=
  ⟨rfl, rfl, ⟨_, rfl, by decide⟩, ⟨_, rfl, by decide⟩, rfl, by decide, by decide, by decide, by decide,
    ⟨_, rfl, by decide⟩⟩

/-- A return with a unit ID twice, one that lists another part, one with no entry, and one that is not whole; the arrival
port's FTX full and not UP; and a return on the record's own arrival port. -/
theorem witness_MatchingReturnSettlesRoll_reports :
    (let twice := frame 4 [0, 7, 0, 2, 0, 0, 0, 0, 0, 0, 12, 0, 0, 0, 0, 0, 0, 0, 12, 0]
     ∃ r ∈ rollOf twice.payload, r.rollId = rolling.consist.rollId ∧ r.overfull = false ∧
       ¬ (r.list.map (·.unitId)).Nodup) ∧
    (let other := frame 4 [0, 7, 0, 1, 0, 0, 0, 0, 0, 5, 12, 0]
     ∃ r ∈ rollOf other.payload, r.rollId = rolling.consist.rollId ∧ r.overfull = false ∧ r.count = 1 ∧
       (r.list.map (·.unitId)).Nodup ∧ (r.list.map (·.unitId))[1 - 1]? ≠ some rolling.consist.unitId) ∧
    (∃ r ∈ rollOf (frame 4 [0, 7, 0, 0]).payload, r.overfull = false ∧ (r.list.map (·.unitId)).Nodup ∧ r.count < 1) ∧
    rollOf (frame 4 [0, 7, 0, 1]).payload = none ∧
    (∀ n ∈ [0, 11, 12], let q := { upA with ftx := List.replicate n (frame 6 []) }
      q.isUp = true ∧ q.ftx.length = n) ∧ downA.isUp = false ∧ ({ ownReturn with hop := 31 } : Frame).hop = 31 ∧
    (∃ rr ∈ rolling.consist.record, PortId.A = rr.arrival ∧
      (taking rolling ownReturn .A).classifier.consist = [{ frame := ownReturn, port := .A }]) :=
  ⟨⟨_, rfl, by decide⟩, ⟨_, rfl, by decide⟩, ⟨_, rfl, by decide⟩, rfl, by decide, rfl, rfl, _, rfl, rfl, rfl⟩

theorem witness_MatchingReturnSettlesRoll_timeout :
    rolling.consist.state = .rolling ∧ rolling.consist.record.isSome = true := ⟨rfl, rfl⟩

/-- A part with a return and one with a reply that wait for Port A. -/
def returnWaiting (q : Port) : State :=
  { withPort q with consist := { State.reset.consist with waiting := some (copy (frame 4 [])) } }
def replyWaiting (q : Port) : State :=
  { withPort q with mgmt := { loading := false, waiting := some (copy (frame 15 [])) } }

theorem witness_WaitingOffersAreMadeAgain :
    (returnWaiting upA).consist.waiting = some (copy (frame 4 [])) ∧
    (replyWaiting upA).mgmt.waiting = some (copy (frame 15 [])) ∧
    (replyWaiting upA).consist.waiting.map (·.port) ≠ some .A ∧ downA.isUp = false ∧
    (∀ n ∈ [0, 3, 4], let q := { upA with ltx := List.replicate n (frame 15 []) }
      q.isUp = true ∧ q.ltx.length = n) := by decide

theorem witness_LabelsAreAppliedWhole :
    (let f := frame 5 [0, 7, 1, 13]
     let s := taking valid f .A
     s.classifier.consist = [copy f] ∧ f.cls = 5 ∧ s.consist.state = .valid ∧
      natAt f.payload 0 2 = s.consist.rollId.toNat ∧ f.payload.length = 3 + s.consist.table.length ∧
      natAt f.payload 2 1 = s.consist.table.length ∧ 1 ≤ s.consist.table.length ∧
      (∀ b ∈ f.payload.drop 3, b.toNat ≤ 99) ∧
      ((f.payload.drop 3).getD (s.consist.ordinal - 1) 0).toNat ≠ s.consist.label) ∧
    (let f := frame 5 [0, 7, 1, 12]
     ((f.payload.drop 3).getD (valid.consist.ordinal - 1) 0).toNat = valid.consist.label) ∧
    (frame 5 [0, 7, 1, 100]).payload.length = 4 ∧
    ¬ ∀ b ∈ (frame 5 [0, 7, 1, 100]).payload.drop 3, b.toNat ≤ 99 := by decide

/-! ## Batches -/

def part (p : PartFlag) (cls : BitVec 6) (seq : Byte) (payload : List Byte) : Frame :=
  { frame cls payload with part := p, batchId := 9, seq := seq }

/-- A part with a frame in the Batch Assembler's intake. -/
def handed (s : State) (f : Frame) : State :=
  { s with classifier := { State.reset.classifier with batch := [copy f] } }

theorem witness_PartsOpenAndExtendBatches :
    (let f := part .start 9 0 [1]
     (handed State.reset f).classifier.batch = [copy f] ∧ f.part = .start ∧
      loadClassOf f.cls.toNat = some .reservations ∧ f.seq = 0) ∧
    (part .start 9 1 [1]).seq ≠ 0 ∧ draining.mgmt.draining = true ∧ State.reset.mgmt.draining = false ∧
    State.reset.slots.slot0 = none ∧
    (∀ k ∈ [LoadClass.journey, .glyphs, .triggers], loadClassOf (loadClassCode k) = some k) ∧
    (let k : Slots := { slot0 := some (batch .journey) }
     k.slot0 = some (batch .journey) ∧ k.slot1 = none ∧ (batch .journey).cls ≠ .reservations) ∧
    (let k : Slots := { slot1 := some (batch .reservations) }
     k.slot0 = none ∧ k.slot1 = some (batch .reservations) ∧ (batch .reservations).cls = .reservations) ∧
    (assembling.slots.slot0 = some (batch .journey) ∧ assembling.slots.slot1 = some (batch .glyphs)) := by decide

theorem witness_PartsOpenAndExtendBatches_middle :
    assembling.mgmt.draining = false ∧
    (∀ f ∈ [part .middle 7 1 [2], part .middle 7 2 [2], part .middle 8 1 [2]],
      (handed assembling f).classifier.batch = [copy f] ∧ f.part = .middle ∧ (loadClassOf f.cls.toNat).isSome = true) ∧
    (let f := part .middle 7 1 [2]
     assembling.slots.slot .zero = some (batch .journey) ∧ (batch .journey).cls = .journey ∧
      (batch .journey).origin = f.origin ∧ (batch .journey).batchId = f.batchId ∧
      (batch .journey).expected = some f.seq.toNat ∧
      (batch .journey).content.length + f.payload.length ≤ 16384 ∧
      (batch .journey).expected ≠ some (part .middle 7 2 [2]).seq.toNat) := by decide

/-- A batch whose content is full. -/
def fullBatch : Batch := { batch .journey with content := List.replicate 16384 0 }

theorem witness_PartsOpenAndExtendBatches_tooLarge :
    fullBatch.expected = some (part .middle 7 1 [2]).seq.toNat ∧
    16384 < fullBatch.content.length + (part .middle 7 1 [2]).payload.length := by
  have hlen : fullBatch.content.length = 16384 := List.length_replicate
  have hpay : (part .middle 7 1 [2]).payload.length = 1 := rfl
  rw [hlen, hpay]
  exact ⟨rfl, by norm_num⟩

/-- A JOURNEY content of one stop, journey 1, lead END1. -/
def oneStop : List Byte :=
  [0, 1, 0, 1, 0, 0, 0, 100, 0, 0, 0, 5, 6, 1, 65] ++ List.replicate 23 0

def emptyJourney : List Byte := [0, 1, 0, 0]

theorem journey_committed (content : List Byte) (s : State) (h : journeyFault content = none) :
    ∃ u, judge .journey .end1 9 content (catchUp .journey s) = .committed u ∧ u.mgmt = s.mgmt := by
  show ∃ u, loadJourney content s = .committed u ∧ u.mgmt = s.mgmt
  unfold loadJourney
  rw [h]
  dsimp only
  split
  · exact ⟨_, rfl, rfl⟩
  · exact ⟨_, rfl, rfl⟩

theorem witness_CompleteLoadIsHandedOver :
    (let f := part .single 7 0 oneStop
     (handed State.reset f).classifier.batch = [copy f] ∧ loadClassOf f.cls.toNat = some .journey ∧
      f.part = .single ∧ State.reset.slots = {} ∧ State.reset.mgmt.draining = false) ∧
    (let f := part .finish 7 1 (oneStop.drop 1)
     assembling.slots.slot0 = some (batch .journey) ∧ f.part = .finish ∧ (batch .journey).cls = .journey ∧
      (batch .journey).origin = f.origin ∧ (batch .journey).batchId = f.batchId ∧
      (batch .journey).expected = some f.seq.toNat ∧
      (batch .journey).content.length + f.payload.length ≤ 16384) ∧
    (∃ u, judge .journey .end1 9 oneStop (catchUp .journey State.reset) = .committed u ∧ u.mgmt.draining = false) ∧
    judge .journey .end1 9 [0] (catchUp .journey State.reset) = .rejected .length 0 := by
  refine ⟨by decide +kernel, by decide +kernel, ?_, rfl⟩
  obtain ⟨u, hu, hm⟩ := journey_committed oneStop State.reset (by decide +kernel)
  exact ⟨u, hu, by rw [hm]; rfl⟩

/-- A SINGLE in a drain; one that finds both slots with other classes, a free one beside another class, its class in
slot 0 and in slot 1; and an END whose batch is in slot 1. -/
theorem witness_CompleteLoadIsHandedOver_slots :
    (let f := part .single 9 0 [1]
     draining.mgmt.draining = true ∧ loadClassOf f.cls.toNat = some .reservations ∧ f.part = .single ∧
      (∀ i ∈ [SlotId.zero, .one], ∃ b, assembling.slots.slot i = some b ∧ b.cls ≠ .reservations)) ∧
    (let k : Slots := { slot0 := some (batch .journey) }
     k.slot .one = none ∧ (batch .journey).cls ≠ .reservations) ∧
    (assembling.slots.slot .zero = some (batch .journey) ∧ loadClassOf (part .single 7 0 [1]).cls.toNat = some .journey) ∧
    (let f := part .finish 12 1 [2]
     assembling.slots.slot .one = some (batch .glyphs) ∧ loadClassOf f.cls.toNat = some (batch .glyphs).cls ∧
      (batch .glyphs).origin = f.origin ∧ (batch .glyphs).batchId = f.batchId ∧ (batch .journey).cls ≠ .glyphs ∧
      (batch .glyphs).expected = some f.seq.toNat ∧ (batch .glyphs).content.length + f.payload.length ≤ 16384) :=
  ⟨⟨rfl, rfl, rfl, by decide⟩, by decide, by decide, by decide⟩

/-- An END with a sequence not expected, one that is too much, one of no slot's identity, and one that frees the last
slot in a drain. -/
theorem witness_CompleteLoadIsHandedOver_endFails :
    (∀ f ∈ [part .finish 7 1 [2], part .finish 7 2 [2], part .finish 8 1 [2]],
      (handed assembling f).classifier.batch = [copy f] ∧ f.part = .finish ∧ (loadClassOf f.cls.toNat).isSome = true) ∧
    (let f := part .finish 7 2 [2]
     assembling.slots.slot .zero = some (batch .journey) ∧ (batch .journey).cls = .journey ∧
      (batch .journey).origin = f.origin ∧ (batch .journey).batchId = f.batchId ∧
      (batch .journey).expected ≠ some f.seq.toNat) ∧
    (∀ i ∈ [SlotId.zero, .one], ∃ b ∈ assembling.slots.slot i, b.cls ≠ .triggers) ∧
    loadClassOf (part .finish 8 1 [2]).cls.toNat = some .triggers ∧
    (draining.mgmt.draining = true ∧ ({ slot0 := some (batch .journey) } : Slots).setSlot .zero none = {} ∧
      assembling.slots.setSlot .zero none ≠ {}) := by decide

theorem witness_CompleteLoadIsHandedOver_tooLarge :
    fullBatch.expected = some (part .finish 7 1 [2]).seq.toNat ∧
    16384 < fullBatch.content.length + (part .finish 7 1 [2]).payload.length := by
  have hlen : fullBatch.content.length = 16384 := List.length_replicate
  have hpay : (part .finish 7 1 [2]).payload.length = 1 := rfl
  rw [hlen, hpay]
  exact ⟨rfl, by norm_num⟩

/-- A SINGLE part of a load class, its content whole, with both slots free. -/
theorem handsOver_single (k : LoadClass) (content : List Byte) (s : State) (hs : s.slots = {})
    (hd : s.mgmt.draining = false) (f : Frame) (hf : f = part .single (BitVec.ofNat 6 (loadClassCode k)) 0 content) :
    HandsOver .batchSingle k f content 1 (handed s f)
      { handed s f with classifier := { (handed s f).classifier with batch := [] } } := by
  subst hf
  refine ⟨hd, by cases k <;> rfl, .A, [], rfl, .inl ⟨rfl, rfl, rfl, rfl, ?_, ⟨.zero, ?_⟩, rfl⟩⟩
  · intro i b hb
    have hb : s.slots.slot i = some b := hb
    rw [hs] at hb
    cases i <;> cases hb
  · show s.slots.slot0 = none
    rw [hs]

/-- The last part of a load, with its batch in slot 1 beside one of another class. -/
theorem handsOver_end : HandsOver .batchEnd .glyphs (part .finish 12 1 [2]) [1, 2] 2
    (handed assembling (part .finish 12 1 [2]))
    { handed assembling (part .finish 12 1 [2]) with
      classifier := { State.reset.classifier with batch := [] }, slots := { slot0 := some (batch .journey) } } := by
  refine ⟨rfl, rfl, .A, [], rfl, .inr ⟨.one, batch .glyphs, rfl, rfl, rfl, rfl, rfl, rfl, rfl, rfl, ?_, rfl, by decide, rfl⟩⟩
  rintro - x ⟨⟩ ⟨h, -⟩
  cases h

/-- A stop record with a name of one code. -/
def stopBytes (distance : List Byte) (kind side : Byte) : List Byte :=
  distance ++ [kind, side, 0, 5, 6, 1, 65] ++ List.replicate 23 0

def journeyLoad (rs : List (List Byte)) : List Byte := [0, 1, 0, byteOf rs.length] ++ rs.flatten

/-- Whether record `k` of a JOURNEY content is in range, in order and of the kind its place asks. -/
def stopChecks (content : List Byte) (k : Nat) : Bool × Bool × Bool :=
  let field := fun k i n => natAt (slice content (4 + 34 * k) 34) i n
  (decide (field k 0 4 ≤ 4194303 ∧ field k 4 1 ≤ 1 ∧ field k 5 1 ≤ 3 ∧ field k 6 2 ≤ 511 ∧ field k 8 1 ≤ 127 ∧
      1 ≤ field k 9 1 ∧ field k 9 1 ≤ 24 ∧
      ∀ c ∈ slice (slice content (4 + 34 * k) 34) 10 (field k 9 1), c ≠ 253 ∧ c ≠ 254),
   decide (k ≠ 0 → field (k - 1) 0 4 < field k 0 4),
   decide (k = 0 ∨ k + 1 = natAt content 3 1 → field k 4 1 = 0))

/-- The loads handed over; then a content for each check of R77 at its boundary, and one that passes them all. -/
theorem witness_JourneyLoadOpensJourney :
    (HandsOver .batchSingle .journey (part .single 7 0 oneStop) oneStop 1 (handed State.reset (part .single 7 0 oneStop))
      { handed State.reset (part .single 7 0 oneStop) with
        classifier := { (handed State.reset (part .single 7 0 oneStop)).classifier with batch := [] } }) ∧
    (mapState .clean).panels.panel0.composer = some .clean ∧ (mapState .clean).panels.panel0.config.role = .map :=
  ⟨handsOver_single .journey oneStop State.reset rfl rfl _ rfl, by decide⟩

theorem witness_JourneyLoadOpensJourney_end : HandsOver .batchEnd .journey (part .finish 7 1 [0, 0, 0]) [1, 0, 0, 0] 2
    (handed assembling (part .finish 7 1 [0, 0, 0]))
    { handed assembling (part .finish 7 1 [0, 0, 0]) with
      classifier := { State.reset.classifier with batch := [] }, slots := { slot1 := some (batch .glyphs) } } := by
  refine ⟨rfl, rfl, .A, [], rfl,
    .inr ⟨.zero, batch .journey, rfl, rfl, rfl, rfl, rfl, rfl, rfl, rfl, ?_, rfl, by decide, rfl⟩⟩
  intro h
  cases h

theorem witness_JourneyLoadOpensJourney_header :
    (∀ c ∈ [[0, 1, 0], [0, 1, 0, 1], oneStop ++ [0]], ¬ (4 ≤ c.length ∧ c.length = 4 + 34 * natAt c 3 1)) ∧
    (∀ c ∈ [emptyJourney, [0, 0, 0, 0], [0, 1, 2, 0], oneStop], 4 ≤ c.length ∧ c.length = 4 + 34 * natAt c 3 1) ∧
    natAt [0, 0, 0, 0] 0 2 = 0 ∧ 1 < natAt [0, 1, 2, 0] 2 1 ∧ natAt emptyJourney 0 2 ≠ 0 ∧
    natAt emptyJourney 2 1 ≤ 1 ∧ natAt emptyJourney 3 1 = 0 ∧
    (let c := journeyLoad (List.replicate 65 (stopBytes [0, 0, 0, 1] 0 0))
     64 < natAt c 3 1 ∧ c.length = 4 + 34 * natAt c 3 1) := by decide +kernel

theorem witness_JourneyLoadOpensJourney_records :
    let first := stopBytes [0, 0, 0, 100] 0 0
    (let c := journeyLoad [first, stopBytes [0, 0, 0, 101] 1 3, stopBytes [0, 0x3F, 0xFF, 0xFF] 0 2]
     ∀ k ∈ [0, 1, 2], stopChecks c k = (true, true, true)) ∧
    (let c := journeyLoad [first, stopBytes [0, 0x40, 0, 0] 0 0]
     stopChecks c 0 = (true, true, true) ∧ (stopChecks c 1).1 = false) ∧
    (stopChecks (journeyLoad [stopBytes [0, 0, 0, 1] 0 4]) 0).1 = false ∧
    (let c := journeyLoad [first, first]
     stopChecks c 0 = (true, true, true) ∧ stopChecks c 1 = (true, false, true)) ∧
    stopChecks (journeyLoad [stopBytes [0, 0, 0, 1] 1 0]) 0 = (true, true, false) ∧
    (let c := journeyLoad [first, stopBytes [0, 0, 0, 101] 1 0]
     stopChecks c 0 = (true, true, true) ∧ stopChecks c 1 = (true, true, false)) := by decide +kernel

/-- The part on journey 1 with one stop. -/
def oneJourney : State := journeying { ({} : Tracker).openAt (journeyOf oneStop) with c := 0 }

/-- A trigger record of stop 0. -/
def triggerBytes (stop event dwell : Byte) : List Byte := [stop, event, 0, 0, 0, 0, dwell, 1, 65] ++ List.replicate 63 0

def triggerLoad (rs : List (List Byte)) : List Byte := [0, 1, byteOf rs.length] ++ rs.flatten

theorem witness_TriggersLoadArmsTable :
    (let c := triggerLoad [triggerBytes 0 2 5, triggerBytes 0 0 5]
     let f := part .single 8 0 c
     HandsOver .batchSingle .triggers f c 1 (handed oneJourney f)
       { handed oneJourney f with classifier := { (handed oneJourney f).classifier with batch := [] } }) ∧
    (∀ m ∈ oneJourney.notices.fromTracker, m ≠ .journeyReset) ∧
    (let c := triggerLoad [triggerBytes 0 2 5, triggerBytes 0 0 5]
     c.length = 3 + 72 * natAt c 2 1 ∧ natAt c 2 1 ≤ 128 ∧ oneJourney.tracker.journey = some (journeyOf oneStop) ∧
      natAt c 0 2 = (journeyOf oneStop).id ∧ 1 ≤ natAt (slice c 75 72) 6 1 ∧
      natAt (slice c 3 72) 1 1 = 2 ∧ natAt (slice c 3 72) 0 1 = oneJourney.tracker.c ∧
      oneJourney.tracker.state = .atStop ∧ (stopAt (journeyOf oneStop).stops 0).kind = .stop) ∧
    ¬ 3 ≤ [0, 1].length ∧ State.reset.tracker.journey = none ∧
    ¬ natAt (slice (triggerLoad [triggerBytes 1 0 5]) 3 72) 0 1 < (journeyOf oneStop).stops.length ∧
    (stopAt journey412.stops 1).kind ≠ .stop ∧
    (let c : List Byte := [0, 1, 129] ++ List.replicate 9288 0
     c.length = 3 + 72 * natAt c 2 1 ∧ 128 < natAt c 2 1) := by
  refine ⟨handsOver_single .triggers _ oneJourney rfl rfl _ rfl, by decide, by decide +kernel, by decide, rfl,
    by decide +kernel, by decide, ?_, by decide⟩
  rw [List.length_append, List.length_replicate]
  decide

/-- A reservation record: op, seat 12, from, to, tag present, service, tag. -/
def resvBytes (op f t flag : Byte) (tag : Byte) : List Byte := [op, 12, f, t, flag, 0, 0, tag]

def resvLoad (mode : Byte) (rs : List (List Byte)) : List Byte :=
  [1, 156, mode, 0, byteOf rs.length] ++ rs.flatten

/-- Seat 12 with its lists as in `reserved`, and nothing in the inbox. -/
def reservable : State := { reserved with resv := { reserved.resv with inbox := [] } }

theorem witness_ReservationsLoadIsApplied :
    (let c := resvLoad 0 [resvBytes 0 2 3 0 0, resvBytes 2 0 0 0 0]
     let f := part .single 9 0 c
     HandsOver .batchSingle .reservations f c 1 (handed reservable f)
       { handed reservable f with classifier := { (handed reservable f).classifier with batch := [] } }) ∧
    (∀ m ∈ reservable.resv.inbox, m.opens = false) ∧
    (∀ mode ∈ [0, 1, 2], let c := resvLoad mode [resvBytes 0 2 3 0 0, resvBytes 2 0 0 0 0]
      c.length = 5 + 8 * natAt c 3 2 ∧ natAt c 2 1 = mode.toNat ∧ reservable.resv.journey = some resvJourney ∧
      natAt c 0 2 = resvJourney.id ∧ (slice c 5 8) = resvBytes 0 2 3 0 0 ∧ (slice c 13 8) = resvBytes 2 0 0 0 0) ∧
    ((List.range 2).map (fun k => opOf (slice (resvLoad 0 [resvBytes 0 2 3 0 0, resvBytes 2 0 0 0 0]) (5 + 8 * k) 8)) =
      [ResvOp.reserve 12 2 3 none, .clearSeat 12].map some) ∧
    ((applyOp resvJourney (.reserve 12 2 3 none) reservable.resv.seats).2 = .overlap ∧
      (applyOp resvJourney (.clearSeat 12) reservable.resv.seats).2 = .ok) ∧
    (let empty := reservable.resv.seats.map (fun x => { x with segments := [] })
     (applyOp resvJourney (.reserve 12 2 3 none) empty).2 = .ok ∧
      (applyOp resvJourney (.reserve 12 1 3 none) empty).2 = .passStop) ∧
    opOf (resvBytes 7 0 0 0 0) = none ∧ State.reset.resv.journey = none := by
  refine ⟨handsOver_single .reservations _ reservable rfl rfl _ rfl, by decide, by decide +kernel, by decide +kernel,
    by decide +kernel, by decide +kernel, by decide, rfl⟩

/-- A GLYPHS content: font 1, cells of 4 by 4, code 65 alone. -/
def glyphLoad : List Byte := [1, 4, 4, 65, 1, 0x90, 0x60, 0x60, 0x90]

theorem witness_GlyphsLoadSetsFont :
    (let f := part .single 12 0 glyphLoad
     HandsOver .batchSingle .glyphs f glyphLoad 1 (handed State.reset f)
       { handed State.reset f with classifier := { (handed State.reset f).classifier with batch := [] } }) ∧
    State.reset.panels.fonts.length = 4 ∧
    (natAt glyphLoad 0 1 ≤ 3 ∧ 4 ≤ natAt glyphLoad 1 1 ∧ natAt glyphLoad 1 1 ≤ 16 ∧ 1 ≤ natAt glyphLoad 4 1 ∧
      natAt glyphLoad 3 1 + natAt glyphLoad 4 1 ≤ 253 ∧
      glyphLoad.length = 5 + natAt glyphLoad 4 1 * (natAt glyphLoad 2 1 * ((natAt glyphLoad 1 1 + 7) / 8))) ∧
    [1, 4, 4, 65].length < 5 ∧ ¬ natAt [4, 4, 4, 65, 1] 0 1 ≤ 3 ∧ [1, 4, 4, 65, 1].length ≠ 5 + 1 * (4 * ((4 + 7) / 8)) ∧
    (drawing .inBand).engine.running = some { source := .inBand, record := fill, work := .rows 0 } :=
  ⟨handsOver_single .glyphs _ State.reset rfl rfl _ rfl, rfl, by decide, by decide, by decide, by decide, rfl⟩

/-! ## The journey -/

/-- A POSITION of journey 412: metres, cm/s, motion. -/
def position (m v : Nat) (moving : Byte) : Frame :=
  { frame 6 (beBytes 2 412 ++ beBytes 4 m ++ beBytes 2 v ++ [moving]) with origin := .end2 }

def reporting (t : Tracker) (f : Frame) : State :=
  { journeying t with classifier := { State.reset.classifier with position := some (copy f) } }

theorem witness_ReportsTicksAndStaleness :
    (let f := position 59880 0 0
     let s := reporting (at412 .approach 2 58210 .moving) f
     s.tracker.journey = some journey412 ∧ s.classifier.position = some (copy f) ∧ f.payload.length = 9 ∧
      natAt f.payload 8 1 = 0 ∧ natAt f.payload 0 2 = journey412.id ∧ f.origin = journey412.lead ∧
      s.tracker.state = .approach ∧ s.tracker.c < journey412.stops.length - 1 ∧
      (stopAt journey412.stops 3).kind = .stop ∧ 59880 ≤ 60000 + s.tracker.windowW ∧
      60000 ≤ 59880 + min s.tracker.windowW s.tracker.approachA) ∧
    (frame 6 [1]).payload.length ≠ 9 ∧
    (cruising.tracker.tickTimer = true ∧ cruising.tracker.e <
      min (cruising.tracker.e + cruising.tracker.v) ((stopAt journey412.stops (nextStop journey412.stops 2)).distance * 1000)) ∧
    (let t := { at412 .approach 4 83500 .moving with v := 8000 }
     t.tickTimer = true ∧
      min (t.e + t.v) ((stopAt journey412.stops (nextStop journey412.stops 4)).distance * 1000) ≤ t.e) ∧
    cruising.tracker.staleness = some 100 ∧ cruising.tracker.status = .fresh := by decide +kernel

theorem law_at412 (st : TrackerState) (c em : Nat) (motion : Motion) (f : Frame) (hs : st ≠ .idle)
    (hc : c < 6) (h0 : 12000 ≤ em) (h1 : em ≤ 97000) : TrackerLaw (reporting (at412 st c em motion) f) := by
  refine ⟨⟨by decide, by decide, rfl, rfl⟩, hs, Nat.le_of_lt hc, ?_, ?_, ?_, ?_, ?_, ?_⟩
  · intro h
    exact absurd h (Nat.ne_of_lt hc)
  · show 12000 * 1000 ≤ em * 1000
    omega
  · show em * 1000 ≤ 97000 * 1000
    omega
  · exact Nat.zero_le _
  · exact ⟨fun _ => rfl, fun _ => rfl⟩
  · exact ⟨fun _ => rfl, fun _ => rfl⟩

/-- AT_STOP at stop 3: a report short of the departure margin, and one far ahead that passes stop 4 and skips stop 5;
APPROACH to stop 5: a STATIONARY report within W. -/
theorem witness_HandlingMovesTracker :
    (∀ f ∈ [position 60050 500 1, position 84200 3000 1],
      let s := reporting (at412 .atStop 3 59880 .stationary) f
      TrackerLaw s ∧ s.tracker.journey = some journey412 ∧ (∃ t, exec .takePosition s = .next t) ∧
        s.classifier.position = some (copy f) ∧ f.payload.length = 9 ∧ natAt f.payload 8 1 ≤ 1 ∧
        natAt f.payload 0 2 = journey412.id ∧ f.origin = journey412.lead) ∧
    ((at412 .atStop 3 60050 .moving).state = .atStop ∧ ¬ 60000 + (at412 .atStop 3 60050 .moving).marginM < 60050 ∧
      60000 + 50 < 84200 ∧ 3 < journey412.stops.length - 1 ∧ natAt (position 84200 3000 1).payload 8 1 = 1) ∧
    (let f := position 83460 0 0
     TrackerLaw (reporting (at412 .approach 4 83500 .moving) f) ∧ natAt f.payload 8 1 = 0 ∧
      f.payload.length = 9 ∧ f.origin = journey412.lead) ∧
    (TrackerLaw cruising ∧ cruising.tracker.tickTimer = true ∧ (∃ t, exec .tick cruising = .next t) ∧
      cruising.tracker.e < min (cruising.tracker.e + cruising.tracker.v)
        ((stopAt journey412.stops (nextStop journey412.stops 2)).distance * 1000)) := by
  refine ⟨?_, by decide, ⟨law_at412 _ _ _ _ _ (by decide) (by decide) (by decide) (by decide), by decide⟩,
    law_cruising, rfl, ⟨_, rfl⟩, by decide +kernel⟩
  intro f hf
  refine ⟨law_at412 _ _ _ _ _ (by decide) (by decide) (by decide) (by decide), rfl, ?_, rfl, ?_⟩
  · fin_cases hf <;> exact ⟨_, rfl⟩
  · fin_cases hf <;> decide +kernel

/-- A door at the given levels with its timer running. -/
def door (m : DoorMode) (pin debounced : Bool) : Door := { mode := m, pin := pin, debounced := debounced, timer := true }

/-- The approach to stop 6 of section 5.9.4, with a door edge about to be settled. -/
def atTerminus (st : TrackerState) (em : Nat) (l r : Door) : State :=
  { journeying { at412 st 5 em .moving with doorL := l, doorR := r } with
    consist := { State.reset.consist with facing := some .A } }

theorem witness_DoorEdgesAreJudged :
    (∀ b, ({ pin := b } : Door).pin = b) ∧ ({} : Door).pin ≠ true ∧
    (∀ m ∈ [DoorMode.off, .falling], (door m true false).timer = true ∧
      ¬ ((door m true false).mode = .both ∨ ((door m true false).mode = .rising ∧ (door m true false).pin = true) ∨
        ((door m true false).mode = .falling ∧ (door m true false).pin = false))) ∧
    (let x := door .rising true false
     x.timer = true ∧ x.pin ≠ x.debounced ∧ x.mode = .rising ∧ x.pin = true) ∧
    (∀ em ∈ [95800, 96599], em * 1000 / 1000 + 400 < 97000) ∧
    (let s := atTerminus .approach 95800 (door .rising true false) {}
     s.tracker.journey = some journey412 ∧ s.tracker.state = .approach ∧
      s.tracker.e / 1000 + s.tracker.windowW < (stopAt journey412.stops (nextStop journey412.stops 5)).distance) ∧
    (let s := atTerminus .approach 96600 {} (door .rising true false)
     s.tracker.state = .approach ∧
      (stopAt journey412.stops (nextStop journey412.stops 5)).distance ≤ s.tracker.e / 1000 + s.tracker.windowW ∧
      s.exitSide (nextStop journey412.stops 5) = .left) ∧
    (atTerminus .cruise 90000 {} {}).tracker.state = .cruise ∧
    (atTerminus .atStop 96700 {} {}).tracker.state = .atStop := by decide +kernel

/-- Section 5.9.4: the door on the wrong side arrives the train within W. -/
theorem test_door_arrival :
    ∃ t, exec (.debounceExpiry .right) (atTerminus .approach 96700 {} (door .rising true false)) = .next t ∧
      t.tracker.state = .atStop ∧ t.tracker.c = 6 ∧ (t.report .doorUnexpected).pending = true :=
  ⟨_, rfl, by decide +kernel⟩

/-! ## Notices -/

def trigger (e : TriggerEvent) (stop offset : Nat) : TriggerEntry :=
  { trigger := { stop := stop, event := e, offset := offset, kind := .nextStop, priority := .normal, dwell := 8
                 text := [65] }, state := .armed }

def fullQueue (p : Priority) : List Notice :=
  notice 1 .custom .normal :: (List.replicate 6 (notice 2 .custom .urgent) ++ [notice 8 .custom p])

def handoff : Handoff :=
  { em := 48120, c := 2, n := 3, reached := [], departed := some 2, arrived := none, state := .cruise }

def handing (table : List TriggerEntry) : State :=
  { cruising with notices := { State.reset.notices with table := table, fromTracker := [.handoff handoff] } }

theorem witness_HandoffSettlesTriggers :
    (let s := handing [trigger .departure 2 0, trigger .arrival 2 0, trigger .distance 3 1000]
     s.notices.fromTracker = .handoff handoff :: [] ∧ s.notices.queue = [] ∧
      s.notices.table[0]? = some (trigger .departure 2 0) ∧ (trigger .departure 2 0).state = .armed ∧
      handoff.departed = some (trigger .departure 2 0).trigger.stop ∧
      (trigger .arrival 2 0).trigger.stop = handoff.c ∧
      handoff.em + 1000 < (stopAt s.tracker.stops 3).distance) ∧
    (∀ e ∈ (handing [trigger .arrival 3 0]).notices.table, e.trigger.event = .arrival ∧ handoff.arrived = none) ∧
    ({ twoNotices with notices := { twoNotices.notices with fromTracker := [.journeyReset] } } :
      State).notices.fromTracker = .journeyReset :: [] := by decide +kernel

/-- One hand-off that fires a DEPARTURE entry and two DISTANCE entries, onto a queue with a NEXT_STOP head and onto a
full one. -/
theorem witness_HandoffSettlesTriggers_several :
    (let s := handing [trigger .distance 3 20000, trigger .departure 2 0, trigger .distance 3 12000]
     (∀ e ∈ s.notices.table, e.state = .armed ∧ ((e.trigger.event = .departure ∧ handoff.departed = some e.trigger.stop) ∨
      (e.trigger.event = .distance ∧ handoff.c < e.trigger.stop ∧ e.trigger.stop < s.tracker.stops.length ∧
        (stopAt s.tracker.stops e.trigger.stop).distance ≤ handoff.em + e.trigger.offset))) ∧
      60000 - 20000 < 60000 - 12000 ∧ s.notices.count.toNat + 3 < 2 ^ 32) ∧
    (∀ q ∈ [twoNotices.notices.queue, [notice 1 .custom .normal]], (q.map (·.number)).Nodup ∧
      ∀ e ∈ q, e.number.toNat ≤ twoNotices.notices.count.toNat) ∧
    (fullQueue .normal).length = 8 := by decide +kernel

/-- R112, R107: the departure notice supersedes the NEXT_STOP head, each distance notice the one before it, and the
other entry, now the head, keeps its place. -/
theorem test_several_firings :
    let s := { handing [trigger .distance 3 20000, trigger .departure 2 0, trigger .distance 3 12000] with
      notices := { (handing [trigger .distance 3 20000, trigger .departure 2 0, trigger .distance 3 12000]).notices with
        queue := twoNotices.notices.queue, count := 9 } }
    ∃ t, exec .noticeHandoff s = .next t ∧ t.notices.queue.map (·.number) = [2, 12] ∧ t.notices.count = 12 :=
  ⟨_, rfl, by decide +kernel⟩

/-- The departure entry alone fires; the passed arrival is void, the distance entry stays armed. -/
theorem test_handoff_states :
    ∃ t, exec .noticeHandoff (handing [trigger .departure 2 0, trigger .arrival 2 0, trigger .distance 3 1000]) =
      .next t ∧ t.notices.table.map (·.state) = [.fired, .void, .armed] := ⟨_, rfl, by decide +kernel⟩

def noticeFrame (urgent : Byte) : Frame := frame 10 [urgent, 0, 1, 66]

def noticed (q : List Notice) (f : Frame) : State :=
  { queued q with classifier := { State.reset.classifier with notice := [copy f] } }

theorem witness_NoticesQueueAndDwell :
    (∀ u ∈ [0, 1], (noticed [] (noticeFrame u)).classifier.notice = [copy (noticeFrame u)] ∧
      3 ≤ (noticeFrame u).payload.length ∧
      (noticeFrame u).payload.length = 3 + natAt (noticeFrame u).payload 2 1 ∧
      natAt (noticeFrame u).payload 0 1 ≤ 1 ∧ byteAt (noticeFrame u).payload 0 = u) ∧
    ¬ 3 ≤ (frame 10 [0]).payload.length ∧ (noticed [] (noticeFrame 0)).notices.queue = [] ∧
    (twoNotices.notices.queue = notice 1 .nextStop .normal :: [notice 2 .custom .normal] ∧
      twoNotices.notices.dwell = some 5 ∧ (notice 2 .custom .normal).number ≠ (notice 1 .nextStop .normal).number) ∧
    (∀ p ∈ [Priority.normal, .urgent], (fullQueue p).length = 8) ∧
    ((fullQueue .urgent).tail.filter (fun e => decide (e.priority = .normal)) = []) ∧
    ((fullQueue .normal).tail = List.replicate 6 (notice 2 .custom .urgent) ++ notice 8 .custom .normal :: [] ∧
      (notice 8 .custom .normal).priority = .normal) ∧
    (let s := { twoNotices with notices := { twoNotices.notices with
       dwell := none, fromPanels := [.flipped (some 1) true, .flipped none true, .enableChange true] } }
     s.notices.fromPanels = .flipped (some 1) true :: [.flipped none true, .enableChange true] ∧
      s.notices.dwell = none ∧ some (notice 1 .nextStop .normal).number = some 1) := by decide +kernel

/-! ## Reservations -/

theorem witness_SegmentsAreFlushedPurgedAndChanged :
    reserved.resv.inbox = .advance 2 3 :: [] ∧
    (∀ m ∈ [ResvMsg.journey resvJourney, .closed, .labelChange],
      ({ reserved.resv with inbox := [m] } : Resv).inbox = m :: []) := by decide +kernel

theorem witness_SegmentsAreFlushedPurgedAndChanged_operations :
    (∀ x ∈ reserved.resv.seats, x.number ≠ 13) ∧
    (12 ≠ 0 ∧ reserved.resv.seats[0]? = some seat12 ∧ seat12.number = 12) ∧
    (∃ g ∈ seat12.segments, g.fromStop = 2) ∧ (∀ g ∈ seat12.segments, g.fromStop ≠ 1) ∧
    (let k := { resvJourney with c := 2 }
     (0 < 3 ∧ 3 < k.kinds.length ∧ k.kinds[0]? = some .stop ∧ k.kinds[3]? = some .stop ∧ k.c < 3) ∧
      k.kinds[1]? = some .pass ∧ 2 ≤ k.c ∧ ¬ 4 < k.kinds.length) ∧
    (∃ g ∈ seat12.segments, 0 < g.toStop ∧ g.fromStop < 3) ∧
    (reserved.resv.seats.map (fun y => y.segments.length)).sum = 2 := by decide +kernel

theorem witness_SegmentsAreFlushedPurgedAndChanged_unique :
    ∀ i' x', reserved.resv.seats[i']? = some x' → x'.number = 12 → i' = 0 := by
  intro i' x' h hn
  cases i' with
  | zero => rfl
  | succ k =>
    have h : (List.replicate 95 ({} : Seat))[k]? = some x' := h
    have hx : x' = {} := List.eq_of_mem_replicate (List.mem_of_getElem? h)
    rw [hx] at hn
    exact absurd hn (by decide)

/-- A pool of 384 segments in use. -/
theorem witness_SegmentsAreFlushedPurgedAndChanged_full :
    384 ≤ (((List.replicate 384 ({ segments := [default] } : Seat)).map (fun y => y.segments.length)).sum) := by
  decide +kernel

theorem witness_LampStateByFirstRow :
    seat12.segments.Pairwise (fun a b => a.fromStop < b.fromStop) ∧ ({} : Seat).number = 0 ∧
    (seat12.number ≠ 0 ∧ seat12.service = .inService ∧ seat12.data = .known) ∧
    ({ seat12 with service := .outOfService } : Seat).service = .outOfService ∧
    ({ seat12 with data := .unknown } : Seat).data = .unknown ∧
    (∃ g ∈ seat12.segments, g.fromStop ≤ 0 ∧ 0 < g.toStop) ∧
    (let x := { seat12 with segments := [{ fromStop := 2, toStop := 3, tag := none }] }
     (¬ ∃ g ∈ x.segments, g.fromStop ≤ 0 ∧ 0 < g.toStop) ∧
      ∃ g ∈ x.segments, 0 < g.fromStop ∧ (∀ h ∈ x.segments, 0 < h.fromStop → g.fromStop ≤ h.fromStop) ∧
        g.fromStop = resvJourney.n) := by decide

/-! ## Lamps -/

theorem witness_RowsAreDrivenAndSampled :
    (∀ s ∈ [scanning [0, 1] none, scanning [1] (some (true, false)), scanning [] none],
      s.scanner.misses.length = 96 ∧ s.scanner.faults.length = 96 ∧ s.scanner.checks.length = 96 ∧
      s.reports.cells.length = 16) ∧
    (scanning [0, 1] none).scanner.plan = some { rows := 0 :: 1 :: [], period := 2, lines := usedLines } ∧
    0 * 12 + 12 ≤ (scanning [0, 1] none).scanner.checks.length ∧
    7 * 12 + 12 ≤ (scanning [7] none).scanner.checks.length ∧
    (scanning [1] (some (true, false))).scanner.checks.getD 0 none = some (true, false) ∧
    (∀ n ∈ [0, 1, 2], (List.replicate 96 n).getD 0 0 = n) ∧
    ((scanning [1] none).report .lampFault).enable = true := by decide +kernel

/-! ## Drawing -/

theorem witness_FillRectWritesItsPixels :
    (let s := drawing .inBand
     let u : Running := { source := .inBand, record := fill, work := .rows 0 }
     s.engine.running = some u ∧ u.record.target = some .p2 ∧ u.record.body = .fillRect 1 1 2 2 ∧ u.work = .rows 0 ∧
      u.part = 0 ∧ u.record.rop.toNat ≤ 5 ∧ u.record.colour.toNat ≤ 15 ∧ s.engine.composerQ = [] ∧
      s.engine.inBandQ = [] ∧ s.engine.suspended = none ∧ s.mgmt.draining = false ∧
      (s.panel .p2).config.width ≤ 512 ∧ (s.panel .p2).back.pixels.wf = true) := by decide

/-- The four pixels of a FILL_RECT of 2 by 2 at (1, 1). -/
theorem test_fill_rect : ∃ t, exec .drawRecordEnd (drawing .inBand) = .next t ∧ t.engine.running = none ∧
    (t.panel .p2).back.pixels = [(513, 9), (514, 9), (1025, 9), (1026, 9)] := ⟨_, rfl, by decide +kernel⟩

/-- Panel 2 with a record of the given body running, its work as given. -/
def running (src : DrawSource) (body : Body) (w : Work) : State :=
  { State.reset with
    panels := { State.reset.panels with panel2 := freePanel, fonts := [none, some font4, none, none] }
    engine := { State.reset.engine with running := some { source := src, record := record body 64, work := w } } }

/-- That record runs at the start of a unit. -/
def Runs (src : DrawSource) (body : Body) (w : Work) : Prop :=
  RunsAtUnit (running src body w) { source := src, record := record body 64, work := w } .p2

theorem runs_at_unit (src : DrawSource) (body : Body) (w : Work) : Runs src body w :=
  ⟨rfl, rfl, rfl, rfl, (by decide : freePanel.config.width ≤ 512), rfl⟩

/-- The line of section 9.5.1 from its start, the CONTINUE of its rest, a composer line in mode OUTSIDE, and a line of
D = 0 with OMIT_LAST. -/
theorem witness_LineDrawsItsPixels :
    Runs .inBand lineBody (.line line951) ∧
    Runs .inBand .cont (.line { line951 with step := 3, left := 3, position := 12 }) ∧
    (∀ l ∈ [line951, { line951 with step := 3, left := 3, position := 12 }, { line951 with x1 := 2, y1 := 1, left := 0 }],
      l.rop.toNat ≤ 5 ∧ l.colour.toNat ≤ 15 ∧ l.position ≤ 15 ∧
      l.step + l.left ≤ max (l.x1 - l.x0).natAbs (l.y1 - l.y0).natAbs + 1) ∧
    Runs .composer (.line 2 1 7 4 0xCCCC true false true 1) (.line { line951 with clipStop := false }) ∧
    ({ line951 with clipStop := false } : LineRun).clipStop = false ∧
    (∃ h, (some (heldOf (record lineBody 5) line951)) = some h ∧ h.panel = (record .cont 5).panel) :=
  ⟨runs_at_unit _ _ _, runs_at_unit _ _ _, by decide, runs_at_unit _ _ _, rfl, _, rfl, rfl⟩

/-- R154: a line of D = 0 with OMIT_LAST keeps the pattern position it finds, PATTERN_RESET set or not. -/
theorem test_empty_line_keeps_position : ∀ reset ∈ [true, false],
    (lineStart .inBand fill 7 3 3 3 3 0xFFFF reset true false 0).position = 7 ∧
      (lineStart .inBand fill 7 3 3 3 3 0xFFFF reset true false 0).left = 0 := by decide

/-- R159, R161: a glyph begun in one font is drawn to its end in that font, though the store holds another by then. -/
theorem test_glyph_keeps_its_font :
    (runUnits [some { width := 8, height := 8, bitmaps := [] }] (record (.copyGlyph 0 65 0 0 5 0 false) 64) 1 0
      (some font4) {} (.glyph false)).1.back.pixels =
    [(0, 5), (3, 5), (513, 5), (514, 5), (1025, 5), (1026, 5), (1536, 5), (1539, 5)] := by decide +kernel

/-- A trapezoid, a glyph, a TEXT part-way, and an in-band TEXT of NAME and SIDE with and without a journey. -/
theorem witness_ShapesGlyphsAndTextAreDrawn :
    Runs .inBand trapezoid952 (.rows 0) ∧
    Runs .inBand (.copyGlyph 1 65 3 3 5 0 false) (.glyph false) ∧
    Runs .inBand (.text 1 3 3 5 0 true [65, 66, 65]) (.text [66, 65] 7) ∧
    ((record trapezoid952 64).rop.toNat ≤ 5 ∧ (record trapezoid952 64).colour.toNat ≤ 15 ∧ (5 : Byte).toNat ≤ 15) ∧
    (running .inBand trapezoid952 (.rows 0)).panels.fonts.getD (1 : Byte).toNat none = some font4 ∧
    TrackerLaw State.reset ∧ TrackerLaw cruising ∧
    (record (.text 1 3 3 5 0 true [254, 253]) 64).body = .text 1 3 3 5 0 true [254, 253] ∧
    State.reset.tracker.journey = none ∧ cruising.tracker.journey = some journey412 :=
  ⟨runs_at_unit _ _ _, runs_at_unit _ _ _, runs_at_unit _ _ _, by decide, rfl,
    ⟨rfl, rfl, rfl, rfl, rfl, rfl, rfl, rfl, rfl⟩, law_cruising, rfl, rfl, rfl⟩

/-- A copy of the back page onto itself, one pixel down and right, and one of the shown page. -/
theorem witness_PageCopyReadsBeforeItWrites :
    ∀ page ∈ [(0 : Byte), 1], Runs .inBand (.copyPage page 0 0 4 4 1 1) (.rows 0) ∧
      (record (.copyPage page 0 0 4 4 1 1) 64).rop.toNat ≤ 5 ∧
      (record (.copyPage page 0 0 4 4 1 1) 64).body = .copyPage page 0 0 4 4 1 1 ∧ page.toNat ≤ 1 := by
  intro page hp
  refine ⟨runs_at_unit _ _ _, Nat.zero_le _, rfl, ?_⟩
  fin_cases hp <;> decide

def refreshing (pos : FramePosition) (boundaryDue flip : Bool) : State :=
  { State.reset with panels := { State.reset.panels with
      panel2 := { freePanel with refresh := some { position := pos, boundaryDue := boundaryDue }, flipPending := flip } } }

/-- An engine with nothing running and the records given. -/
def idle (c : List Record) (u : Option Running) (b : List Record) : State :=
  { running .inBand .flip (.rows 0) with engine := { composerQ := c, suspended := u, inBandQ := b } }

/-- For every clause a state: nothing waiting; a head, a suspended and an in-band record; a panel whose flip is
pending; records that pass and fail the checks; a FLIP of an enabled panel and of one that is not. -/
theorem witness_RecordsStartResumeOrAreRefused :
    (∀ s ∈ [idle [] none [], idle [fill] none [], idle [] none [fill],
        idle [] (some { source := .inBand, record := fill, work := .line line951 }) []],
      s.engine.running = none ∧ s.panels.fonts.length = 4) ∧
    (record .flip 64).target = some .p2 ∧ (idle [] none []).panel .p2 = freePanel ∧ freePanel.flipPending = false ∧
    (∃ p, fill.target = some p ∧ ((refreshing (.visible 0) false true).panel p).flipPending = true) ∧
    StartChecks .inBand fill (idle [] none [fill]) ∧ StartChecks .inBand (record lineBody 64) (idle [] none []) ∧
    StartChecks .inBand (record .flip 64) (idle [] none []) ∧
    ¬ StartChecks .inBand (record .cont 64) (idle [] none []) ∧
    ¬ StartChecks .composer (record (.text 0 0 0 1 0 true [65]) 64) (idle [] none []) ∧
    ¬ StartChecks .inBand { fill with panel := 0 } (idle [] none []) ∧
    (freePanel.config.enable = true ∧ freePanel.config.role = .free) ∧ ({} : Panel).config.enable = false ∧
    ({ source := .inBand, record := fill, work := .line line951 } : Running).roleChanged = false := by
  refine ⟨by decide, rfl, rfl, rfl, ⟨.p2, rfl, rfl⟩, ⟨⟨.p2, rfl, fun _ => rfl⟩, ?_⟩, ⟨⟨.p2, rfl, fun _ => rfl⟩, ?_⟩,
    ⟨⟨.p2, rfl, fun _ => rfl⟩, trivial⟩, ?_, ?_, ?_, ⟨rfl, rfl⟩, rfl, rfl⟩
  · show fill.rop.toNat ≤ 5
    decide
  · exact ⟨by decide, by decide⟩
  · rintro ⟨-, h, hh, -⟩
    cases hh
  · rintro ⟨-, -, -, -, hh⟩
    exact hh rfl
  · rintro ⟨⟨p, hp, hr⟩, -⟩
    cases hp
    cases hr rfl

/-- A composer record for panel 0 waits while the in-band record runs. -/
def composerFill : Record := { fill with panel := 0 }

theorem witness_DrawingIsSetAsideOrDiscarded :
    (let s := { drawing .inBand with engine := { (drawing .inBand).engine with composerQ := [composerFill] } }
     let u : Running := { source := .inBand, record := fill, work := .rows 0 }
     let a := runUnits s.panels.fonts u.record 1 u.part u.cell (s.panel .p2) u.work
     s.engine.running = some u ∧ u.source = .inBand ∧ u.record.target = some .p2 ∧
      s.engine.composerQ = composerFill :: [] ∧ composerFill.target = some .p0 ∧
      composerFill.body = .fillRect 1 1 2 2 ∧ composerFill.rop.toNat ≤ 5 ∧ (s.panel .p0).flipPending = false ∧
      finished u.record a.1 a.2 = false) ∧
    ((drawing .inBand).mgmt.draining = false ∧ (drawing .inBand).engine.composerQ = [] ∧
      (drawing .inBand).engine.inBandRecord ≠ none) ∧
    ((drawing .composer).engine.inBandRecord = none ∧ (drawing .composer).engine.inBandQ = [] ∧
      (drawing .composer).engine.heldLine = none) ∧
    (let e := { (drawing .composer).engine with inBandQ := [fill] }
     e.inBandQ ≠ [] ∧ ∃ u ∈ e.running, u.source = .composer) ∧
    (let e : Engine := { composerQ := [composerFill], inBandQ := [fill] }
     e.inBandQ ≠ [] ∧ e.running = none ∧ e.composerQ = composerFill :: [] ∧ composerFill.target = some .p0 ∧
      composerFill.body = .fillRect 1 1 2 2 ∧ composerFill.rop.toNat ≤ 5) :=
  ⟨by decide +kernel, by decide, by decide, ⟨by decide, _, rfl, rfl⟩, by decide⟩

theorem witness_PagesAreComposedInTurn :
    ((mapState .dirty).panels.composing = none ∧ (mapState .dirty).panels.panel0.config.enable = true ∧
      (mapState .dirty).panels.panel0.config.role ≠ .off ∧ (mapState .dirty).panels.panel0.flipPending = false ∧
      (mapState .dirty).panels.panel0.composer = some .dirty ∧ (mapState .dirty).tracker.journey = none) ∧
    (∀ q, ¬ panelNum q < panelNum .p0) ∧
    (pageRecords .p0 (mapState .dirty)).length = 2 ∧
    (let k : Composition := { panel := .p0, records := [composerFill, fill] }
     let s := { mapState .composing with panels := { (mapState .composing).panels with composing := some k } }
     s.panels.composing = some k ∧ k.records = composerFill :: [fill] ∧ s.engine.composerQ.length < 16) ∧
    16 - (List.replicate 15 fill).length < (pageRecords .p0 (mapState .dirty)).length := by
  refine ⟨by decide, ?_, by decide, by decide, by decide⟩
  intro q
  exact Nat.not_lt_zero _

/-- Panel 0 as MAP on journey 412: in CRUISE, in AT_STOP and at the last stop. -/
def mapJourney (st : TrackerState) (c : Nat) : State := { mapState .dirty with tracker := at412 st c 51230 .moving }

theorem witness_PagesAreComposedInTurn_map :
    (∀ x ∈ [(TrackerState.cruise, 2), (.approach, 5), (.atStop, 0), (.atStop, 6)],
      let s := mapJourney x.1 x.2
      s.panels.composing = none ∧ s.panels.panel0.config.enable = true ∧ s.panels.panel0.config.role = .map ∧
      s.panels.panel0.flipPending = false ∧ s.panels.panel0.composer = some .dirty ∧
      s.tracker.journey = some journey412 ∧ s.tracker.marker = some (0, 0) ∧ s.tracker.state = x.1 ∧
      s.tracker.c = x.2) ∧
    lastStop journey412.stops = 6 := by decide

/-- R184: with 7 stops the page of a train in CRUISE has 1 + 7 LINEs, 7 marks, the marker, and clearing and FLIP. -/
theorem test_map_page_length : (pageRecords .p0 (mapJourney .cruise 2)).length = 17 ∧
    (pageRecords .p0 (mapJourney .atStop 2)).length = 16 := by decide +kernel

/-- Panel 0 as NOTICE with font 0 known, a head, or an empty queue with and without a journey. -/
def noticeState (s : State) : State :=
  { s with panels := { s.panels with
      fonts := [some font4, none, none, none]
      panel0 := { mapPanel .dirty with config := { role := .notice, enable := true, prefixText := [62] } } } }

theorem witness_PagesAreComposedInTurn_notice :
    (∀ s ∈ [noticeState twoNotices, noticeState State.reset, noticeState cruising],
      s.panels.composing = none ∧ s.panels.panel0.config.enable = true ∧ s.panels.panel0.config.role = .notice ∧
      s.panels.panel0.flipPending = false ∧ s.panels.panel0.composer = some .dirty ∧
      s.panels.fonts.getD s.panels.panel0.config.font none = some font4) ∧
    (noticeState twoNotices).notices.queue ≠ [] ∧ (noticeState cruising).notices.queue = [] ∧
    (noticeState cruising).tracker.journey ≠ none ∧ (noticeState State.reset).tracker.journey = none := by decide

/-- R185, R116: the default page on journey 412 is the prefix and the name of stop 3, in one line. -/
theorem test_default_page : pageRecords .p0 (noticeState cruising) =
    let make := composerRecord .p0 (noticeState cruising).panels.panel0.config 0
    [make (.fillRect 0 0 64 16), make (.text 0 0 0 15 0 false [62, 68]), make .flip] := by decide +kernel

theorem witness_PanelRefreshAndFlip :
    (∀ y ∈ [0, 14, 15], ((refreshing (.visible y) false false).panel .p2).refresh =
      some { position := .visible y, boundaryDue := false }) ∧
    (∀ k ∈ [0, 3], ((refreshing (.blank k) false false).panel .p2).refresh =
      some { position := .blank k, boundaryDue := false }) ∧
    (∀ b, ((refreshing (.blank 0) true b).panel .p2).flipPending = b ∧
      ((refreshing (.blank 0) true b).panel .p2).refresh = some { position := .blank 0, boundaryDue := true }) := by
  decide

theorem witness_PanelRoleEnableGeometryTiming :
    State.reset.mgmt.locked = false ∧ itemNumber [0] = some (bit false) ∧ itemNumber [1] = some (bit true) ∧
    (freePanel.config.enable = true ∧ freePanel.config.role ≠ .off ∧ freePanel.flipPending = false) ∧
    ((refreshing (.visible 0) false true).panel .p2).flipPending = true ∧
    (∀ n ∈ [0, 1, 2, 3], itemNumber [byteOf n] = some n) ∧ freePanel.config.role ≠ .map ∧
    ({} : Panel).config.role = .off ∧ itemNumber [0xFF, 0xFF] = some 65535 ∧ itemNumber [64] = some 64 ∧
    ({ ({} : PanelConfig) with width := 64 } = ({} : PanelConfig)) ∧ ({} : PanelConfig).height ≠ 64 := by decide

theorem witness_DisplayFieldsAreWritten :
    (∀ c ∈ [ComposerState.clean, .dirty, .composing, .flipWait], (mapPanel c).composer = some c) ∧
    freePanel.composer = none ∧ [65, 66].length ≤ 16 ∧ itemNumber [3] = some 3 ∧ itemNumber [4] = some 4 ∧
    itemNumber [1] = some (bit true) ∧ itemNumber [253] = some 253 ∧ itemNumber [255] = some 255 ∧
    (State.reset.panel .p0).refresh = none ∧ freePanel.refresh = some {} ∧
    ({ State.reset.panels with sideLeft := some 3 } : Panels) ≠ State.reset.panels := by decide

/-! ## The management tables -/

theorem witness_TablesAreWritten :
    State.reset.mgmt.locked = false ∧ itemNumber [0] = some (bit false) ∧ itemNumber [1] = some (bit true) ∧
    (∀ i ∈ [0, 7, 8, 19, 20, 21, 23, 24, 31, 47, 63, 95], (byteOf i).toNat = i) ∧
    State.reset.scanner.enable = false ∧ (scanning [0] none).scanner.enable = true ∧
    (∀ n ∈ [0, 1, 2, 3, 7, 8, 12, 255], itemNumber [byteOf n] = some n) ∧
    reserved.resv.seats.length = 96 ∧ (reserved.resv.seats.getD 0 {}).number = 12 ∧
    (∃ x, reserved.resv.seats[0]? = some x ∧ 0 ≠ 1 ∧ x.number = 12) ∧
    (∀ x ∈ reserved.resv.seats, x.number ≠ 13) := by
  refine ⟨by decide, by decide, by decide, by decide, by decide, by decide, by decide, by decide +kernel,
    by decide +kernel, ⟨_, rfl, by decide, rfl⟩, by decide +kernel⟩

/-- A part whose Management Unit has a frame to take. -/
def managed (f : Frame) (q : Port) : State :=
  { withPort q with classifier := { State.reset.classifier with mgmt := [copy f] } }

theorem witness_ItemsAreAppliedAndAnswered :
    (let i : ReadItem := ⟨3, 95, 1⟩
     1 ≤ i.count.toNat ∧ i.count.toNat ≤ 32 ∧ i.first.toNat + i.count.toNat ≤ 96 ∧ i.table.toNat = 3) ∧
    11 < (⟨12, 0, 1⟩ : ReadItem).table.toNat ∧ ¬ 1 ≤ (⟨3, 0, 0⟩ : ReadItem).count.toNat ∧
    itemNumber [0] = some 0 ∧ State.reset.mgmt.locked = false ∧ locked.mgmt.locked = true ∧
    (∀ f ∈ [frame 14 [1, 0, 4, 1], frame 13 [1, 0, 4, 1, 40]], ∀ q ∈ [upA, downA, { upA with ltx := List.replicate 4 f }],
      (managed f q).mgmt.waiting = none ∧ (managed f q).classifier.mgmt = copy f :: [] ∧
      (managed f q).consist.facing = none) ∧
    readItems (frame 14 [1, 0, 4, 1]).payload = some [⟨0, 4, 1⟩] ∧
    writeItems (frame 13 [1, 0, 4, 1, 40]).payload = some [⟨0, 4, [40]⟩] ∧
    readItems [] = none ∧ writeItems [0] = none ∧
    (valid.consist.facing = some .A ∧ PortId.B ≠ (match TrainEnd.end1 with | .end1 => .A | .end2 => opposite .A)) := by
  decide

/-- A settings record: unit ID 1, label 12, both ports PRESENT and DUAL, 40 quanta. -/
def record40 : List Byte :=
  let body : List Byte := [0, 0, 0, 0, 0, 1, 12, 0, 40]
  body ++ beBytes 2 (crc16 body).toNat

/-- A drain that is over. -/
def drained : State :=
  { assembling with mgmt := { loading := false, draining := true, drainTimer := false } }

theorem witness_ResetsAndSettingsLoad :
    (State.reset.mgmt.loading = true ∧ State.reset.link.portA.state = .off ∧ State.reset.link.portB.state = .off) ∧
    (record40.length = 11 ∧ (∃ b ∈ record40, b ≠ 0xFF) ∧ (crc16 (record40.take 9)).toNat = natAt record40 9 2) ∧
    (List.replicate 10 (0 : Byte)).length ≠ 11 ∧ State.reset.reports.cells.length = 16 ∧
    (withPort upA).mgmt.loading = false ∧ draining.mgmt.draining = true ∧ State.reset.mgmt.draining = false ∧
    (drained.mgmt.draining = true ∧ drained.mgmt.drainTimer = false ∧ drained.mgmt.waiting = none ∧
      drained.engine.running = none) := by decide +kernel

def saving (p : SavePhase) : State :=
  { State.reset with mgmt := { loading := false, save := some { record := record40, phase := p } } }

theorem witness_SettingsAreSaved :
    State.reset.mgmt.save = none ∧
    (∀ p ∈ [SavePhase.writeEnable, .write, .pollWait, .status, .readBack],
      (saving p).mgmt.save = some { record := record40, phase := p }) ∧
    ((3 : Byte).getLsbD 0 = true ∧ (2 : Byte).getLsbD 0 = false) ∧ (∃ b ∈ record40, b ≠ 0xFF) ∧
    (∀ b ∈ List.replicate 11 (0xFF : Byte), b = 0xFF) := by decide +kernel

theorem witness_ReportClassesAreRaisedAndCleared :
    dueState.reports.cells.length = 16 ∧ (dueState.report .batchDone).detail ≠ [] ∧
    (dueState.report .batchDone).pending = true ∧ (dueState.report .settings).pending = false ∧
    itemNumber [0, 64] = some 64 ∧ drained.mgmt.drained = true ∧
    ∃ t, exec .softResetEffects drained = .next t := by
  refine ⟨by decide, by decide, by decide, by decide, by decide, by decide, _, rfl⟩

theorem witness_ReportFrameIsBuilt :
    (dueState.reports.cells.length = 16 ∧ dueState.consist.waiting = none ∧ dueState.mgmt.waiting = none) ∧
    ((List.range 16).filter (fun n => (dueState.reports.cells.getD n {}).due) = [6] ∧
      (dueState.reports.cells.getD 6 {}).priority = .normal) ∧
    (List.range 16).filter (fun n => (State.reset.reports.cells.getD n {}).due) = [] ∧
    (let s := { dueState with
       tracker := at412 .atStop 2 48000 .stationary, consist := valid.consist
       link := { portA := upA, portB := { upA with ltx := List.replicate 4 (frame 16 []) } } }
     s.tracker.journey = some journey412 ∧ s.consist.facing = some .A ∧ (s.port .A).isUp = true ∧
      (s.port .A).ltx.length < 4 ∧ (s.port .B).isUp = true ∧ 4 ≤ (s.port .B).ltx.length) ∧
    (dueState.tracker.journey = none ∧ (dueState.port .A).isUp = false ∧ (dueState.port .B).isUp = false) := by
  decide

end Sys2Proof.Tests
end

section
/-! Proofs for chapter 2: which frames match this part (R27). -/

namespace Sys2Proof.Machine

open Sys2Proof

variable {s : State} {f : Frame}

/-! ## The destination match, one rule per destination kind -/

theorem destinationMatches_of_all (hk : f.kind = 0) : destinationMatches s f = true := by
  simp [destinationMatches, hk]

theorem destinationMatches_ordinal_iff (hk : f.kind = 1) :
    destinationMatches s f = true ↔ (s.consist.state = .valid ∨ s.consist.state = .stale) ∧
      1 ≤ f.dest.toNat ∧ f.dest.toNat ≤ 24 ∧ f.dest.toNat = s.consist.ordinal := by
  simp [destinationMatches, hk, and_assoc]

theorem destinationMatches_label_iff (hk : f.kind = 2) :
    destinationMatches s f = true ↔
      s.consist.label ≠ 0 ∧ f.dest.toNat ≤ 99 ∧ f.dest.toNat = s.consist.label := by
  simp [destinationMatches, hk, and_assoc]

theorem destinationMatches_group_iff (hk : f.kind = 3) :
    destinationMatches s f = true ↔
      f.dest.toNat < 64 ∧ s.classifier.groups.getLsbD f.dest.toNat = true := by
  simp [destinationMatches, hk]

theorem destinationMatches_unitId_iff (hk : f.kind = 4) :
    destinationMatches s f = true ↔ f.dest = s.consist.unitId := by
  simp [destinationMatches, hk]

/-- END (code 5) names no part, and the codes 6 and 7 are undefined. -/
theorem destinationMatches_of_end_or_undefined (hk : f.kind = 5 ∨ f.kind = 6 ∨ f.kind = 7) :
    destinationMatches s f = false := by
  obtain hEnd | h6 | h7 := hk
  · simp [destinationMatches, hEnd]
  · simp [destinationMatches, h6]
  · simp [destinationMatches, h7]

end Sys2Proof.Machine

namespace Sys2Proof

open Sys2Proof.Machine

/-- Settles O24: the six conjuncts are the rules of R27's destination kinds, in the order of their codes. -/
theorem destinationMatching : Obligations.DestinationMatching := fun _ _ =>
  ⟨destinationMatches_of_all, destinationMatches_ordinal_iff, destinationMatches_label_iff,
    destinationMatches_group_iff, destinationMatches_unitId_iff, destinationMatches_of_end_or_undefined⟩

end Sys2Proof
end

section
/-! Proofs for chapter 7: the lamp state of a position (R134). -/

namespace Sys2Proof.Machine

open Sys2Proof

variable {c n : Nat} {segs : List Segment} {g : Segment}

/-! ## The segment tests of rows 4 and 5 -/

theorem reservedNow_iff : reservedNow c segs = true ↔ ∃ g ∈ segs, g.fromStop ≤ c ∧ c < g.toStop := by
  simp [reservedNow]

/-- In a list in ascending order of from, the first segment with from above c is the one with the smallest. -/
theorem find?_above_eq_some_iff (hs : segs.Pairwise (fun a b => a.fromStop < b.fromStop)) :
    segs.find? (fun g => decide (c < g.fromStop)) = some g ↔
      g ∈ segs ∧ c < g.fromStop ∧ ∀ h ∈ segs, c < h.fromStop → g.fromStop ≤ h.fromStop := by
  induction segs with
  | nil => simp
  | cons a as ih =>
    obtain ⟨hfirst, hrest⟩ := List.pairwise_cons.mp hs
    by_cases ha : c < a.fromStop
    · rw [List.find?_cons_of_pos (by simpa using ha)]
      constructor
      · rintro ⟨⟩
        refine ⟨List.mem_cons_self, ha, fun h hh _ => ?_⟩
        obtain rfl | hmem := List.mem_cons.mp hh
        · exact le_rfl
        · exact (hfirst h hmem).le
      · rintro ⟨hg, -, hleast⟩
        obtain rfl | hmem := List.mem_cons.mp hg
        · rfl
        · exact absurd (hleast a List.mem_cons_self ha) (hfirst g hmem).not_ge
    · rw [List.find?_cons_of_neg (by simpa using ha), ih hrest]
      have hne : c < g.fromStop → g ≠ a := by rintro hg rfl; exact ha hg
      constructor
      · rintro ⟨hg, hc, hleast⟩
        exact ⟨List.mem_cons_of_mem a hg, hc, List.forall_mem_cons.mpr ⟨fun h => absurd h ha, hleast⟩⟩
      · rintro ⟨hg, hc, hleast⟩
        exact ⟨List.mem_of_ne_of_mem (hne hc) hg, hc, (List.forall_mem_cons.mp hleast).2⟩

theorem reservedSoon_iff (hs : segs.Pairwise (fun a b => a.fromStop < b.fromStop)) :
    reservedSoon c n segs = true ↔ ∃ g ∈ segs, c < g.fromStop ∧
      (∀ h ∈ segs, c < h.fromStop → g.fromStop ≤ h.fromStop) ∧ g.fromStop = n := by
  have hfind : reservedSoon c n segs = true ↔
      ∃ g, segs.find? (fun g => decide (c < g.fromStop)) = some g ∧ g.fromStop = n := by
    unfold reservedSoon
    cases segs.find? (fun g => decide (c < g.fromStop)) <;> simp
  simp only [hfind, find?_above_eq_some_iff hs, and_assoc]

/-! ## The rows of the table -/

section Rows

variable {j : Option ResvJourney} {k : ResvJourney} {x : Seat}

theorem lampOf_of_number_eq_zero (hx : x.number = 0) : lampOf j x = .dark := by
  simp [lampOf, hx]

theorem lampOf_of_outOfService (hx : x.number ≠ 0) (ho : x.service = .outOfService) :
    lampOf j x = .blocked := by
  simp [lampOf, hx, ho]

theorem lampOf_of_unknown_or_closed (hx : x.number ≠ 0) (hi : x.service = .inService)
    (hu : x.data = .unknown ∨ j = none) : lampOf j x = .unknown := by
  obtain hdata | rfl := hu
  · simp [lampOf, hx, hi, hdata]
  · cases hdata : x.data <;> simp [lampOf, hx, hi, hdata]

/-- Rows 4 to 6: what is left to the segment list when the data is known and a journey is open. -/
theorem lampOf_of_known (hx : x.number ≠ 0) (hi : x.service = .inService) (hd : x.data = .known) :
    lampOf (some k) x = if reservedNow k.c x.segments then .reserved
      else if reservedSoon k.c k.n x.segments then .reservedSoon else .free := by
  simp [lampOf, hx, hi, hd]

end Rows

end Sys2Proof.Machine

namespace Sys2Proof

open Sys2Proof.Machine

/-- Settles O42: rows 1 to 3 are the guards of the lamp state, rows 4 to 6 its tests on the segment list. -/
theorem lampStateByFirstRow : Obligations.LampStateByFirstRow := by
  intro j x hs
  refine ⟨lampOf_of_number_eq_zero, lampOf_of_outOfService, lampOf_of_unknown_or_closed, ?_⟩
  rintro k rfl hx hi hd reserved soon
  have hreserved : reservedNow k.c x.segments = true ↔ reserved := reservedNow_iff
  have hsoon : reservedSoon k.c k.n x.segments = true ↔ soon := reservedSoon_iff hs
  rw [lampOf_of_known hx hi hd]
  refine ⟨fun hr => ?_, fun hr hn => ?_, fun hr hn => ?_⟩
  · rw [if_pos (hreserved.mpr hr)]
  · rw [if_neg (mt hreserved.mp hr), if_pos (hsoon.mpr hn)]
  · rw [if_neg (mt hreserved.mp hr), if_neg (mt hsoon.mp hn)]

end Sys2Proof
end

section
/-! Proofs for the whole block: every command answers a next state, and changes only the parts that its chapter lets it
change. -/

namespace Sys2Proof.Machine

-- Proofs are elaborated in turn: side by side they take more memory.
set_option Elab.async false

open Sys2Proof

/-! ## What an outcome is -/

/-- The outcome is a next state, with a property. -/
def Ends (P : State → Prop) (o : Out) : Prop := ∃ t, o = .next t ∧ P t

theorem Ends.next {P : State → Prop} {t : State} (h : P t) : Ends P (.next t) := ⟨t, rfl, h⟩

theorem Ends.of_eq {P : State → Prop} {o : Out} {t : State} (h : Ends P o) (he : o = .next t) : P t := by
  obtain ⟨u, hu, hp⟩ := h
  cases hu.symm.trans he
  exact hp

theorem Ends.ite {P : State → Prop} {c : Prop} [Decidable c] {a b : State} (ha : c → P a) (hb : ¬ c → P b) :
    Ends P (.next (if c then a else b)) := by
  split
  · next h => exact .next (ha h)
  · next h => exact .next (hb h)

variable {ps : List Part} {s : State}

/-- An item command changes what its item changes, and keeps the answer. -/
theorem answered_ends {a : State × ItemResult} (h : UnchangedBut ps s a.1)
    (m : Part.mgmt ∈ ps := by decide) : Ends (UnchangedBut ps s) (answered a) :=
  .next (recorded_keeps h m)

/-! ## Chapter 1 -/

section Link

variable {p : PortId} {l : LaneId}

/-- A command that may replace one port and does nothing else. -/
theorem setPort_or_self {c : Prop} [Decidable c] {x : Port} (m : Part.link ∈ ps := by decide) :
    Ends (UnchangedBut ps s) (.next (if c then s.setPort p x else s)) :=
  .ite (fun _ => setPort_keeps (.refl ps s) m) fun _ => .refl ps s

theorem execPinReset_ends (s : State) :
    Ends (UnchangedBut [.link, .classifier, .consist, .slots, .tracker, .notices,
        .resv, .scanner, .engine, .panels, .mgmt, .reports] s)
      (execPinReset s) := by
  refine .next ⟨?_, ?_, ?_, ?_, ?_, ?_, ?_, ?_, ?_, ?_, ?_, ?_, fun _ => rfl, fun _ => rfl⟩ <;>
    exact fun h => absurd (by decide) h

theorem loadValues_keeps {t : State} {i : UnitId} {n q : Nat} {a b : PortSettings} (h : UnchangedBut ps s t)
    (m0 : Part.link ∈ ps) (m1 : Part.consist ∈ ps) (m2 : Part.mgmt ∈ ps) :
    UnchangedBut ps s (loadValues i n q a b t) :=
  { h with
    link := fun k => absurd m0 k
    consist := fun k => absurd m1 k
    mgmt := fun k => absurd m2 k }

theorem execSettingsLoadEnd_ends (answer : List Byte) (s : State) :
    Ends (UnchangedBut [.link, .consist, .mgmt, .reports] s) (execSettingsLoadEnd answer s) := by
  have h := UnchangedBut.refl [.link, .consist, .mgmt, .reports] s
  unfold execSettingsLoadEnd
  split
  · refine .next (startPort_keeps (startPort_keeps ?_))
    split
    · exact loadValues_keeps h (by decide) (by decide) (by decide)
    · exact raise_keeps (loadValues_keeps h (by decide) (by decide) (by decide))
  · exact .next h

theorem execSeekTimerExpiry_ends (p : PortId) (s : State) :
    Ends (UnchangedBut [.link] s) (execSeekTimerExpiry p s) := setPort_or_self

theorem execSyncTimerExpiry_ends (p : PortId) (s : State) :
    Ends (UnchangedBut [.link] s) (execSyncTimerExpiry p s) := setPort_or_self

theorem execTrainSilenceExpiry_ends (p : PortId) (l : LaneId) (s : State) :
    Ends (UnchangedBut [.link] s) (execTrainSilenceExpiry p l s) := setPort_or_self

theorem execTransmitIdleExpiry_ends (p : PortId) (l : LaneId) (s : State) :
    Ends (UnchangedBut [.link] s) (execTransmitIdleExpiry p l s) := setPort_or_self

theorem execGateTimerExpiry_ends (p : PortId) (s : State) :
    Ends (UnchangedBut [.link] s) (execGateTimerExpiry p s) := setPort_or_self

theorem execPauseResendExpiry_ends (p : PortId) (s : State) :
    Ends (UnchangedBut [.link] s) (execPauseResendExpiry p s) := by
  refine .ite (fun _ => ?_) fun _ => .refl _ s
  split <;> exact setPort_keeps (.refl _ s)

theorem execTransmitDone_ends (p : PortId) (l : LaneId) (s : State) :
    Ends (UnchangedBut [.link] s) (execTransmitDone p l s) := by
  unfold execTransmitDone
  dsimp only
  split
  · exact .next (.refl _ s)
  · exact .next (setPort_keeps (.refl _ s))

theorem execReceiveTrain_ends (p : PortId) (l : LaneId) (later : Bool) (bytes : List Byte) (s : State) :
    Ends (UnchangedBut [.link, .consist, .reports] s) (execReceiveTrain p l later bytes s) := by
  have h := UnchangedBut.refl [.link, .consist, .reports] s
  unfold execReceiveTrain
  split
  · exact .next h
  · split
    · exact .next (receiveBad_keeps h)
    · exact .ite (fun _ => actTrain_keeps h) fun _ => h

theorem execReceiveBeacon_ends (p : PortId) (l : LaneId) (later : Bool) (bytes : List Byte) (s : State) :
    Ends (UnchangedBut [.link, .reports] s) (execReceiveBeacon p l later bytes s) := by
  have h := UnchangedBut.refl [.link, .reports] s
  unfold execReceiveBeacon
  split
  · exact .next h
  · split
    · exact .next (receiveBad_keeps h)
    · exact .ite (fun _ => afterValid_keeps h) fun _ => h

theorem execReceivePause_ends (p : PortId) (l : LaneId) (later : Bool) (bytes : List Byte) (s : State) :
    Ends (UnchangedBut [.link, .reports] s) (execReceivePause p l later bytes s) := by
  have h := UnchangedBut.refl [.link, .reports] s
  unfold execReceivePause
  split
  · exact .next h
  · split
    · exact .next (receiveBad_keeps h)
    · exact .ite (fun _ => afterValid_keeps (setPort_keeps h)) fun _ => h

theorem execReceiveFrame_ends (p : PortId) (l : LaneId) (later : Bool) (bytes : List Byte) (s : State) :
    Ends (UnchangedBut [.link, .reports] s) (execReceiveFrame p l later bytes s) := by
  have h := UnchangedBut.refl [.link, .reports] s
  unfold execReceiveFrame
  split
  · exact .next h
  · split
    · exact .next (receiveBad_keeps h)
    · exact .ite (fun _ => acceptFrame_keeps h) fun _ => h

theorem execWindowExpiry_ends (p : PortId) (s : State) :
    Ends (UnchangedBut [.link, .consist, .reports] s) (execWindowExpiry p s) := by
  have h := UnchangedBut.refl [.link, .consist, .reports] s
  refine .ite (fun _ => ?_) fun _ => h
  split
  · exact endWindowEarly_keeps h
  · split
    · exact enterUp_keeps h
    · split
      · exact enterUp_keeps h
      · split
        · exact setPort_keeps h
        · exact enterDown_keeps h

theorem execReceiveSilenceExpiry_ends (p : PortId) (l : LaneId) (s : State) :
    Ends (UnchangedBut [.link, .consist, .reports] s) (execReceiveSilenceExpiry p l s) := by
  have h := UnchangedBut.refl [.link, .consist, .reports] s
  refine .ite (fun _ => ?_) fun _ => h
  split
  · exact reportPort_keeps (arbitrate_keeps (releaseHeld_keeps (setPort_keeps h)))
  · exact enterDown_keeps (leaveUp_keeps h)

end Link

/-! ## Chapters 2 and 3 -/

theorem execClassifyFrame_ends (p : PortId) (s : State) :
    Ends (UnchangedBut [.link, .classifier, .engine, .panels, .notices, .mgmt, .reports] s)
      (execClassifyFrame p s) := by
  have h := UnchangedBut.refl [.link, .classifier, .engine, .panels, .notices, .mgmt, .reports] s
  unfold execClassifyFrame
  split
  · exact .next h
  · next f rest _ =>
    have h1 := takeRxq_keeps (p := p) (fs := rest) h
    have h2 : UnchangedBut [.link, .classifier, .engine, .panels, .notices, .mgmt, .reports] s
        (if (classify (takeRxq p rest s) f).consume
          then consumeCopy { frame := f, port := p } (takeRxq p rest s) else takeRxq p rest s) := by
      split
      · exact consumeCopy_keeps h1
      · exact h1
    exact .ite (fun _ => forwardCopy_keeps h2) fun _ => h2

theorem execTakeRoll_ends (s : State) :
    Ends (UnchangedBut [.link, .classifier, .consist, .resv, .panels, .reports] s) (execTakeRoll s) := by
  have h := UnchangedBut.refl [.link, .classifier, .consist, .resv, .panels, .reports] s
  unfold execTakeRoll
  split
  · exact .next h
  · dsimp only
    split
    · exact .next (setConsistIntake_keeps h)
    · split
      · exact .next (setConsistIntake_keeps h)
      · exact .next (newRoll_keeps (setConsistIntake_keeps h))

theorem execTakeRollReturn_ends (s : State) :
    Ends (UnchangedBut [.link, .classifier, .consist, .resv, .panels, .reports] s) (execTakeRollReturn s) := by
  have h := UnchangedBut.refl [.link, .classifier, .consist, .resv, .panels, .reports] s
  unfold execTakeRollReturn
  split
  · exact .next h
  · dsimp only
    split
    · exact .next (setConsistIntake_keeps h)
    · split
      · exact .next (returnOnward_keeps (setConsistIntake_keeps h))
      · exact .next (consistChanged_keeps (checkRoll_keeps (returnOnward_keeps (setConsistIntake_keeps h))))

theorem execRollReturnRetry_ends (s : State) :
    Ends (UnchangedBut [.link, .consist] s) (execRollReturnRetry s) := by
  unfold execRollReturnRetry
  split
  · exact .next (.refl _ s)
  · exact .next (offerReturn_keeps (.refl _ s))

theorem execRollTimeout_ends (s : State) : Ends (UnchangedBut [.consist, .reports] s) (execRollTimeout s) := by
  unfold execRollTimeout
  split
  · exact .next (.refl _ s)
  · exact .next (consistChanged_keeps (failRoll_keeps (.refl _ s)))

theorem execTakeLabels_ends (s : State) :
    Ends (UnchangedBut [.classifier, .consist, .resv, .reports] s) (execTakeLabels s) := by
  have h := UnchangedBut.refl [.classifier, .consist, .resv, .reports] s
  unfold execTakeLabels
  split
  · exact .next h
  · dsimp only
    split
    · exact .next (consistChanged_keeps (setLabel_keeps (consist_keeps (setConsistIntake_keeps h))))
    · exact .next (setConsistIntake_keeps h)

/-! ## Chapter 4 -/

theorem execBatchSingle_ends (s : State) :
    Ends (UnchangedBut [.classifier, .slots, .tracker, .notices,
        .resv, .engine, .panels, .mgmt, .reports, .freeCount] s)
      (execBatchSingle s) := by
  have h := UnchangedBut.refl [.classifier, .slots, .tracker, .notices, .resv,
    .engine, .panels, .mgmt, .reports, .freeCount] s
  unfold execBatchSingle
  split
  · exact .next h
  · dsimp only
    split
    · exact .next (refusePart_keeps (setBatchIntake_keeps h))
    · split
      · exact .next (refusePart_keeps (setBatchIntake_keeps h))
      · next hc => exact .next (noteNoBatch_keeps (handover_keeps (claimSlot_keeps (setBatchIntake_keeps h) hc)))

theorem execBatchStart_ends (s : State) :
    Ends (UnchangedBut [.classifier, .slots, .reports] s) (execBatchStart s) := by
  have h := UnchangedBut.refl [.classifier, .slots, .reports] s
  unfold execBatchStart
  split
  · exact .next h
  · dsimp only
    split
    · exact .next (refusePart_keeps (setBatchIntake_keeps h))
    · split
      · exact .next (refusePart_keeps (setBatchIntake_keeps h))
      · split
        · exact .next (refusePart_keeps (setBatchIntake_keeps h))
        · next hc => exact .next (setSlot_keeps (claimSlot_keeps (setBatchIntake_keeps h) hc))

theorem execBatchMiddle_ends (s : State) :
    Ends (UnchangedBut [.classifier, .slots, .mgmt, .reports] s) (execBatchMiddle s) := by
  have h := UnchangedBut.refl [.classifier, .slots, .mgmt, .reports] s
  unfold execBatchMiddle
  split
  · exact .next h
  · dsimp only
    split
    · exact .next (setBatchIntake_keeps h)
    · split
      · exact .next (setBatchIntake_keeps h)
      · split
        · exact .next (abandonBatch_keeps (setBatchIntake_keeps h))
        · exact .next (setSlot_keeps (setBatchIntake_keeps h))

theorem execBatchEnd_ends (s : State) :
    Ends (UnchangedBut [.classifier, .slots, .tracker, .notices,
        .resv, .engine, .panels, .mgmt, .reports, .freeCount] s)
      (execBatchEnd s) := by
  have h := UnchangedBut.refl [.classifier, .slots, .tracker, .notices, .resv,
    .engine, .panels, .mgmt, .reports, .freeCount] s
  unfold execBatchEnd
  split
  · exact .next h
  · dsimp only
    split
    · exact .next (setBatchIntake_keeps h)
    · split
      · exact .next (setBatchIntake_keeps h)
      · split
        · exact .next (abandonBatch_keeps (setBatchIntake_keeps h))
        · exact .next (noteNoBatch_keeps (handover_keeps (setSlot_keeps (setBatchIntake_keeps h))))

theorem execBatchTimeout_ends (i : SlotId) (s : State) :
    Ends (UnchangedBut [.slots, .mgmt, .reports] s) (execBatchTimeout i s) := by
  unfold execBatchTimeout
  split
  · exact .next (.refl _ s)
  · exact .next (abandonBatch_keeps (.refl _ s))

/-! ## Chapters 5 and 6 -/

theorem classifier_tracker_keeps {t : State} {x : Classifier} {y : Tracker} (h : UnchangedBut ps s t)
    (m : Part.classifier ∈ ps) (n : Part.tracker ∈ ps) :
    UnchangedBut ps s { t with classifier := x, tracker := y } :=
  { h with classifier := fun k => absurd m k, tracker := fun k => absurd n k }

theorem execTakePosition_ends (s : State) :
    Ends (UnchangedBut [.classifier, .tracker, .notices, .resv, .panels, .reports] s) (execTakePosition s) := by
  have h := UnchangedBut.refl [.classifier, .tracker, .notices, .resv, .panels, .reports] s
  unfold execTakePosition
  split
  · exact .next h
  · dsimp only
    split
    · exact .next (classifier_keeps h)
    · split
      · exact .next (handOn_keeps (classifier_tracker_keeps h (by decide) (by decide)))
      · exact .next (classifier_keeps h)

theorem execTick_ends (s : State) :
    Ends (UnchangedBut [.tracker, .notices, .resv, .panels, .reports] s) (execTick s) := by
  have h := UnchangedBut.refl [.tracker, .notices, .resv, .panels, .reports] s
  unfold execTick
  split
  · exact .next h
  · dsimp only
    split
    · exact .next (handOn_keeps (tracker_keeps h))
    · exact .next h

theorem execStalenessExpiry_ends (s : State) :
    Ends (UnchangedBut [.tracker, .panels, .reports] s) (execStalenessExpiry s) := by
  unfold execStalenessExpiry
  split
  · exact .next (.refl _ s)
  · exact .next (raise_keeps (markHandoff_keeps (tracker_keeps (.refl _ s))))

theorem execDebounceExpiry_ends (d : DoorId) (s : State) :
    Ends (UnchangedBut [.tracker, .notices, .resv, .panels, .reports] s) (execDebounceExpiry d s) := by
  unfold execDebounceExpiry
  dsimp only
  split
  · exact .ite (fun _ => judgeEdge_keeps (tracker_keeps (.refl _ s))) fun _ => tracker_keeps (.refl _ s)
  · exact .next (.refl _ s)

theorem execNoticeJourneyReset_ends (s : State) :
    Ends (UnchangedBut [.notices, .panels] s) (execNoticeJourneyReset s) := by
  unfold execNoticeJourneyReset
  split
  · exact .next (actJourneyReset_keeps (setFromTracker_keeps (.refl _ s)))
  · exact .next (.refl _ s)

theorem execNoticeHandoff_ends (s : State) :
    Ends (UnchangedBut [.notices, .panels, .reports] s) (execNoticeHandoff s) := by
  unfold execNoticeHandoff
  split
  · exact .next (actHandoff_keeps (setFromTracker_keeps (.refl _ s)))
  · exact .next (.refl _ s)

theorem execTakeNotice_ends (s : State) :
    Ends (UnchangedBut [.classifier, .notices, .panels, .reports] s) (execTakeNotice s) := by
  have h := UnchangedBut.refl [.classifier, .notices, .panels, .reports] s
  unfold execTakeNotice
  split
  · exact .next h
  · dsimp only
    split
    · exact .next (classifier_keeps h)
    · exact .next (offerNotice_keeps (classifier_keeps h))

theorem execDwellExpiry_ends (s : State) : Ends (UnchangedBut [.notices, .panels] s) (execDwellExpiry s) := by
  unfold execDwellExpiry
  split
  · exact .next (.refl _ s)
  · exact .next (setQueue_keeps (.refl _ s))

theorem execNoticeFlipReport_ends (s : State) :
    Ends (UnchangedBut [.notices] s) (execNoticeFlipReport s) := by
  have h := UnchangedBut.refl [.notices] s
  unfold execNoticeFlipReport
  split
  · exact .ite (fun _ => notices_keeps (setFromPanels_keeps h)) fun _ => setFromPanels_keeps h
  · exact .next h

theorem execNoticeEnableChange_ends (s : State) :
    Ends (UnchangedBut [.notices] s) (execNoticeEnableChange s) := by
  have h := UnchangedBut.refl [.notices] s
  unfold execNoticeEnableChange
  split
  · exact .ite (fun _ => notices_keeps (setFromPanels_keeps h)) fun _ => setFromPanels_keeps h
  · exact .next h

/-! ## Chapters 7 and 8 -/

theorem execFlush_ends (s : State) : Ends (UnchangedBut [.resv] s) (execFlush s) := by
  have h := UnchangedBut.refl [.resv] s
  unfold execFlush
  split
  · exact .next (resv_keeps h)
  · exact .next (resv_keeps h)
  · exact .next (resv_keeps h)
  · exact .next h

theorem execPurge_ends (s : State) : Ends (UnchangedBut [.resv] s) (execPurge s) := by
  unfold execPurge
  split
  · exact .next (resv_keeps (.refl _ s))
  · exact .next (.refl _ s)

theorem execLampRowPeriodEnd_ends (s : State) :
    Ends (UnchangedBut [.scanner, .reports] s) (execLampRowPeriodEnd s) := by
  have h := UnchangedBut.refl [.scanner, .reports] s
  unfold execLampRowPeriodEnd
  split
  · exact .next h
  · split
    · exact .next (scanner_keeps h)
    · exact .next (scanner_keeps (judgeFrame_keeps h))

theorem execSenseSample_ends (red green : BitVec 12) (s : State) :
    Ends (UnchangedBut [.scanner] s) (execSenseSample red green s) := by
  have h := UnchangedBut.refl [.scanner] s
  unfold execSenseSample
  split
  · exact .next h
  · split
    · exact .next h
    · exact .next (scanner_keeps h)

/-! ## Chapters 9 and 10 -/

theorem execDrawRecordEnd_ends (s : State) :
    Ends (UnchangedBut [.engine, .panels, .notices, .mgmt, .reports] s) (execDrawRecordEnd s) := by
  unfold execDrawRecordEnd
  split
  · exact .next (.refl _ s)
  · exact .next (endRecord_keeps (workOn_keeps (.refl _ s)))

theorem execDrawRecordSuspend_ends (n : Nat) (s : State) :
    Ends (UnchangedBut [.engine, .panels, .notices, .mgmt, .reports] s) (execDrawRecordSuspend n s) := by
  have h := UnchangedBut.refl [.engine, .panels, .notices, .mgmt, .reports] s
  unfold execDrawRecordSuspend
  split
  · exact .next h
  · split
    · dsimp only
      split
      · exact .next (endRecord_keeps (workOn_keeps h))
      · exact .next (runEngine_keeps (engine_keeps (workOn_keeps h)))
    · exact .next h

theorem execComposeTurn_ends (s : State) :
    Ends (UnchangedBut [.engine, .panels, .notices, .mgmt, .reports] s) (execComposeTurn s) := by
  unfold execComposeTurn
  split
  · exact .next (.refl _ s)
  · exact .next (runEngine_keeps (placeRecords_keeps (beginPage_keeps (.refl _ s))))

theorem execComposerPlaceRecord_ends (s : State) :
    Ends (UnchangedBut [.engine, .panels, .notices, .mgmt, .reports] s) (execComposerPlaceRecord s) := by
  unfold execComposerPlaceRecord
  split
  · exact .next (runEngine_keeps (placeRecords_keeps (.refl _ s)))
  · exact .next (.refl _ s)

theorem execPanelRowEnd_ends (p : PanelId) (s : State) :
    Ends (UnchangedBut [.panels] s) (execPanelRowEnd p s) := by
  have h := UnchangedBut.refl [.panels] s
  unfold execPanelRowEnd
  split
  · exact .next h
  · split
    · exact .next h
    · exact .next (setPanel_keeps h)

theorem execFrameBoundary_ends (p : PanelId) (s : State) :
    Ends (UnchangedBut [.engine, .panels, .notices, .mgmt, .reports] s) (execFrameBoundary p s) := by
  have h := UnchangedBut.refl [.engine, .panels, .notices, .mgmt, .reports] s
  unfold execFrameBoundary
  split
  · exact .next h
  · split
    · exact .ite (fun _ => runEngine_keeps (completeFlip_keeps (setPanel_keeps h))) fun _ => setPanel_keeps h
    · exact .next h

/-! ## Chapter 11 -/

/-- Taking the head of the Management Unit's intake changes the intake alone. -/
theorem mgmtHead_keeps {cls : Nat} {c : Copy} {t : State} (h : mgmtHead cls s = some (c, t))
    (m : Part.classifier ∈ ps := by decide) : UnchangedBut ps s t := by
  unfold mgmtHead at h
  split at h
  · split at h
    · cases h
      exact classifier_keeps (.refl ps s)
    · cases h
  · cases h

theorem execMgmtReadItem_ends (job : ReadJob) (s : State) :
    Ends (UnchangedBut [.link, .classifier, .mgmt] s) (execMgmtReadItem job s) := by
  unfold execMgmtReadItem
  split
  · exact .next (mgmt_keeps (.refl _ s))
  · split
    · exact .next (.refl _ s)
    · next hh =>
      have h := mgmtHead_keeps (ps := [.link, .classifier, .mgmt]) hh
      split
      · split
        · exact .next h
        · exact .next (reply_keeps h)
      · exact .next h

theorem execMgmtWriteItem_ends (job : WriteJob) (s : State) :
    Ends (UnchangedBut [.link, .classifier, .tracker, .notices,
        .resv, .scanner, .engine, .panels, .mgmt, .reports, .freeCount] s)
      (execMgmtWriteItem job s) := by
  unfold execMgmtWriteItem
  split
  · exact answered_ends (applyWrite_keeps (.refl _ s))
  · split
    · exact .next (.refl _ s)
    · next hh =>
      have h := mgmtHead_keeps (ps := [.link, .classifier, .tracker, .notices,
          .resv, .scanner, .engine, .panels, .mgmt, .reports, .freeCount]) hh
      split
      · split
        · exact .next h
        · exact .next (reply_keeps (applyWrites_keeps h))
      · exact .next h

theorem execSoftResetEffects_ends (s : State) :
    Ends (UnchangedBut [.link, .classifier, .consist, .slots, .tracker, .notices,
        .resv, .scanner, .engine, .panels, .mgmt, .reports, .freeCount] s)
      (execSoftResetEffects s) := by
  have h := UnchangedBut.refl [.link, .classifier, .consist, .slots, .tracker, .notices, .resv,
    .scanner, .engine, .panels, .mgmt, .reports, .freeCount] s
  refine .ite (fun _ => ?_) fun _ => h
  have hm := meetRunning_keeps h
  have ha : UnchangedBut [.link, .classifier, .consist, .slots, .tracker, .notices,
      .resv, .scanner, .engine, .panels, .mgmt, .reports, .freeCount] s (applySoftReset (meetRunning s)) := by
    refine ⟨?_, ?_, ?_, ?_, ?_, ?_, ?_, ?_, ?_, ?_, ?_, ?_, ?_, fun n => hm.pending n⟩ <;>
      exact fun n => absurd (by decide) n
  unfold reofferReply
  split
  · exact ha
  · exact offerReply_keeps ha

theorem setSave_ends {v : Save} {b : Option Transaction} (m : Part.mgmt ∈ ps := by decide) :
    Ends (UnchangedBut ps s) (.next (setSave v b s)) := .next (setSave_keeps (.refl ps s))

theorem execSettingsTransactionDone_ends (data : List Byte) (s : State) :
    Ends (UnchangedBut [.mgmt, .reports] s) (execSettingsTransactionDone data s) := by
  unfold execSettingsTransactionDone
  split
  · exact .next (.refl _ s)
  · split
    · exact setSave_ends
    · exact setSave_ends
    · exact .next (.refl _ s)
    · split <;> exact setSave_ends
    · exact .next (endSave_keeps (.refl _ s))

theorem execSaveStatusPoll_ends (s : State) :
    Ends (UnchangedBut [.mgmt] s) (execSaveStatusPoll s) := by
  unfold execSaveStatusPoll
  split
  · exact .next (.refl _ s)
  · split
    · exact setSave_ends
    · exact .next (.refl _ s)

theorem execSaveTimeout_ends (s : State) : Ends (UnchangedBut [.mgmt, .reports] s) (execSaveTimeout s) := by
  unfold execSaveTimeout
  split
  · exact .next (.refl _ s)
  · split
    · exact .next (endSave_keeps (.refl _ s))
    · exact .next (endSave_keeps (.refl _ s))
    · exact .next (.refl _ s)

theorem execReplyRetry_ends (s : State) : Ends (UnchangedBut [.link, .mgmt] s) (execReplyRetry s) := by
  unfold execReplyRetry
  split
  · exact .next (.refl _ s)
  · exact .ite (fun _ => .refl _ s) fun _ => offerReply_keeps (.refl _ s)

theorem execReportBuild_ends (s : State) : Ends (UnchangedBut [.link, .reports] s) (execReportBuild s) := by
  have h := UnchangedBut.refl [.link, .reports] s
  unfold execReportBuild
  split
  · exact .next h
  · dsimp only
    split
    · split
      · exact .next (placeLtx_keeps (reports_keeps h))
      · exact .next h
    · split
      · exact .next (placeLtx_keeps (placeLtx_keeps (reports_keeps h)))
      · exact .next h

/-! ## Every command -/

/-- Every command answers a next state, in which the parts that it does not list are as they were. -/
theorem exec_ends (c : Instr) (s : State) : Ends (UnchangedBut (touched c) s) (exec c s) := by
  cases c with
  | pinReset => exact execPinReset_ends s
  | settingsLoadEnd answer => exact execSettingsLoadEnd_ends answer s
  | seekTimerExpiry p => exact execSeekTimerExpiry_ends p s
  | syncTimerExpiry p => exact execSyncTimerExpiry_ends p s
  | receiveTrain p l later bytes => exact execReceiveTrain_ends p l later bytes s
  | receiveBeacon p l later bytes => exact execReceiveBeacon_ends p l later bytes s
  | receivePause p l later bytes => exact execReceivePause_ends p l later bytes s
  | receiveFrame p l later bytes => exact execReceiveFrame_ends p l later bytes s
  | windowExpiry p => exact execWindowExpiry_ends p s
  | trainSilenceExpiry p l => exact execTrainSilenceExpiry_ends p l s
  | transmitIdleExpiry p l => exact execTransmitIdleExpiry_ends p l s
  | receiveSilenceExpiry p l => exact execReceiveSilenceExpiry_ends p l s
  | pauseResendExpiry p => exact execPauseResendExpiry_ends p s
  | gateTimerExpiry p => exact execGateTimerExpiry_ends p s
  | transmitDone p l => exact execTransmitDone_ends p l s
  | classifyFrame p => exact execClassifyFrame_ends p s
  | takeRoll => exact execTakeRoll_ends s
  | takeRollReturn => exact execTakeRollReturn_ends s
  | rollReturnRetry => exact execRollReturnRetry_ends s
  | rollTimeout => exact execRollTimeout_ends s
  | takeLabels => exact execTakeLabels_ends s
  | batchSingle => exact execBatchSingle_ends s
  | batchStart => exact execBatchStart_ends s
  | batchMiddle => exact execBatchMiddle_ends s
  | batchEnd => exact execBatchEnd_ends s
  | batchTimeout slot => exact execBatchTimeout_ends slot s
  | takePosition => exact execTakePosition_ends s
  | tick => exact execTick_ends s
  | stalenessExpiry => exact execStalenessExpiry_ends s
  | doorLevelChange d level => exact Ends.next (P := UnchangedBut [.tracker] s) (tracker_keeps (.refl _ s))
  | debounceExpiry d => exact execDebounceExpiry_ends d s
  | noticeJourneyReset => exact execNoticeJourneyReset_ends s
  | noticeHandoff => exact execNoticeHandoff_ends s
  | takeNotice => exact execTakeNotice_ends s
  | dwellExpiry => exact execDwellExpiry_ends s
  | noticeFlipReport => exact execNoticeFlipReport_ends s
  | noticeEnableChange => exact execNoticeEnableChange_ends s
  | flush => exact execFlush_ends s
  | purge => exact execPurge_ends s
  | lampRowPeriodEnd => exact execLampRowPeriodEnd_ends s
  | senseSample red green => exact execSenseSample_ends red green s
  | drawRecordEnd => exact execDrawRecordEnd_ends s
  | drawRecordSuspend units => exact execDrawRecordSuspend_ends units s
  | composeTurn => exact execComposeTurn_ends s
  | composerPlaceRecord => exact execComposerPlaceRecord_ends s
  | panelRowEnd panel => exact execPanelRowEnd_ends panel s
  | frameBoundary panel => exact execFrameBoundary_ends panel s
  | mgmtReadItem job => exact execMgmtReadItem_ends job s
  | mgmtWriteItem job => exact execMgmtWriteItem_ends job s
  | portSettingsWrite index value =>
    exact answered_ends (ps := [.link, .mgmt, .reports]) (writePortSettings_keeps (.refl _ s))
  | scannerEnableWrite value =>
    exact answered_ends (ps := [.scanner, .mgmt]) (writeScannerEnable_keeps (.refl _ s))
  | classifyWrite index value =>
    exact answered_ends (ps := [.classifier, .mgmt]) (writeClassify_keeps (.refl _ s))
  | groupsWrite index value =>
    exact answered_ends (ps := [.classifier, .mgmt]) (writeGroups_keeps (.refl _ s))
  | seatmapWrite index value =>
    exact answered_ends (ps := [.resv, .mgmt]) (writeSeatmap_keeps (.refl _ s))
  | panelRoleWrite panel value =>
    exact answered_ends (ps := [.engine, .panels, .notices, .mgmt, .reports]) (writePanelRole_keeps (.refl _ s))
  | panelEnableWrite panel value =>
    exact answered_ends (ps := [.engine, .panels, .notices, .mgmt, .reports]) (writePanelEnable_keeps (.refl _ s))
  | panelGeometryWrite panel field value =>
    exact answered_ends (ps := [.engine, .panels, .mgmt, .freeCount]) (writePanelGeometry_keeps (.refl _ s))
  | panelTimingWrite panel field value =>
    exact answered_ends (ps := [.panels, .mgmt]) (writePanelTiming_keeps (.refl _ s))
  | panelFieldWrite panel field value =>
    exact answered_ends (ps := [.panels, .mgmt, .freeCount]) (writePanelField_keeps (.refl _ s))
  | palettesWrite index value =>
    exact answered_ends (ps := [.panels, .mgmt, .freeCount]) (writePalettes_keeps (.refl _ s))
  | linesWrite index value =>
    exact answered_ends (ps := [.scanner, .mgmt]) (writeLines_keeps (.refl _ s))
  | doorsWrite index value =>
    exact answered_ends (ps := [.tracker, .mgmt]) (writeDoors_keeps (.refl _ s))
  | reportsWrite index value =>
    exact answered_ends (ps := [.mgmt, .reports]) (writeReports_keeps (.refl _ s))
  | sideglyphsWrite index value =>
    exact answered_ends (ps := [.panels, .mgmt]) (writeSideglyphs_keeps (.refl _ s))
  | serviceLock =>
    exact answered_ends (ps := [.mgmt]) (mgmt_keeps (.refl _ s))
  | softReset =>
    exact answered_ends (ps := [.mgmt]) (softReset_keeps (.refl _ s))
  | drainTimeout => exact .next (mgmt_keeps (.refl [.mgmt] s))
  | softResetEffects => exact execSoftResetEffects_ends s
  | saveSettings =>
    exact answered_ends (ps := [.mgmt]) (saveSettings_keeps (.refl _ s))
  | settingsTransactionDone data => exact execSettingsTransactionDone_ends data s
  | saveStatusPoll => exact execSaveStatusPoll_ends s
  | saveTimeout => exact execSaveTimeout_ends s
  | clearReports value =>
    exact answered_ends (ps := [.mgmt, .reports]) (clearReports_keeps (.refl _ s))
  | clearLampFaults =>
    exact answered_ends (ps := [.scanner, .mgmt]) (scanner_keeps (.refl _ s))
  | abortDraw =>
    exact answered_ends (ps := [.engine, .panels, .notices, .mgmt, .reports, .freeCount]) (abortDraw_keeps (.refl _ s))
  | replyRetry => exact execReplyRetry_ends s
  | reportBuild => exact execReportBuild_ends s

/-- No command touches the queue of the commands that wait. -/
theorem touched_contains_pending (c : Instr) : (touched c).contains .pending = false := by cases c <;> rfl

theorem pending_not_touched (c : Instr) : Part.pending ∉ touched c := fun h =>
  Bool.false_ne_true ((touched_contains_pending c).symm.trans (List.contains_iff_mem.2 h))

end Sys2Proof.Machine

namespace Sys2Proof

open Sys2Proof.Machine

/-- Settles O3. -/
theorem commandsTouchOnlyTheirParts : Obligations.CommandsTouchOnlyTheirParts :=
  fun c s _ => (exec_ends c s).of_eq

/-- Settles O2: the queue of the commands that wait is a part that no command touches. -/
theorem everyCommandCompletes : Obligations.EveryCommandCompletes := fun c s =>
  let ⟨t, ht, hkeeps⟩ := exec_ends c s
  ⟨t, ht, hkeeps.pending (pending_not_touched c)⟩

/-- Settles O1. -/
theorem stepRunsFrontCommand : Obligations.StepRunsFrontCommand := fun c rest s => ⟨step_cons c rest s, rfl⟩

end Sys2Proof
end

section
/-! Proofs for the laws of the blocks: how a law is carried over a step, and which parts an item write reaches. -/

namespace Sys2Proof.Machine

open Sys2Proof

/-! ## Which commands touch a block -/

/-- The commands of the link ports. -/
inductive AtLink : Instr → Prop
  | pinReset : AtLink .pinReset
  | settingsLoadEnd (answer) : AtLink (.settingsLoadEnd answer)
  | seekTimerExpiry (p) : AtLink (.seekTimerExpiry p)
  | syncTimerExpiry (p) : AtLink (.syncTimerExpiry p)
  | receiveTrain (p l later bytes) : AtLink (.receiveTrain p l later bytes)
  | receiveBeacon (p l later bytes) : AtLink (.receiveBeacon p l later bytes)
  | receivePause (p l later bytes) : AtLink (.receivePause p l later bytes)
  | receiveFrame (p l later bytes) : AtLink (.receiveFrame p l later bytes)
  | windowExpiry (p) : AtLink (.windowExpiry p)
  | trainSilenceExpiry (p l) : AtLink (.trainSilenceExpiry p l)
  | transmitIdleExpiry (p l) : AtLink (.transmitIdleExpiry p l)
  | receiveSilenceExpiry (p l) : AtLink (.receiveSilenceExpiry p l)
  | pauseResendExpiry (p) : AtLink (.pauseResendExpiry p)
  | gateTimerExpiry (p) : AtLink (.gateTimerExpiry p)
  | transmitDone (p l) : AtLink (.transmitDone p l)
  | classifyFrame (p) : AtLink (.classifyFrame p)
  | takeRoll : AtLink .takeRoll
  | takeRollReturn : AtLink .takeRollReturn
  | rollReturnRetry : AtLink .rollReturnRetry
  | mgmtReadItem (job) : AtLink (.mgmtReadItem job)
  | mgmtWriteItem (job) : AtLink (.mgmtWriteItem job)
  | portSettingsWrite (index value) : AtLink (.portSettingsWrite index value)
  | softResetEffects : AtLink .softResetEffects
  | replyRetry : AtLink .replyRetry
  | reportBuild : AtLink .reportBuild

theorem atLink_of_touched {c : Instr} (h : (touched c).contains .link = true) : AtLink c := by
  cases c <;> first | exact Bool.noConfusion h | constructor

/-- The commands of the classifier and its intakes. -/
inductive AtClassifier : Instr → Prop
  | pinReset : AtClassifier .pinReset
  | classifyFrame (p) : AtClassifier (.classifyFrame p)
  | takeRoll : AtClassifier .takeRoll
  | takeRollReturn : AtClassifier .takeRollReturn
  | takeLabels : AtClassifier .takeLabels
  | batchSingle : AtClassifier .batchSingle
  | batchStart : AtClassifier .batchStart
  | batchMiddle : AtClassifier .batchMiddle
  | batchEnd : AtClassifier .batchEnd
  | takePosition : AtClassifier .takePosition
  | takeNotice : AtClassifier .takeNotice
  | mgmtReadItem (job) : AtClassifier (.mgmtReadItem job)
  | mgmtWriteItem (job) : AtClassifier (.mgmtWriteItem job)
  | classifyWrite (index value) : AtClassifier (.classifyWrite index value)
  | groupsWrite (index value) : AtClassifier (.groupsWrite index value)
  | softResetEffects : AtClassifier .softResetEffects

theorem atClassifier_of_touched {c : Instr} (h : (touched c).contains .classifier = true) : AtClassifier c := by
  cases c <;> first | exact Bool.noConfusion h | constructor

/-- The commands of the Consist Manager. -/
inductive AtConsist : Instr → Prop
  | pinReset : AtConsist .pinReset
  | settingsLoadEnd (answer) : AtConsist (.settingsLoadEnd answer)
  | receiveTrain (p l later bytes) : AtConsist (.receiveTrain p l later bytes)
  | windowExpiry (p) : AtConsist (.windowExpiry p)
  | receiveSilenceExpiry (p l) : AtConsist (.receiveSilenceExpiry p l)
  | takeRoll : AtConsist .takeRoll
  | takeRollReturn : AtConsist .takeRollReturn
  | rollReturnRetry : AtConsist .rollReturnRetry
  | rollTimeout : AtConsist .rollTimeout
  | takeLabels : AtConsist .takeLabels
  | softResetEffects : AtConsist .softResetEffects

theorem atConsist_of_touched {c : Instr} (h : (touched c).contains .consist = true) : AtConsist c := by
  cases c <;> first | exact Bool.noConfusion h | constructor

/-- The commands of the batch slots. -/
inductive AtSlots : Instr → Prop
  | pinReset : AtSlots .pinReset
  | batchSingle : AtSlots .batchSingle
  | batchStart : AtSlots .batchStart
  | batchMiddle : AtSlots .batchMiddle
  | batchEnd : AtSlots .batchEnd
  | batchTimeout (slot) : AtSlots (.batchTimeout slot)
  | softResetEffects : AtSlots .softResetEffects

theorem atSlots_of_touched {c : Instr} (h : (touched c).contains .slots = true) : AtSlots c := by
  cases c <;> first | exact Bool.noConfusion h | constructor

/-- The commands of the Journey Tracker. -/
inductive AtTracker : Instr → Prop
  | pinReset : AtTracker .pinReset
  | batchSingle : AtTracker .batchSingle
  | batchEnd : AtTracker .batchEnd
  | takePosition : AtTracker .takePosition
  | tick : AtTracker .tick
  | stalenessExpiry : AtTracker .stalenessExpiry
  | doorLevelChange (d level) : AtTracker (.doorLevelChange d level)
  | debounceExpiry (d) : AtTracker (.debounceExpiry d)
  | mgmtWriteItem (job) : AtTracker (.mgmtWriteItem job)
  | doorsWrite (index value) : AtTracker (.doorsWrite index value)
  | softResetEffects : AtTracker .softResetEffects

theorem atTracker_of_touched {c : Instr} (h : (touched c).contains .tracker = true) : AtTracker c := by
  cases c <;> first | exact Bool.noConfusion h | constructor

/-- The commands of the Reservation Unit. -/
inductive AtResv : Instr → Prop
  | pinReset : AtResv .pinReset
  | takeRoll : AtResv .takeRoll
  | takeRollReturn : AtResv .takeRollReturn
  | takeLabels : AtResv .takeLabels
  | batchSingle : AtResv .batchSingle
  | batchEnd : AtResv .batchEnd
  | takePosition : AtResv .takePosition
  | tick : AtResv .tick
  | debounceExpiry (d) : AtResv (.debounceExpiry d)
  | flush : AtResv .flush
  | purge : AtResv .purge
  | mgmtWriteItem (job) : AtResv (.mgmtWriteItem job)
  | seatmapWrite (index value) : AtResv (.seatmapWrite index value)
  | softResetEffects : AtResv .softResetEffects

theorem atResv_of_touched {c : Instr} (h : (touched c).contains .resv = true) : AtResv c := by
  cases c <;> first | exact Bool.noConfusion h | constructor

/-- The commands of the Lamp Scanner. -/
inductive AtScanner : Instr → Prop
  | pinReset : AtScanner .pinReset
  | lampRowPeriodEnd : AtScanner .lampRowPeriodEnd
  | senseSample (red green) : AtScanner (.senseSample red green)
  | mgmtWriteItem (job) : AtScanner (.mgmtWriteItem job)
  | scannerEnableWrite (value) : AtScanner (.scannerEnableWrite value)
  | linesWrite (index value) : AtScanner (.linesWrite index value)
  | softResetEffects : AtScanner .softResetEffects
  | clearLampFaults : AtScanner .clearLampFaults

theorem atScanner_of_touched {c : Instr} (h : (touched c).contains .scanner = true) : AtScanner c := by
  cases c <;> first | exact Bool.noConfusion h | constructor

/-! ## Laws that read some parts only -/

/-- The property reads no part of the state but those listed. -/
def ReadsOnly (qs : List Part) (P : State → Prop) : Prop :=
  ∀ {ps : List Part} {s t : State}, (∀ q ∈ qs, q ∉ ps) → UnchangedBut ps s t → P s → P t

variable {qs : List Part} {P : State → Prop}

/-- A command that touches none of the parts a property reads keeps it. -/
theorem ReadsOnly.exec (hr : ReadsOnly qs P) {c : Instr} {s : State} (hc : ∀ q ∈ qs, q ∉ touched c) (h : P s) :
    Ends P (exec c s) :=
  let ⟨t, ht, hkeeps⟩ := exec_ends c s
  ⟨t, ht, hr hc hkeeps h⟩

/-- The one part of a law's list that a command touches. -/
theorem touches_of_not_forall {q : Part} {c : Instr} (h : ¬ ∀ p ∈ [q], p ∉ touched c) :
    (touched c).contains q := by
  refine Classical.byContradiction fun hn => h fun p hp hm => hn ?_
  rw [← List.mem_singleton.1 hp]
  exact List.contains_iff_mem.2 hm

/-- A law that no command breaks is kept by every step; commands that touch no part the law reads need no look. -/
theorem ReadsOnly.step (hr : ReadsOnly qs P) (hp : Part.pending ∉ qs)
    (hx : ∀ (c : Instr) (s : State), ¬ (∀ q ∈ qs, q ∉ touched c) → P s → Ends P (Machine.exec c s))
    {s t : State} (h : P s) (hs : Machine.step s = .next t) : P t := by
  obtain ⟨-, rfl⟩ | ⟨c, rest, -, he⟩ := step_next hs
  · exact h
  · have hrest : P { s with pending := rest } := by
      refine hr (ps := [.pending]) (fun q hq hm => hp ?_) ?_ h
      · rwa [List.mem_singleton.1 hm] at hq
      · exact { UnchangedBut.refl _ s with pending := fun n => absurd (List.mem_singleton.2 rfl) n }
    by_cases hc : ∀ q ∈ qs, q ∉ touched c
    · exact (hr.exec hc hrest).of_eq he
    · exact (hx c _ hc hrest).of_eq he

/-! ## An item of SETTINGS -/

/-- What a SETTINGS item with the value `v` can make of a state. -/
inductive SettingWritten (v : List Byte) (s : State) : State → Prop
  | nothing : SettingWritten v s s
  | ports (i : Nat) : SettingWritten v s (writePortSettings i v s).1
  | scannerEnable : SettingWritten v s (writeScannerEnable v s).1
  | pauseQuanta (n : Nat) : SettingWritten v s { s with link := { s.link with pauseQuanta := n } }
  | tracker (l a w m : Nat) : SettingWritten v s
      { s with tracker := { s.tracker with staleLimit := l, approachA := a, windowW := w, marginM := m } }
  | scanner (r b : Nat) : SettingWritten v s { s with scanner := { s.scanner with rowPeriod := r, blinkDivisor := b } }
  | reports (b c : Nat) : SettingWritten v s { s with reports := { s.reports with base := b, count := c } }
  | store (x : BitVec 48) (n : Nat) (h : s.mgmt.locked = false) :
      SettingWritten v s { s with mgmt := { s.mgmt with storedId := x, storedLabel := n } }

theorem SettingWritten.number {lo hi : Nat} {v : List Byte} {put : Nat → State → State} {s : State}
    (h : ∀ n, SettingWritten v s (put n s)) : SettingWritten v s (writeNumber lo hi v put s).1 := by
  unfold writeNumber
  split
  · exact .nothing
  · exact h _

theorem SettingWritten.unlocked {v : List Byte} {s : State} {a : State × ItemResult}
    (h : s.mgmt.locked = false → SettingWritten v s a.1) :
    SettingWritten v s (if s.mgmt.locked then (s, ItemResult.locked) else a).1 := by
  cases hl : s.mgmt.locked
  · exact h hl
  · exact .nothing

theorem writeSettings_written (i : Nat) (v : List Byte) (s : State) : SettingWritten v s (writeSettings i v s).1 := by
  unfold writeSettings
  split
  case h_1 | h_2 | h_3 | h_4 => exact .ports _
  case h_5 => exact .number fun n => .pauseQuanta n
  case h_6 => exact .number fun n => .tracker n _ _ _
  case h_7 => exact .number fun n => .tracker _ n _ _
  case h_8 => exact .number fun n => .tracker _ _ n _
  case h_9 => exact .number fun n => .tracker _ _ _ n
  case h_10 => exact .number fun n => .scanner n _
  case h_11 => exact .number fun n => .scanner _ n
  case h_12 => exact .scannerEnable
  case h_13 => exact .number fun n => .reports n _
  case h_14 =>
    unfold writeChannelCount
    split
    · exact .nothing
    · exact .reports _ _
  case h_15 => exact .unlocked fun h => .number fun n => .store _ _ h
  case h_16 => exact .unlocked fun h => .number fun n => .store _ n h
  case h_17 => exact .nothing

/-! ## A consume copy (section 2.7) -/

/-- What a consume copy can make of a state. -/
inductive CopyConsumed (c : Copy) (s : State) : State → Prop
  | nothing : CopyConsumed c s s
  | overflow (n : Nat) : CopyConsumed c s (raiseOverflow n none s)
  | draw : CopyConsumed c s (consumeDraw c.frame s)
  | position : CopyConsumed c s { s with classifier := { s.classifier with position := some c } }
  | consist (h : s.classifier.consist.length < 2) :
      CopyConsumed c s { s with classifier := { s.classifier with consist := s.classifier.consist ++ [c] } }
  | batch (h : s.classifier.batch.length < 4) :
      CopyConsumed c s { s with classifier := { s.classifier with batch := s.classifier.batch ++ [c] } }
  | notice (h : s.classifier.notice.length < 2) :
      CopyConsumed c s { s with classifier := { s.classifier with notice := s.classifier.notice ++ [c] } }
  | mgmt (h : s.classifier.mgmt.length < 2) :
      CopyConsumed c s { s with classifier := { s.classifier with mgmt := s.classifier.mgmt ++ [c] } }

theorem CopyConsumed.intake {cap n : Nat} {q : List Copy} {c : Copy} {put : List Copy → State → State} {s : State}
    (h : q.length < cap → CopyConsumed c s (put (q ++ [c]) s)) : CopyConsumed c s (offerIntake cap n q c put s) := by
  unfold offerIntake
  split
  · next hlt => exact h hlt
  · exact .overflow n

theorem consumeCopy_consumed (c : Copy) (s : State) : CopyConsumed c s (consumeCopy c s) := by
  unfold consumeCopy
  split
  case h_1 | h_2 | h_3 => exact .intake .consist
  case h_4 => exact .position
  case h_5 | h_6 | h_7 | h_8 => exact .intake .batch
  case h_9 => exact .intake .notice
  case h_10 => exact .draw
  case h_11 | h_12 => exact .intake .mgmt
  case h_13 => exact .nothing

/-! ## Management frames -/

/-- The parts that a write item of a table may change. -/
def tableParts : Nat → List Part
  | 0 => [.link, .tracker, .scanner, .mgmt, .reports]
  | 1 => [.classifier]
  | 2 => [.classifier]
  | 3 => [.resv]
  | 4 => [.engine, .panels, .notices, .mgmt, .reports, .freeCount]
  | 5 => [.panels, .freeCount]
  | 6 => [.scanner]
  | 7 => [.tracker]
  | 8 => [.reports]
  | 9 => [.panels]
  | 11 => [.scanner, .engine, .panels, .notices, .mgmt, .reports, .freeCount]
  | _ => []

theorem applyWrite_parts (i : WriteItem) (s : State) :
    UnchangedBut (tableParts i.table.toNat) s (applyWrite i s).1 := by
  unfold applyWrite
  split
  case h_1 h => rw [h]; exact writeSettings_keeps (.refl _ s)
  case h_2 h => rw [h]; exact writeClassify_keeps (.refl _ s)
  case h_3 h => rw [h]; exact writeGroups_keeps (.refl _ s)
  case h_4 h => rw [h]; exact writeSeatmap_keeps (.refl _ s)
  case h_5 h => rw [h]; exact writePanels_keeps (.refl _ s)
  case h_6 h => rw [h]; exact writePalettes_keeps (.refl _ s)
  case h_7 h => rw [h]; exact writeLines_keeps (.refl _ s)
  case h_8 h => rw [h]; exact writeDoors_keeps (.refl _ s)
  case h_9 h => rw [h]; exact writeReports_keeps (.refl _ s)
  case h_10 h => rw [h]; exact writeSideglyphs_keeps (.refl _ s)
  case h_11 => exact .refl _ s
  case h_12 h => rw [h]; exact writeActions_keeps (.refl _ s)
  case h_13 => exact .refl _ s

section Tables

variable {i : WriteItem} {s : State}

theorem applyWrite_settings (h : i.table.toNat = 0) :
    applyWrite i s = writeSettings i.index.toNat i.value s := by simp only [applyWrite, h]

theorem applyWrite_classify (h : i.table.toNat = 1) :
    applyWrite i s = writeClassify i.index.toNat i.value s := by simp only [applyWrite, h]

theorem applyWrite_groups (h : i.table.toNat = 2) :
    applyWrite i s = writeGroups i.index.toNat i.value s := by simp only [applyWrite, h]

theorem applyWrite_seatmap (h : i.table.toNat = 3) :
    applyWrite i s = writeSeatmap i.index.toNat i.value s := by simp only [applyWrite, h]

theorem applyWrite_panels (h : i.table.toNat = 4) :
    applyWrite i s = writePanels i.index.toNat i.value s := by simp only [applyWrite, h]

theorem applyWrite_palettes (h : i.table.toNat = 5) :
    applyWrite i s = writePalettes i.index.toNat i.value s := by simp only [applyWrite, h]

theorem applyWrite_lines (h : i.table.toNat = 6) :
    applyWrite i s = writeLines i.index.toNat i.value s := by simp only [applyWrite, h]

theorem applyWrite_doors (h : i.table.toNat = 7) :
    applyWrite i s = writeDoors i.index.toNat i.value s := by simp only [applyWrite, h]

theorem applyWrite_reports (h : i.table.toNat = 8) :
    applyWrite i s = writeReports i.index.toNat i.value s := by simp only [applyWrite, h]

theorem applyWrite_sideglyphs (h : i.table.toNat = 9) :
    applyWrite i s = writeSideglyphs i.index.toNat i.value s := by simp only [applyWrite, h]

theorem applyWrite_actions (h : i.table.toNat = 11) :
    applyWrite i s = writeActions i.index.toNat i.value s := by simp only [applyWrite, h]

end Tables

/-- A property kept by each item of a frame is kept by them all. -/
theorem applyWrites_induct (hw : ∀ (i : WriteItem) (s : State), P s → P (applyWrite i s).1) :
    (is : List WriteItem) → (s : State) → P s → P (applyWrites is s).1
  | [], _, h => h
  | i :: is, s, h => applyWrites_induct hw is _ (hw i s h)

/-- MGMT_WRITE_ITEM keeps what the head's leaving the intake, each item, the reply and the kept answer keep. -/
theorem execMgmtWriteItem_induct {s : State} (h : P s)
    (head : ∀ c t, mgmtHead 13 s = some (c, t) → P t)
    (item : ∀ (i : WriteItem) (s : State), P s → P (applyWrite i s).1)
    (send : ∀ (c : Copy) (as : List Answer) (s : State), P s → P (reply c as s))
    (keep : ∀ (r : ItemResult) (s : State), P s → P (s.recorded r)) (job : WriteJob) :
    Ends P (execMgmtWriteItem job s) := by
  unfold execMgmtWriteItem
  split
  · exact .next (keep _ _ (item _ s h))
  · split
    · exact .next h
    · next c t hh =>
      split
      · split
        · exact .next (head c t hh)
        · exact .next (send _ _ _ (applyWrites_induct item _ t (head c t hh)))
      · exact .next (head c t hh)

/-- A law that reads neither link nor intakes nor the Management Unit is kept by MGMT_WRITE_ITEM when each item
keeps it. -/
theorem ReadsOnly.mgmtWriteItem (hr : ReadsOnly qs P) (hq : ∀ q ∈ qs, q ∉ [.link, .classifier, Part.mgmt])
    {s : State} (h : P s) (item : ∀ (i : WriteItem) (s : State), P s → P (applyWrite i s).1) (job : WriteJob) :
    Ends P (execMgmtWriteItem job s) :=
  execMgmtWriteItem_induct h
    (fun _ _ hh => hr hq (mgmtHead_keeps (ps := [.link, .classifier, .mgmt]) hh (by decide)) h)
    item (fun _ _ s hs => hr hq (reply_keeps (.refl _ s)) hs)
    (fun _ s hs => hr hq (recorded_keeps (.refl _ s)) hs) job

/-- An item command keeps a law that reads no part of the Management Unit when the item does. -/
theorem ReadsOnly.answered (hr : ReadsOnly qs P) (hq : ∀ q ∈ qs, q ∉ [Part.mgmt]) {a : State × ItemResult}
    (h : P a.1) : Ends P (Machine.answered a) :=
  .next (hr hq (recorded_keeps (.refl _ a.1)) h)

/-! ## Loads -/

/-- A property of the states in which a load class `k` is handed over and of those it leaves is kept by BATCH_SINGLE. -/
theorem execBatchSingle_induct {s : State} (h : P s)
    (intake : ∀ q s, P s → P (setBatchIntake q s))
    (refuse : ∀ k f w s, P s → P (refusePart k f w s))
    (claim : ∀ k s i t, P s → claimSlot k s = some (i, t) → P t)
    (hand : ∀ k f n c s, P s → P (handover k f n c s))
    (note : ∀ s, P s → P (noteNoBatch s)) : Ends P (execBatchSingle s) := by
  unfold execBatchSingle
  split
  · exact .next h
  · dsimp only
    split
    · exact .next (refuse _ _ _ _ (intake _ _ h))
    · split
      · exact .next (refuse _ _ _ _ (intake _ _ h))
      · next hc => exact .next (note _ (hand _ _ _ _ _ (claim _ _ _ _ (intake _ _ h) hc)))

theorem execBatchEnd_induct {s : State} (h : P s)
    (intake : ∀ q s, P s → P (setBatchIntake q s))
    (abandon : ∀ i b w n s, P s → P (abandonBatch i b w n s))
    (slot : ∀ i s, P s → P (setSlot i none s))
    (hand : ∀ k f n c s, P s → P (handover k f n c s))
    (note : ∀ s, P s → P (noteNoBatch s)) : Ends P (execBatchEnd s) := by
  unfold execBatchEnd
  split
  · exact .next h
  · dsimp only
    split
    · exact .next (intake _ _ h)
    · split
      · exact .next (intake _ _ h)
      · split
        · exact .next (abandon _ _ _ _ _ (intake _ _ h))
        · exact .next (note _ (hand _ _ _ _ _ (slot _ _ (intake _ _ h))))

/-- The parts that the Batch Assembler's own work changes. -/
abbrev batchParts : List Part := [.classifier, .slots, .mgmt, .reports]

/-- A law that reads none of the Batch Assembler's parts is kept by both commands that hand a load over, when the
handover keeps it. -/
theorem ReadsOnly.batchSingle (hr : ReadsOnly qs P) (hq : ∀ q ∈ qs, q ∉ batchParts) {s : State} (h : P s)
    (hand : ∀ k f n c s, P s → P (handover k f n c s)) : Ends P (execBatchSingle s) :=
  execBatchSingle_induct h (fun _ s => hr hq (setBatchIntake_keeps (.refl _ s)))
    (fun _ _ _ s => hr hq (refusePart_keeps (.refl _ s)))
    (fun _ s _ _ hs hc => hr hq (claimSlot_keeps (.refl _ s) hc) hs) hand
    (fun s => hr hq (noteNoBatch_keeps (.refl _ s)))

theorem ReadsOnly.batchEnd (hr : ReadsOnly qs P) (hq : ∀ q ∈ qs, q ∉ batchParts) {s : State} (h : P s)
    (hand : ∀ k f n c s, P s → P (handover k f n c s)) : Ends P (execBatchEnd s) :=
  execBatchEnd_induct h (fun _ s => hr hq (setBatchIntake_keeps (.refl _ s)))
    (fun _ _ _ _ s => hr hq (abandonBatch_keeps (.refl _ s)))
    (fun _ s => hr hq (setSlot_keeps (.refl _ s))) hand
    (fun s => hr hq (noteNoBatch_keeps (.refl _ s)))

/-- What a handover leaves, by its two outcomes. -/
theorem handover_cases (k : LoadClass) (f : Frame) (n : Nat) (content : List Byte) (s : State) :
    (∃ t, judge k f.origin f.batchId content (catchUp k s) = .committed t ∧
      UnchangedBut [.reports] t (handover k f n content s)) ∨
    UnchangedBut [.reports] (catchUp k s) (handover k f n content s) := by
  unfold handover
  dsimp only
  split
  · next t ht => exact .inl ⟨t, ht, raise_keeps (.refl _ t)⟩
  · exact .inr (batchRejected_keeps (.refl _ _))

/-- A law that reads no report is kept by a handover when the owner's catching up and its verdict keep it. -/
theorem ReadsOnly.handover (hr : ReadsOnly qs P) (hq : ∀ q ∈ qs, q ∉ [Part.reports])
    (catches : ∀ k s, P s → P (catchUp k s))
    (judges : ∀ k e b v s t, P s → judge k e b v s = .committed t → P t)
    (k : LoadClass) (f : Frame) (n : Nat) (content : List Byte) (s : State) (h : P s) :
    P (Machine.handover k f n content s) := by
  obtain ⟨t, ht, hk⟩ | hk := handover_cases k f n content s
  · exact hr hq hk (judges _ _ _ _ _ _ (catches k s h) ht)
  · exact hr hq hk (catches k s h)

end Sys2Proof.Machine
end

section
/-! Proofs for chapter 1: the transmit arbiter's frame, and what every operation of the link keeps: the capacities of the
queues and the held settings. -/

namespace Sys2Proof.Machine


open Sys2Proof

/-! ## What the transmit arbiter may change -/

/-- Port `r` is `q` but for what sending changes: the lanes' transmit side, the waiting PAUSE, FTX, LTX and the
fairness count. -/
structure Port.Sends (q r : Port) : Prop where
  eq : ∃ a b w f g n, r =
    { q with lane0 := a, lane1 := b, waitingPause := w, ftx := f, ltx := g, fairness := n }
  lane : ∀ l, ∃ tx bd sa td, r.lane l =
    { q.lane l with tx := tx, beaconDue := bd, syncAnswer := sa, trainDue := td }

theorem Port.Sends.refl (q : Port) : q.Sends q := ⟨⟨_, _, _, _, _, _, rfl⟩, fun _ => ⟨_, _, _, _, rfl⟩⟩

theorem Port.Sends.trans {q r x : Port} (h : q.Sends r) (k : r.Sends x) : q.Sends x := by
  refine ⟨?_, fun l => ?_⟩
  · obtain ⟨_, _, _, _, _, _, e⟩ := h.eq
    obtain ⟨_, _, _, _, _, _, e'⟩ := k.eq
    exact ⟨_, _, _, _, _, _, by rw [e', e]⟩
  · obtain ⟨_, _, _, _, e⟩ := h.lane l
    obtain ⟨_, _, _, _, e'⟩ := k.lane l
    exact ⟨_, _, _, _, by rw [e', e]⟩

/-- A lane of a port replaced on its transmit side. -/
theorem Port.Sends.setLane (q : Port) (l : LaneId) {tx bd sa td} :
    q.Sends (q.setLane l { q.lane l with tx := tx, beaconDue := bd, syncAnswer := sa, trainDue := td }) := by
  refine ⟨?_, fun k => ?_⟩
  · cases l <;> exact ⟨_, _, _, _, _, _, rfl⟩
  · cases l <;> cases k <;> exact ⟨_, _, _, _, rfl⟩

theorem Port.Sends.setPause (q : Port) (w : Option Byte) : q.Sends { q with waitingPause := w } :=
  ⟨⟨_, _, _, _, _, _, rfl⟩, fun l => by cases l <;> exact ⟨_, _, _, _, rfl⟩⟩

theorem Port.Sends.fromQueues {q r : Port} {f : Frame} (h : q.fromQueues = some (f, r)) : q.Sends r := by
  unfold Port.fromQueues at h
  split at h
  · cases h
  · split at h
    · cases h
    · cases h; exact ⟨⟨_, _, _, _, _, _, rfl⟩, fun l => by cases l <;> exact ⟨_, _, _, _, rfl⟩⟩
    · cases h; exact ⟨⟨_, _, _, _, _, _, rfl⟩, fun l => by cases l <;> exact ⟨_, _, _, _, rfl⟩⟩
    · split at h <;> cases h <;>
        exact ⟨⟨_, _, _, _, _, _, rfl⟩, fun l => by cases l <;> exact ⟨_, _, _, _, rfl⟩⟩

/-- The queues give a frame and leave the lanes. -/
theorem Port.fromQueues_lane {q r : Port} {f : Frame} (h : q.fromQueues = some (f, r)) (l : LaneId) :
    r.lane l = q.lane l := by
  unfold Port.fromQueues at h
  split at h
  · cases h
  · split at h
    · cases h
    · cases h; cases l <;> rfl
    · cases h; cases l <;> rfl
    · split at h <;> cases h <;> cases l <;> rfl

theorem Port.Sends.startActive (q : Port) (l : LaneId) : q.Sends (q.startActive l) := by
  unfold Port.startActive
  split
  · refine (Port.Sends.setPause q none).trans ?_
    cases l <;> exact Port.Sends.setLane { q with waitingPause := none } _
  · split
    · exact .setLane q l
    · split
      · exact .setLane q l
      · split
        · next f r hq =>
          rw [← Port.fromQueues_lane hq l]
          exact (Port.Sends.fromQueues hq).trans (.setLane r l)
        · exact .refl q

theorem Port.Sends.startLane (q : Port) (l : LaneId) : q.Sends (q.startLane l) := by
  unfold Port.startLane
  split
  · exact .refl q
  · split
    · exact .startActive q l
    · split
      · exact .setLane q l
      · exact .refl q

/-- The arbiter changes nothing but what sending changes. -/
theorem Port.Sends.arbitrate (q : Port) : q.Sends q.arbitrate :=
  (Port.Sends.startLane q .zero).trans (.startLane _ .one)

section Fields

variable {q r : Port} (h : q.Sends r)
include h

theorem Port.Sends.state : r.state = q.state := by obtain ⟨_, _, _, _, _, _, e⟩ := h.eq; rw [e]
theorem Port.Sends.heldSettings : r.heldSettings = q.heldSettings := by
  obtain ⟨_, _, _, _, _, _, e⟩ := h.eq; rw [e]
theorem Port.Sends.working : r.working = q.working := by obtain ⟨_, _, _, _, _, _, e⟩ := h.eq; rw [e]
theorem Port.Sends.windowCount : r.windowCount = q.windowCount := by
  obtain ⟨_, _, _, _, _, _, e⟩ := h.eq; rw [e]
theorem Port.Sends.windowTimer : r.windowTimer = q.windowTimer := by
  obtain ⟨_, _, _, _, _, _, e⟩ := h.eq; rw [e]
theorem Port.Sends.seekTimer : r.seekTimer = q.seekTimer := by obtain ⟨_, _, _, _, _, _, e⟩ := h.eq; rw [e]
theorem Port.Sends.syncTimer : r.syncTimer = q.syncTimer := by obtain ⟨_, _, _, _, _, _, e⟩ := h.eq; rw [e]
theorem Port.Sends.gate : r.gate = q.gate := by obtain ⟨_, _, _, _, _, _, e⟩ := h.eq; rw [e]
theorem Port.Sends.gateTimer : r.gateTimer = q.gateTimer := by obtain ⟨_, _, _, _, _, _, e⟩ := h.eq; rw [e]
theorem Port.Sends.pauseAsserted : r.pauseAsserted = q.pauseAsserted := by
  obtain ⟨_, _, _, _, _, _, e⟩ := h.eq; rw [e]
theorem Port.Sends.resendTimer : r.resendTimer = q.resendTimer := by
  obtain ⟨_, _, _, _, _, _, e⟩ := h.eq; rw [e]
theorem Port.Sends.rxq : r.rxq = q.rxq := by obtain ⟨_, _, _, _, _, _, e⟩ := h.eq; rw [e]
theorem Port.Sends.isUp : r.isUp = q.isUp := by rw [Port.isUp, Port.isUp, h.state]
theorem Port.Sends.within (l : LaneId) : r.within l = q.within l := by
  cases l <;> simp only [Port.within, h.working]
theorem Port.Sends.laneState (l : LaneId) : (r.lane l).state = (q.lane l).state := by
  obtain ⟨_, _, _, _, e⟩ := h.lane l; rw [e]
theorem Port.Sends.laneHeld (l : LaneId) : (r.lane l).held = (q.lane l).held := by
  obtain ⟨_, _, _, _, e⟩ := h.lane l; rw [e]
theorem Port.Sends.laneIdleTimer (l : LaneId) : (r.lane l).idleTimer = (q.lane l).idleTimer := by
  obtain ⟨_, _, _, _, e⟩ := h.lane l; rw [e]
theorem Port.Sends.laneRxSilence (l : LaneId) : (r.lane l).rxSilence = (q.lane l).rxSilence := by
  obtain ⟨_, _, _, _, e⟩ := h.lane l; rw [e]
theorem Port.Sends.laneTrainSilence (l : LaneId) : (r.lane l).trainSilence = (q.lane l).trainSilence := by
  obtain ⟨_, _, _, _, e⟩ := h.lane l; rw [e]

end Fields

/-! ## What the operations of the link keep -/

/-- Port `r` fits its queues when `q` does, and has the held settings of `q`. -/
structure Port.Kept (q r : Port) : Prop where
  fits : q.Fits → r.Fits
  held : r.heldSettings = q.heldSettings

theorem Port.Kept.trans {q r x : Port} (h : q.Kept r) (k : r.Kept x) : q.Kept x :=
  ⟨fun f => k.fits (h.fits f), k.held.trans h.held⟩

/-- A port with the same queues, counts and held settings. -/
theorem Port.Kept.of_eq {q r : Port} (hrxq : r.rxq = q.rxq) (hftx : r.ftx = q.ftx) (hltx : r.ltx = q.ltx)
    (hwin : r.windowCount = q.windowCount) (hfair : r.fairness = q.fairness)
    (hheld : r.heldSettings = q.heldSettings) : q.Kept r :=
  ⟨fun f => f.of_eq hrxq hftx hltx hwin hfair, hheld⟩

theorem Port.Kept.refl (q : Port) : q.Kept q := ⟨id, rfl⟩

theorem Port.Kept.setLane (q : Port) (l : LaneId) (x : Lane) : q.Kept (q.setLane l x) :=
  ⟨fun f => f.setLane l x, by simp⟩

theorem Port.Kept.arbitrate (q : Port) : q.Kept q.arbitrate :=
  ⟨Port.Fits.arbitrate, (Port.Sends.arbitrate q).heldSettings⟩

theorem Port.Kept.toDown (q : Port) : q.Kept q.toDown :=
  .trans (r := { { q with working := q.heldSettings } with
    state := .down, windowCount := 0, windowTimer := false, seekTimer := true, syncTimer := false
    lane0 := q.lane0.toDown (Port.within { q with working := q.heldSettings } .zero)
    lane1 := q.lane1.toDown (Port.within { q with working := q.heldSettings } .one) })
    ⟨fun ⟨h1, h2, h3, _, h5⟩ => ⟨h1, h2, h3, Nat.zero_le _, h5⟩, rfl⟩ (.arbitrate _)

theorem Port.Kept.toOff (q : Port) : q.Kept q.toOff :=
  ⟨fun ⟨h1, h2, h3, _, h5⟩ => ⟨h1, h2, h3, Nat.zero_le _, h5⟩, rfl⟩

theorem Port.Kept.toTraining (q : Port) (l : LaneId) : q.Kept (q.toTraining l) :=
  Port.Kept.trans (r := { q with
    state := .training, windowCount := 1, windowTimer := true, seekTimer := false, syncTimer := true
    lane0 := q.lane0.toTraining (q.within .zero) (if l = LaneId.zero then 1 else 0)
    lane1 := q.lane1.toTraining (q.within .one) (if l = LaneId.one then 1 else 0) })
    ⟨fun ⟨h1, h2, h3, _, h5⟩ => ⟨h1, h2, h3, (by decide : 1 ≤ 16), h5⟩, rfl⟩ (.arbitrate _)

theorem Port.Kept.toUp (q : Port) (st : PortState) (a b : Lane) (n : Nat) : q.Kept (q.toUp st a b n) := by
  unfold Port.toUp
  refine .trans ?_ (.arbitrate _)
  split <;> exact ⟨fun ⟨h1, h2, h3, _, h5⟩ => ⟨h1, h2, h3, Nat.zero_le _, h5⟩, rfl⟩

/-- The link of `t` keeps its capacities when that of `s` does, and its held settings are those of `s`. -/
structure LinkKept (s t : State) : Prop where
  fits : LinkFits s → LinkFits t
  held : ∀ p, (t.port p).heldSettings = (s.port p).heldSettings

theorem LinkKept.refl (s : State) : LinkKept s s := ⟨id, fun _ => rfl⟩

theorem LinkKept.trans {s t u : State} (h : LinkKept s t) (k : LinkKept t u) : LinkKept s u :=
  ⟨fun f => k.fits (h.fits f), fun p => (k.held p).trans (h.held p)⟩

/-- A state with the same link. -/
theorem LinkKept.of_link {s t : State} (h : t.link = s.link) : LinkKept s t := by
  refine ⟨fun f => ?_, fun p => ?_⟩
  · unfold LinkFits; rw [h]; exact f
  · unfold State.port; rw [h]

/-- What does not touch the link keeps it. -/
theorem LinkKept.of_unchanged {ps : List Part} {s t : State} (h : UnchangedBut ps s t)
    (hps : Part.link ∉ ps := by decide) : LinkKept s t := .of_link (h.link hps)

theorem LinkKept.setPort {s : State} {p : PortId} {x : Port} (h : (s.port p).Kept x) :
    LinkKept s (s.setPort p x) := by
  refine ⟨fun f => f.setPort p (h.fits (f.port p)), fun r => ?_⟩
  by_cases hr : r = p
  · subst hr; rw [State.port_setPort_same]; exact h.held
  · exact congrArg Port.heldSettings (Link.port_setPort_ne s.link hr x)

theorem LinkKept.raise (s : State) (c : ReportClass) (d : List Byte) : LinkKept s (raise c d s) := .of_link rfl

theorem LinkKept.arbitrate (s : State) (p : PortId) : LinkKept s (Machine.arbitrate p s) :=
  .setPort (.arbitrate _)

theorem LinkKept.offerFtx (s : State) (p : PortId) (f : Frame) : LinkKept s (Machine.offerFtx p f s) := by
  refine ⟨fun h => h.offerFtx p f, ?_⟩
  obtain ⟨-, -, he⟩ | ⟨-, -, he⟩ | ⟨-, he⟩ := offerFtx_cases p f s
  · rw [he]
    intro r
    by_cases hr : r = p
    · subst hr; rw [State.port_setPort_same]; exact (Port.Sends.arbitrate _).heldSettings
    · exact congrArg Port.heldSettings (Link.port_setPort_ne s.link hr _)
  · rw [he]; exact fun _ => rfl
  · rw [he]; exact fun _ => rfl

/-- An offer to an LTX that is settled at once. -/
theorem LinkKept.placeLtx {s : State} {p : PortId} (ht : (s.port p).ltxTakes = true) (f : Frame) :
    LinkKept s (Machine.placeLtx p f s) := by
  refine ⟨fun h => h.placeLtx p f ht, ?_⟩
  obtain ⟨-, he⟩ | ⟨-, he⟩ := placeLtx_cases p f s
  · rw [he]
    intro r
    by_cases hr : r = p
    · subst hr; rw [State.port_setPort_same]; exact (Port.Sends.arbitrate _).heldSettings
    · exact congrArg Port.heldSettings (Link.port_setPort_ne s.link hr _)
  · rw [he]; exact fun _ => rfl

theorem LinkKept.placeRxq (s : State) (p : PortId) (f : Frame) : LinkKept s (Machine.placeRxq p f s) := by
  refine ⟨fun h => h.placeRxq p f, fun r => ?_⟩
  unfold Machine.placeRxq
  split
  · rfl
  · by_cases hr : r = p
    · subst hr
      simp only [State.port_setPort_same]
      split <;> rfl
    · exact congrArg Port.heldSettings (Link.port_setPort_ne s.link hr _)

theorem LinkKept.placeHeld (p : PortId) : (fs : List Frame) → (s : State) → LinkKept s (Machine.placeHeld p fs s)
  | [], s => .refl s
  | f :: fs, s => (LinkKept.placeRxq s p f).trans (LinkKept.placeHeld p fs _)

theorem LinkKept.releaseHeld (s : State) (p : PortId) (l : LaneId) : LinkKept s (Machine.releaseHeld p l s) :=
  (LinkKept.setPort (.setLane _ l _)).trans (.placeHeld p _ _)

theorem LinkKept.reportPort (s : State) (p : PortId) (k : Nat) : LinkKept s (Machine.reportPort p k s) := .raise _ _ _

theorem LinkKept.topologyChange (s : State) : LinkKept s (Machine.topologyChange s) := by
  unfold Machine.topologyChange
  split
  · exact .of_link rfl
  · exact .refl s

theorem LinkKept.passToOff (s : State) (p : PortId) : LinkKept s (Machine.passToOff p s) := by
  unfold Machine.passToOff
  split
  · exact (LinkKept.setPort (.toOff _)).trans (.reportPort _ p 0)
  · exact .refl s

theorem LinkKept.enterDown (s : State) (p : PortId) (k : Nat) : LinkKept s (Machine.enterDown p k s) :=
  ((LinkKept.setPort (.toDown _)).trans (.reportPort _ p k)).trans (.passToOff _ p)

theorem LinkKept.reenterDown (s : State) (p : PortId) : LinkKept s (Machine.reenterDown p s) :=
  (LinkKept.setPort (.toDown _)).trans (.passToOff _ p)

theorem LinkKept.enterTraining (s : State) (p : PortId) (l : LaneId) : LinkKept s (Machine.enterTraining p l s) :=
  (LinkKept.setPort (.toTraining _ l)).trans (.reportPort _ p 0)

theorem LinkKept.enterUp (s : State) (p : PortId) (st : PortState) (a b : Lane) :
    LinkKept s (Machine.enterUp p st a b s) :=
  ((LinkKept.setPort (.toUp _ st a b _)).trans (.reportPort _ p 0)).trans (.topologyChange _)

theorem LinkKept.endWindowEarly (s : State) (p : PortId) : LinkKept s (Machine.endWindowEarly p s) := by
  unfold Machine.endWindowEarly
  dsimp only
  split <;> exact .enterUp _ _ _ _ _

theorem LinkKept.leaveUp (s : State) (p : PortId) : LinkKept s (Machine.leaveUp p s) := by
  refine (LinkKept.placeHeld p _ s).trans ((LinkKept.setPort ?_).trans (.topologyChange _))
  exact ⟨fun ⟨h1, _, _, h4, _⟩ => ⟨h1, Nat.zero_le _, Nat.zero_le _, h4, Nat.zero_le _, fun _ => rfl⟩, rfl⟩

theorem LinkKept.afterValid (s : State) (p : PortId) (l : LaneId) : LinkKept s (Machine.afterValid p l s) :=
  ((LinkKept.setPort (.setLane _ l _)).trans (.releaseHeld _ p _)).trans (.arbitrate _ p)

theorem LinkKept.receiveBad (s : State) (p : PortId) (l : LaneId) (r : RxReason) :
    LinkKept s (Machine.receiveBad p l r s) := by
  unfold Machine.receiveBad
  dsimp only
  refine (LinkKept.raise s .rxError [byteOf (portCode p), byteOf (laneCode l), byteOf (rxReasonCode r)]).trans ?_
  split <;> split
  · exact (LinkKept.setPort (.setLane _ l _)).trans ((LinkKept.releaseHeld _ p _).trans (.arbitrate _ p))
  · exact .setPort (.setLane _ l _)
  · exact (LinkKept.releaseHeld _ p _).trans (.arbitrate _ p)
  · exact .refl _

theorem LinkKept.actTrain (s : State) (p : PortId) (l : LaneId) (ph : TrainPhase) :
    LinkKept s (Machine.actTrain p l ph s) := by
  have training (s : State) : LinkKept s (Machine.enterTraining p l (Machine.leaveUp p s)) :=
    (LinkKept.leaveUp s p).trans (.enterTraining _ p l)
  have answer (s : State) : LinkKept s (if (s.port p).activeOn l then
      Machine.afterValid p l (s.setPort p ((s.port p).setLane l { (s.port p).lane l with syncAnswer := true }))
      else s) := by
    split
    · exact (LinkKept.setPort (.setLane _ l _)).trans (.afterValid _ p l)
    · exact .refl s
  unfold Machine.actTrain
  dsimp only
  split
  · exact .refl s
  · exact .enterTraining s p l
  · split
    · exact (LinkKept.setPort (.setLane _ l _)).trans (.endWindowEarly _ p)
    · exact .setPort (.setLane _ l _)
  · cases ph
    · exact training s
    · exact answer s
  · cases ph
    · exact training s
    · exact answer s

theorem LinkKept.acceptFrame (s : State) (p : PortId) (l : LaneId) (later : Bool) (f : Frame) :
    LinkKept s (Machine.acceptFrame p l later f s) := by
  unfold Machine.acceptFrame
  dsimp only
  split
  · exact .setPort (.setLane _ l _)
  · exact (LinkKept.placeRxq s p f).trans (.afterValid _ p l)

theorem LinkKept.takeRxq {s : State} {p : PortId} {f : Frame} {rest : List Frame}
    (h : (s.port p).rxq = f :: rest) : LinkKept s (Machine.takeRxq p rest s) := by
  have hq : (s.port p).Kept { s.port p with rxq := rest } :=
    ⟨fun ⟨h1, h2⟩ => ⟨by rw [h] at h1; exact Nat.le_of_succ_le h1, h2⟩, rfl⟩
  unfold Machine.takeRxq
  refine .setPort ?_
  split
  · exact hq.trans (Port.Kept.trans (r := Port.resumePause { s.port p with rxq := rest })
      (.of_eq rfl rfl rfl rfl rfl rfl) (.arbitrate _))
  · exact hq

theorem LinkKept.offerReturn (s : State) (p : PortId) (f : Frame) : LinkKept s (Machine.offerReturn p f s) := by
  unfold Machine.offerReturn
  split
  · next ht =>
    exact LinkKept.trans (t := { s with consist := { s.consist with waiting := none } }) (.of_link rfl)
      (.placeLtx (by exact ht) f)
  · exact .of_link rfl

theorem LinkKept.offerReply (s : State) (p : PortId) (f : Frame) : LinkKept s (Machine.offerReply p f s) := by
  unfold Machine.offerReply
  split
  · next ht =>
    exact LinkKept.trans (t := { s with mgmt := { s.mgmt with waiting := none } }) (.of_link rfl)
      (.placeLtx (by exact ht) f)
  · exact .of_link rfl

theorem LinkKept.returnOnward (s : State) (p : PortId) (f : Frame) : LinkKept s (Machine.returnOnward p f s) := by
  unfold Machine.returnOnward
  split
  · exact .refl s
  · exact .offerFtx s p _

theorem LinkKept.newRoll (s : State) (c : Copy) (r : Roll) : LinkKept s (Machine.newRoll c r s) := by
  unfold Machine.newRoll
  dsimp only
  have hf := setFacing_keeps (p := facingOf c.port c.frame.origin) (.refl [.consist, .panels] s)
  split
  · exact LinkKept.trans (.of_unchanged (consistChanged_keeps (consist_keeps (hf.mono (by decide)))
      (ps := [.consist, .panels, .reports]))) (.offerFtx _ _ _)
  · exact LinkKept.trans (.of_unchanged (raiseConsist_keeps (checkRoll_keeps (consist_keeps (hf.mono (by decide))))
      (ps := [.consist, .panels, .reports, .resv]))) (.offerReturn _ _ _)

end Sys2Proof.Machine
end

section
/-! Proofs for the queues: the capacities of the link (R16, R20) and of the intakes (R38) at every step. -/

namespace Sys2Proof.Machine

open Sys2Proof

/-! ## The link -/

theorem linkFits_readsOnly : ReadsOnly [.link] LinkFits := fun hq h hs => by
  unfold LinkFits
  rw [h.link (hq _ (by decide))]
  exact hs

/-- The commands that may write held settings. -/
inductive WritesHeld : Instr → Prop
  | pinReset : WritesHeld .pinReset
  | settingsLoadEnd (answer) : WritesHeld (.settingsLoadEnd answer)
  | portSettingsWrite (index value) : WritesHeld (.portSettingsWrite index value)
  | mgmtWriteItem (job) : WritesHeld (.mgmtWriteItem job)

theorem Ends.mono {P Q : State → Prop} {o : Out} (h : Ends P o) (hpq : ∀ t, P t → Q t) : Ends Q o :=
  let ⟨t, ht, hp⟩ := h
  ⟨t, ht, hpq t hp⟩

/-- A port replaced, or nothing. -/
theorem LinkKept.ite_setPort {s : State} {p : PortId} {x : Port} {c : Prop} [Decidable c] (h : (s.port p).Kept x) :
    Ends (LinkKept s) (.next (if c then s.setPort p x else s)) :=
  .ite (fun _ => .setPort h) fun _ => .refl s

theorem LinkKept.pauseResend (p : PortId) (s : State) : Ends (LinkKept s) (execPauseResendExpiry p s) := by
  refine .ite (fun _ => ?_) fun _ => .refl s
  split
  · exact .setPort (.trans (r := (s.port p).assertPause s.link.pauseQuanta) (.of_eq rfl rfl rfl rfl rfl rfl)
      (.arbitrate _))
  · exact .setPort (.of_eq rfl rfl rfl rfl rfl rfl)

theorem LinkKept.transmitDone (p : PortId) (l : LaneId) (s : State) :
    Ends (LinkKept s) (execTransmitDone p l s) := by
  unfold execTransmitDone
  dsimp only
  split
  · exact .next (.refl s)
  · exact .next (.setPort (.trans (.setLane _ l _) (.arbitrate _)))

theorem LinkKept.receiveTrain (p : PortId) (l : LaneId) (later : Bool) (bytes : List Byte) (s : State) :
    Ends (LinkKept s) (execReceiveTrain p l later bytes s) := by
  unfold execReceiveTrain
  split
  · exact .next (.refl s)
  · split
    · exact .next (.receiveBad s p l _)
    · exact .ite (fun _ => .actTrain s p l _) fun _ => .refl s

theorem LinkKept.receiveBeacon (p : PortId) (l : LaneId) (later : Bool) (bytes : List Byte) (s : State) :
    Ends (LinkKept s) (execReceiveBeacon p l later bytes s) := by
  unfold execReceiveBeacon
  split
  · exact .next (.refl s)
  · split
    · exact .next (.receiveBad s p l _)
    · exact .ite (fun _ => .afterValid s p l) fun _ => .refl s

theorem LinkKept.receivePause (p : PortId) (l : LaneId) (later : Bool) (bytes : List Byte) (s : State) :
    Ends (LinkKept s) (execReceivePause p l later bytes s) := by
  have gate (q : Port) (n : Nat) : q.Kept (q.gatePause n) := by
    unfold Port.gatePause
    split <;> exact .of_eq rfl rfl rfl rfl rfl rfl
  unfold execReceivePause
  split
  · exact .next (.refl s)
  · split
    · exact .next (.receiveBad s p l _)
    · exact .ite (fun _ => (LinkKept.setPort (gate _ _)).trans (.afterValid _ p l)) fun _ => .refl s

theorem LinkKept.receiveFrame (p : PortId) (l : LaneId) (later : Bool) (bytes : List Byte) (s : State) :
    Ends (LinkKept s) (execReceiveFrame p l later bytes s) := by
  unfold execReceiveFrame
  split
  · exact .next (.refl s)
  · split
    · exact .next (.receiveBad s p l _)
    · exact .ite (fun _ => .acceptFrame s p l later _) fun _ => .refl s

theorem LinkKept.windowExpiry (p : PortId) (s : State) : Ends (LinkKept s) (execWindowExpiry p s) := by
  refine .ite (fun _ => ?_) fun _ => .refl s
  split
  · exact .endWindowEarly s p
  · split
    · exact .enterUp _ _ _ _ _
    · split
      · exact .enterUp _ _ _ _ _
      · split
        · next hlt => exact .setPort ⟨fun ⟨h1, h2, h3, _, h5⟩ => ⟨h1, h2, h3, hlt, h5⟩, rfl⟩
        · exact .enterDown s p 1

theorem LinkKept.receiveSilence (p : PortId) (l : LaneId) (s : State) :
    Ends (LinkKept s) (execReceiveSilenceExpiry p l s) := by
  refine .ite (fun _ => ?_) fun _ => .refl s
  split
  · have hq : (s.port p).Kept (Port.setLane { s.port p with state := .upSingle } l ((s.port p).lane l).toLost) :=
      .trans (r := { s.port p with state := .upSingle }) (.of_eq rfl rfl rfl rfl rfl rfl) (.setLane _ l _)
    exact (((LinkKept.setPort hq).trans (.releaseHeld _ p _)).trans (.arbitrate _ p)).trans (.reportPort _ p 0)
  · exact (LinkKept.leaveUp s p).trans (.enterDown _ p 0)

theorem LinkKept.forwardCopy (c : Copy) (s : State) : LinkKept s (Machine.forwardCopy c s) := by
  unfold Machine.forwardCopy
  split
  · exact .refl s
  · exact .offerFtx s _ _

theorem LinkKept.classifyFrame (p : PortId) (s : State) : Ends (LinkKept s) (execClassifyFrame p s) := by
  unfold execClassifyFrame
  split
  · exact .next (.refl s)
  · next f rest hq =>
    dsimp only
    have h2 : LinkKept s (if (classify (Machine.takeRxq p rest s) f).consume
        then consumeCopy { frame := f, port := p } (Machine.takeRxq p rest s) else Machine.takeRxq p rest s) := by
      split
      · exact (LinkKept.takeRxq hq).trans
          (.of_unchanged (consumeCopy_keeps (.refl [.classifier, .engine, .panels, .notices, .mgmt, .reports] _)))
      · exact .takeRxq hq
    exact .ite (fun _ => h2.trans (.forwardCopy _ _)) fun _ => h2

/-- Taking a frame from the Consist Manager's intake leaves the link. -/
theorem LinkKept.setConsistIntake (q : List Copy) (s : State) : LinkKept s (Machine.setConsistIntake q s) :=
  .of_link rfl

theorem LinkKept.takeRoll (s : State) : Ends (LinkKept s) (execTakeRoll s) := by
  unfold execTakeRoll
  split
  · exact .next (.refl s)
  · dsimp only
    split
    · exact .next (.of_link rfl)
    · split
      · exact .next (.of_link rfl)
      · exact .next ((LinkKept.setConsistIntake _ s).trans (.newRoll _ _ _))

theorem LinkKept.takeRollReturn (s : State) : Ends (LinkKept s) (execTakeRollReturn s) := by
  unfold execTakeRollReturn
  split
  · exact .next (.refl s)
  · dsimp only
    split
    · exact .next (.of_link rfl)
    · split
      · exact .next ((LinkKept.setConsistIntake _ s).trans (.returnOnward _ _ _))
      · exact .next (((LinkKept.setConsistIntake _ s).trans (.returnOnward _ _ _)).trans
          (.of_unchanged (consistChanged_keeps (checkRoll_keeps (.refl [.consist, .reports, .resv] _)))))

theorem LinkKept.rollReturnRetry (s : State) : Ends (LinkKept s) (execRollReturnRetry s) := by
  unfold execRollReturnRetry
  split
  · exact .next (.refl s)
  · exact .next (.offerReturn s _ _)

theorem LinkKept.replyRetry (s : State) : Ends (LinkKept s) (execReplyRetry s) := by
  unfold execReplyRetry
  split
  · exact .next (.refl s)
  · exact .ite (fun _ => .refl s) fun _ => .offerReply s _ _

theorem LinkKept.mgmtReadItem (job : ReadJob) (s : State) : Ends (LinkKept s) (execMgmtReadItem job s) := by
  unfold execMgmtReadItem
  split
  · exact .next (.of_link rfl)
  · split
    · exact .next (.refl s)
    · next hh =>
      have h : LinkKept s _ := .of_unchanged (mgmtHead_keeps (ps := [.classifier]) hh (by decide))
      split
      · split
        · exact .next h
        · exact .next (h.trans (.offerReply _ _ _))
      · exact .next h

/-- Placing into the LTX of one port leaves what the other takes. -/
theorem placeLtx_port_ne {p r : PortId} (h : r ≠ p) (f : Frame) (s : State) : (placeLtx p f s).port r = s.port r := by
  obtain ⟨-, he⟩ | ⟨-, he⟩ := placeLtx_cases p f s
  · rw [he]; exact Link.port_setPort_ne s.link h _
  · rw [he]

theorem reportFits_takes {p : PortId} {s : State} (h : reportFits p s = true) : (s.port p).ltxTakes = true := by
  simp only [reportFits, Bool.and_eq_true] at h
  exact h.1.1

theorem LinkKept.reportBuild (s : State) : Ends (LinkKept s) (execReportBuild s) := by
  have hs : LinkKept s { s with reports := s.reports.sent } := .of_link rfl
  unfold execReportBuild
  split
  · exact .next (.refl s)
  · dsimp only
    split
    · split
      · next hf => exact .next (hs.trans (.placeLtx (by exact reportFits_takes hf) _))
      · exact .next (.refl s)
    · split
      · next hf =>
        refine .next ((hs.trans (.placeLtx (p := .A) (by exact reportFits_takes hf.1) _)).trans (.placeLtx ?_ _))
        rw [placeLtx_port_ne (by decide)]
        exact reportFits_takes hf.2
      · exact .next (.refl s)

theorem LinkKept.softResetEffects (s : State) : Ends (LinkKept s) (execSoftResetEffects s) := by
  refine .ite (fun _ => ?_) fun _ => .refl s
  have hm : LinkKept s (meetRunning s) :=
    .of_unchanged (meetRunning_keeps (.refl [.engine, .panels, .freeCount] s))
  have soft (q : Port) : q.Kept q.softReset :=
    ⟨fun ⟨h1, h2, _, h4, _⟩ => ⟨h1, h2, Nat.zero_le _, h4, Nat.zero_le _, fun _ => rfl⟩, rfl⟩
  have ha (s : State) : LinkKept s (applySoftReset s) := by
    refine ⟨fun h => ⟨(soft _).fits h.1, (soft _).fits h.2⟩, fun p => ?_⟩
    cases p <;> rfl
  refine (hm.trans (ha _)).trans ?_
  unfold reofferReply
  split
  · exact .refl _
  · exact .offerReply _ _ _

/-- Every command but those that write held settings keeps the capacities of the ports and their held settings. -/
theorem exec_linkKept {c : Instr} (hc : ¬ WritesHeld c) (s : State) : Ends (LinkKept s) (exec c s) := by
  by_cases htouch : (touched c).contains .link
  · cases atLink_of_touched htouch with
    | pinReset => exact absurd .pinReset hc
    | settingsLoadEnd => exact absurd (.settingsLoadEnd _) hc
    | portSettingsWrite => exact absurd (.portSettingsWrite _ _) hc
    | mgmtWriteItem => exact absurd (.mgmtWriteItem _) hc
    | seekTimerExpiry p => exact LinkKept.ite_setPort (.trans (r := { s.port p with
        lane0 := (s.port p).lane0.trainFallsDue .seek, lane1 := (s.port p).lane1.trainFallsDue .seek })
        (.of_eq rfl rfl rfl rfl rfl rfl) (.arbitrate _))
    | syncTimerExpiry p => exact LinkKept.ite_setPort (.trans (r := { s.port p with
        lane0 := (s.port p).lane0.trainFallsDue .sync, lane1 := (s.port p).lane1.trainFallsDue .sync })
        (.of_eq rfl rfl rfl rfl rfl rfl) (.arbitrate _))
    | receiveTrain p l later bytes => exact LinkKept.receiveTrain p l later bytes s
    | receiveBeacon p l later bytes => exact LinkKept.receiveBeacon p l later bytes s
    | receivePause p l later bytes => exact LinkKept.receivePause p l later bytes s
    | receiveFrame p l later bytes => exact LinkKept.receiveFrame p l later bytes s
    | windowExpiry p => exact LinkKept.windowExpiry p s
    | trainSilenceExpiry p l => exact LinkKept.ite_setPort (.setLane _ l _)
    | transmitIdleExpiry p l => exact LinkKept.ite_setPort (.trans (.setLane _ l _) (.arbitrate _))
    | receiveSilenceExpiry p l => exact LinkKept.receiveSilence p l s
    | pauseResendExpiry p => exact LinkKept.pauseResend p s
    | gateTimerExpiry p => exact LinkKept.ite_setPort (.trans (r := { s.port p with gate := .opened, gateTimer := none })
        (.of_eq rfl rfl rfl rfl rfl rfl) (.arbitrate _))
    | transmitDone p l => exact LinkKept.transmitDone p l s
    | classifyFrame p => exact LinkKept.classifyFrame p s
    | takeRoll => exact LinkKept.takeRoll s
    | takeRollReturn => exact LinkKept.takeRollReturn s
    | rollReturnRetry => exact LinkKept.rollReturnRetry s
    | mgmtReadItem job => exact LinkKept.mgmtReadItem job s
    | softResetEffects => exact LinkKept.softResetEffects s
    | replyRetry => exact LinkKept.replyRetry s
    | reportBuild => exact LinkKept.reportBuild s
  · exact (exec_ends c s).mono fun t h => .of_unchanged h (mt List.contains_iff_mem.2 htouch)

/-- New held settings leave the queues. -/
theorem LinkFits.setHeld {s : State} (h : LinkFits s) (p : PortId) (x y : PortSettings) :
    LinkFits (s.setPort p { s.port p with heldSettings := x, working := y }) :=
  h.setPort p ((h.port p).of_eq rfl rfl rfl rfl rfl)

theorem LinkFits.writeHeld {s : State} (h : LinkFits s) (p : PortId) (x : PortSettings) :
    LinkFits (writeHeld p x s) := by
  have hq := h.setHeld p x (s.port p).working
  unfold Machine.writeHeld
  dsimp only
  split
  · split
    · exact (LinkKept.enterDown _ p 0).fits hq
    · exact h.setHeld p x x
  · exact (LinkKept.reenterDown _ p).fits hq
  all_goals exact hq

theorem LinkFits.startPort {s : State} (h : LinkFits s) (p : PortId) : LinkFits (startPort p s) := by
  unfold Machine.startPort
  split
  · exact (LinkKept.enterDown s p 0).fits h
  · exact h.setHeld p _ _

theorem LinkFits.writePortItem {s : State} (h : LinkFits s) (p : PortId) (b : Bool) (v : List Byte) :
    LinkFits (writePortItem p b v s).1 := by
  unfold Machine.writePortItem
  split
  · exact h
  · split
    · exact h.writeHeld p _
    · exact h.writeHeld p _
    · exact h

theorem LinkFits.writePortSettings {s : State} (h : LinkFits s) (i : Nat) (v : List Byte) :
    LinkFits (writePortSettings i v s).1 := by
  unfold Machine.writePortSettings
  split
  · exact h.writePortItem .A true v
  · exact h.writePortItem .A false v
  · exact h.writePortItem .B true v
  · exact h.writePortItem .B false v
  · exact h

theorem LinkFits.setting {s t : State} {v : List Byte} (h : LinkFits s) (hw : SettingWritten v s t) : LinkFits t := by
  cases hw with
  | ports i => exact h.writePortSettings i v
  | scannerEnable => exact linkFits_readsOnly (by decide) (writeScannerEnable_keeps (.refl [.scanner] s)) h
  | nothing | pauseQuanta | tracker | scanner | reports | store => exact h

theorem LinkFits.applyWrite (i : WriteItem) (s : State) (h : LinkFits s) : LinkFits (applyWrite i s).1 := by
  by_cases hi : i.table.toNat = 0
  · rw [applyWrite_settings hi]
    exact h.setting (writeSettings_written _ _ _)
  · refine linkFits_readsOnly ?_ (applyWrite_parts i s) h
    rintro q hq
    rw [List.mem_singleton.1 hq]
    unfold tableParts
    split
    · exact absurd ‹_› hi
    all_goals decide

theorem linkFits_reset : LinkFits State.reset := by
  have h : Port.Fits {} := by simp [Port.Fits]
  exact ⟨h, h⟩

/-- Capacities at every command. -/
theorem linkFits_exec (c : Instr) (s : State) (h : LinkFits s) : Ends LinkFits (exec c s) := by
  by_cases hc : WritesHeld c
  · cases hc with
    | pinReset => exact .next linkFits_reset
    | settingsLoadEnd answer =>
      show Ends LinkFits (execSettingsLoadEnd answer s)
      unfold execSettingsLoadEnd
      split
      · refine .next (LinkFits.startPort (LinkFits.startPort ?_ .A) .B)
        split <;> exact h
      · exact .next h
    | portSettingsWrite index value => exact linkFits_readsOnly.answered (by decide) (h.writePortSettings _ _)
    | mgmtWriteItem job =>
      exact execMgmtWriteItem_induct h
        (fun _ _ hh => linkFits_readsOnly (by decide) (mgmtHead_keeps (ps := [.classifier]) hh (by decide)) h)
        LinkFits.applyWrite (fun c as s hs => (LinkKept.offerReply s _ _).fits hs) (fun _ _ hs => hs) job
  · exact (exec_linkKept hc s).mono fun t k => k.fits h

/-! ## The intakes -/

/-- The intakes of `t` keep their capacities when those of `s` do, and the classification table is that of `s`. -/
structure IntakesKept (s t : State) : Prop where
  fits : IntakesFit s → IntakesFit t
  entries : t.classifier.entries = s.classifier.entries

theorem IntakesKept.refl (s : State) : IntakesKept s s := ⟨id, rfl⟩

theorem IntakesKept.trans {s t u : State} (h : IntakesKept s t) (k : IntakesKept t u) : IntakesKept s u :=
  ⟨fun f => k.fits (h.fits f), k.entries.trans h.entries⟩

theorem IntakesKept.of_unchanged {ps : List Part} {s t : State} (h : UnchangedBut ps s t)
    (hps : Part.classifier ∉ ps := by decide) : IntakesKept s t := by
  refine ⟨fun f => ?_, congrArg Classifier.entries (h.classifier hps)⟩
  unfold IntakesFit
  rw [h.classifier hps]
  exact f

/-- An intake loses its head. -/
theorem headOf_cons {cls : Nat} {q rest : List Copy} {c : Copy} (h : headOf cls q = some (c, rest)) :
    q = c :: rest ∧ c.frame.cls.toNat = cls := by
  unfold headOf at h
  split at h
  · split at h
    · next hc => cases h; exact ⟨rfl, hc⟩
    · cases h
  · cases h

theorem IntakesKept.setConsistIntake {s : State} {c : Copy} {rest : List Copy} {cls : Nat}
    (h : headOf cls s.classifier.consist = some (c, rest)) : IntakesKept s (setConsistIntake rest s) := by
  refine ⟨fun ⟨h1, h2, h3, h4⟩ => ⟨?_, h2, h3, h4⟩, rfl⟩
  rw [(headOf_cons h).1] at h1
  exact Nat.le_of_succ_le h1

/-- The part found is the head of the intake. -/
theorem partOf_some {part : PartFlag} {s : State} {k : LoadClass} {f : Frame} {rest : List Copy}
    (h : partOf part s = some (k, f, rest)) :
    ∃ p, s.classifier.batch = { frame := f, port := p } :: rest ∧ f.part = part ∧ loadClassOf f.cls.toNat = some k := by
  unfold partOf at h
  split at h
  · cases h
  · next c q hq =>
    split at h
    · next hp =>
      obtain ⟨x, hk, he⟩ := Option.map_eq_some_iff.1 h
      cases he
      exact ⟨c.port, hq, hp, hk⟩
    · cases h

theorem IntakesKept.setBatchIntake {part : PartFlag} {s : State} {k : LoadClass} {f : Frame} {rest : List Copy}
    (h : partOf part s = some (k, f, rest)) : IntakesKept s (setBatchIntake rest s) := by
  refine ⟨fun ⟨h1, h2, h3, h4⟩ => ⟨h1, ?_, h3, h4⟩, rfl⟩
  obtain ⟨p, hq, -, -⟩ := partOf_some h
  rw [hq] at h2
  exact Nat.le_of_succ_le h2

theorem IntakesKept.mgmtHead {cls : Nat} {s t : State} {c : Copy} (h : mgmtHead cls s = some (c, t)) :
    IntakesKept s t := by
  unfold Machine.mgmtHead at h
  split at h
  · next q hw hq =>
    split at h
    · cases h
      refine ⟨fun ⟨h1, h2, h3, h4⟩ => ⟨h1, h2, h3, ?_⟩, rfl⟩
      rw [hq] at h4
      exact Nat.le_of_succ_le h4
    · cases h
  · cases h

/-- A consume copy placed finds a place below the intake's capacity. -/
theorem IntakesKept.consumed {c : Copy} {s t : State} (h : CopyConsumed c s t) : IntakesKept s t := by
  cases h with
  | nothing => exact .refl s
  | overflow | position => exact ⟨id, rfl⟩
  | draw => exact .of_unchanged (consumeDraw_keeps (.refl [.engine, .panels, .notices, .mgmt, .reports] s))
  | consist h => exact ⟨fun ⟨_, h2, h3, h4⟩ => ⟨List.length_append.trans_le h, h2, h3, h4⟩, rfl⟩
  | batch h => exact ⟨fun ⟨h1, _, h3, h4⟩ => ⟨h1, List.length_append.trans_le h, h3, h4⟩, rfl⟩
  | notice h => exact ⟨fun ⟨h1, h2, _, h4⟩ => ⟨h1, h2, List.length_append.trans_le h, h4⟩, rfl⟩
  | mgmt h => exact ⟨fun ⟨h1, h2, h3, _⟩ => ⟨h1, h2, h3, List.length_append.trans_le h⟩, rfl⟩

theorem IntakesKept.classifyFrame (p : PortId) (s : State) : Ends (IntakesKept s) (execClassifyFrame p s) := by
  unfold execClassifyFrame
  split
  · exact .next (.refl s)
  · next f rest hq =>
    dsimp only
    have h1 : IntakesKept s (takeRxq p rest s) := .of_unchanged (takeRxq_keeps (.refl [.link] s))
    have h2 : IntakesKept s (if (classify (takeRxq p rest s) f).consume
        then Machine.consumeCopy { frame := f, port := p } (takeRxq p rest s) else takeRxq p rest s) := by
      split
      · exact h1.trans (.consumed (consumeCopy_consumed _ _))
      · exact h1
    exact .ite (fun _ => h2.trans (.of_unchanged (forwardCopy_keeps (.refl [.link, .reports] _)))) fun _ => h2

theorem IntakesKept.takeRoll (s : State) : Ends (IntakesKept s) (execTakeRoll s) := by
  unfold execTakeRoll
  split
  · exact .next (.refl s)
  · next hh =>
    dsimp only
    split
    · exact .next (.setConsistIntake hh)
    · split
      · exact .next (.setConsistIntake hh)
      · exact .next ((IntakesKept.setConsistIntake hh).trans
          (.of_unchanged (newRoll_keeps (.refl [.link, .consist, .resv, .panels, .reports] _))))

theorem IntakesKept.takeRollReturn (s : State) : Ends (IntakesKept s) (execTakeRollReturn s) := by
  unfold execTakeRollReturn
  split
  · exact .next (.refl s)
  · next hh =>
    dsimp only
    split
    · exact .next (.setConsistIntake hh)
    · split
      · exact .next ((IntakesKept.setConsistIntake hh).trans
          (.of_unchanged (returnOnward_keeps (.refl [.link, .reports] _))))
      · exact .next ((IntakesKept.setConsistIntake hh).trans (.of_unchanged (consistChanged_keeps
          (checkRoll_keeps (returnOnward_keeps (.refl [.link, .consist, .resv, .reports] _))))))

theorem IntakesKept.takeLabels (s : State) : Ends (IntakesKept s) (execTakeLabels s) := by
  unfold execTakeLabels
  split
  · exact .next (.refl s)
  · next hh =>
    dsimp only
    split
    · exact .next ((IntakesKept.setConsistIntake hh).trans (.of_unchanged (consistChanged_keeps
        (setLabel_keeps (consist_keeps (.refl [.consist, .resv, .reports] _))))))
    · exact .next (.setConsistIntake hh)

/-- The parts that a handover and the slots' own work change, less the intake. -/
abbrev handoverParts : List Part :=
  [.slots, .tracker, .notices, .resv, .engine, .panels, .mgmt, .reports, .freeCount]

theorem IntakesKept.batchSingle (s : State) : Ends (IntakesKept s) (execBatchSingle s) := by
  unfold execBatchSingle
  split
  · exact .next (.refl s)
  · next hh =>
    have hi := IntakesKept.setBatchIntake hh
    dsimp only
    split
    · exact .next (hi.trans (.of_unchanged (refusePart_keeps (.refl handoverParts _))))
    · split
      · exact .next (hi.trans (.of_unchanged (refusePart_keeps (.refl handoverParts _))))
      · next hc =>
        exact .next (hi.trans (.of_unchanged (noteNoBatch_keeps
          (handover_keeps (claimSlot_keeps (.refl handoverParts _) hc)))))

theorem IntakesKept.batchStart (s : State) : Ends (IntakesKept s) (execBatchStart s) := by
  unfold execBatchStart
  split
  · exact .next (.refl s)
  · next hh =>
    have hi := IntakesKept.setBatchIntake hh
    dsimp only
    split
    · exact .next (hi.trans (.of_unchanged (refusePart_keeps (.refl handoverParts _))))
    · split
      · exact .next (hi.trans (.of_unchanged (refusePart_keeps (.refl handoverParts _))))
      · split
        · exact .next (hi.trans (.of_unchanged (refusePart_keeps (.refl handoverParts _))))
        · next hc => exact .next (hi.trans (.of_unchanged (setSlot_keeps (claimSlot_keeps (.refl handoverParts _) hc))))

theorem IntakesKept.batchMiddle (s : State) : Ends (IntakesKept s) (execBatchMiddle s) := by
  unfold execBatchMiddle
  split
  · exact .next (.refl s)
  · next hh =>
    have hi := IntakesKept.setBatchIntake hh
    dsimp only
    split
    · exact .next hi
    · split
      · exact .next hi
      · split
        · exact .next (hi.trans (.of_unchanged (abandonBatch_keeps (.refl handoverParts _))))
        · exact .next (hi.trans (.of_unchanged (setSlot_keeps (.refl handoverParts _))))

theorem IntakesKept.batchEnd (s : State) : Ends (IntakesKept s) (execBatchEnd s) := by
  unfold execBatchEnd
  split
  · exact .next (.refl s)
  · next hh =>
    have hi := IntakesKept.setBatchIntake hh
    dsimp only
    split
    · exact .next hi
    · split
      · exact .next hi
      · split
        · exact .next (hi.trans (.of_unchanged (abandonBatch_keeps (.refl handoverParts _))))
        · exact .next (hi.trans (.of_unchanged
            (noteNoBatch_keeps (handover_keeps (setSlot_keeps (.refl handoverParts _))))))

theorem IntakesKept.takePosition (s : State) : Ends (IntakesKept s) (execTakePosition s) := by
  have hp : IntakesKept s { s with classifier := { s.classifier with position := none } } := ⟨id, rfl⟩
  unfold execTakePosition
  split
  · exact .next (.refl s)
  · dsimp only
    split
    · exact .next hp
    · split
      · exact .next (hp.trans (.of_unchanged
          (handOn_keeps (tracker_keeps (.refl [.tracker, .notices, .resv, .panels, .reports] _)))))
      · exact .next hp

theorem IntakesKept.takeNotice (s : State) : Ends (IntakesKept s) (execTakeNotice s) := by
  unfold execTakeNotice
  split
  · exact .next (.refl s)
  · next c rest hq =>
    have hi : IntakesKept s { s with classifier := { s.classifier with notice := rest } } := by
      refine ⟨fun ⟨h1, h2, h3, h4⟩ => ⟨h1, h2, ?_, h4⟩, rfl⟩
      rw [hq] at h3
      exact Nat.le_of_succ_le h3
    dsimp only
    split
    · exact .next hi
    · exact .next (hi.trans (.of_unchanged (offerNotice_keeps (.refl [.notices, .panels, .reports] _))))

theorem IntakesKept.mgmtReadItem (job : ReadJob) (s : State) : Ends (IntakesKept s) (execMgmtReadItem job s) := by
  unfold execMgmtReadItem
  split
  · exact .next ⟨id, rfl⟩
  · split
    · exact .next (.refl s)
    · next hh =>
      have h := IntakesKept.mgmtHead hh
      split
      · split
        · exact .next h
        · exact .next (h.trans (.of_unchanged (reply_keeps (.refl [.link, .mgmt] _))))
      · exact .next h

theorem IntakesKept.groupsWrite (index : Byte) (value : List Byte) (s : State) :
    Ends (IntakesKept s) (execGroupsWrite index value s) := by
  refine .next (IntakesKept.trans (t := (writeGroups index.toNat value s).1) ?_ ⟨id, rfl⟩)
  unfold writeGroups
  split
  · exact .refl s
  · split
    · exact .refl s
    · exact ⟨id, rfl⟩

theorem IntakesKept.softResetEffects (s : State) : Ends (IntakesKept s) (execSoftResetEffects s) := by
  refine .ite (fun _ => ?_) fun _ => .refl s
  have hm : IntakesKept s (meetRunning s) :=
    .of_unchanged (meetRunning_keeps (.refl [.engine, .panels, .freeCount] s))
  have ha (s : State) : IntakesKept s (applySoftReset s) :=
    ⟨fun ⟨_, _, _, h4⟩ => ⟨Nat.zero_le _, Nat.zero_le _, Nat.zero_le _, h4⟩, rfl⟩
  refine (hm.trans (ha _)).trans ?_
  unfold reofferReply
  split
  · exact .refl _
  · exact .of_unchanged (offerReply_keeps (.refl [.link, .mgmt] _))

/-- The commands that may write the classification table. -/
inductive WritesEntries : Instr → Prop
  | pinReset : WritesEntries .pinReset
  | classifyWrite (index value) : WritesEntries (.classifyWrite index value)
  | mgmtWriteItem (job) : WritesEntries (.mgmtWriteItem job)

/-- Every other command keeps the intakes' capacities and the classification table. -/
theorem exec_intakesKept {c : Instr} (hc : ¬ WritesEntries c) (s : State) :
    Ends (IntakesKept s) (exec c s) := by
  by_cases htouch : (touched c).contains .classifier
  · cases atClassifier_of_touched htouch with
    | pinReset => exact absurd .pinReset hc
    | classifyWrite => exact absurd (.classifyWrite _ _) hc
    | mgmtWriteItem => exact absurd (.mgmtWriteItem _) hc
    | classifyFrame p => exact IntakesKept.classifyFrame p s
    | takeRoll => exact IntakesKept.takeRoll s
    | takeRollReturn => exact IntakesKept.takeRollReturn s
    | takeLabels => exact IntakesKept.takeLabels s
    | batchSingle => exact IntakesKept.batchSingle s
    | batchStart => exact IntakesKept.batchStart s
    | batchMiddle => exact IntakesKept.batchMiddle s
    | batchEnd => exact IntakesKept.batchEnd s
    | takePosition => exact IntakesKept.takePosition s
    | takeNotice => exact IntakesKept.takeNotice s
    | mgmtReadItem job => exact IntakesKept.mgmtReadItem job s
    | groupsWrite index value => exact IntakesKept.groupsWrite index value s
    | softResetEffects => exact IntakesKept.softResetEffects s
  · exact (exec_ends c s).mono fun t h => .of_unchanged h (mt List.contains_iff_mem.2 htouch)

theorem intakesFit_readsOnly : ReadsOnly [.classifier] IntakesFit := fun hq h =>
  (IntakesKept.of_unchanged h (hq _ (by decide))).fits

theorem IntakesFit.writeClassify {s : State} (h : IntakesFit s) (i : Nat) (v : List Byte) :
    IntakesFit (writeClassify i v s).1 := by
  unfold Machine.writeClassify
  split
  · exact h
  · split
    · exact h
    · split
      · exact h
      · split <;> exact h

theorem IntakesFit.applyWrite (i : WriteItem) (s : State) (h : IntakesFit s) : IntakesFit (applyWrite i s).1 := by
  unfold Machine.applyWrite
  split
  case h_1 => exact intakesFit_readsOnly (by decide) (writeSettings_keeps
    (.refl [.link, .tracker, .scanner, .mgmt, .reports] s)) h
  case h_2 => exact h.writeClassify _ _
  case h_3 =>
    unfold writeGroups
    split
    · exact h
    · split <;> exact h
  case h_4 => exact intakesFit_readsOnly (by decide) (writeSeatmap_keeps (.refl [.resv] s)) h
  case h_5 => exact intakesFit_readsOnly (by decide) (writePanels_keeps
    (.refl [.engine, .panels, .notices, .mgmt, .reports, .freeCount] s)) h
  case h_6 => exact intakesFit_readsOnly (by decide) (writePalettes_keeps (.refl [.panels, .freeCount] s)) h
  case h_7 => exact intakesFit_readsOnly (by decide) (writeLines_keeps (.refl [.scanner] s)) h
  case h_8 => exact intakesFit_readsOnly (by decide) (writeDoors_keeps (.refl [.tracker] s)) h
  case h_9 => exact intakesFit_readsOnly (by decide) (writeReports_keeps (.refl [.reports] s)) h
  case h_10 => exact intakesFit_readsOnly (by decide) (writeSideglyphs_keeps (.refl [.panels] s)) h
  case h_11 => exact h
  case h_12 => exact intakesFit_readsOnly (by decide) (writeActions_keeps
    (.refl [.scanner, .engine, .panels, .notices, .mgmt, .reports, .freeCount] s)) h
  case h_13 => exact h

theorem intakesFit_reset : IntakesFit State.reset := by simp [IntakesFit, State.reset]

theorem intakesFit_exec (c : Instr) (s : State) (h : IntakesFit s) : Ends IntakesFit (exec c s) := by
  by_cases hc : WritesEntries c
  · cases hc with
    | pinReset => exact .next intakesFit_reset
    | classifyWrite index value => exact intakesFit_readsOnly.answered (by decide) (h.writeClassify _ _)
    | mgmtWriteItem job =>
      exact execMgmtWriteItem_induct h (fun _ _ hh => (IntakesKept.mgmtHead hh).fits h) IntakesFit.applyWrite
        (fun _ _ s hs => intakesFit_readsOnly (by decide) (reply_keeps (.refl [.link, .mgmt] s)) hs)
        (fun _ _ hs => hs) job
  · exact (exec_intakesKept hc s).mono fun t k => k.fits h

end Sys2Proof.Machine

namespace Sys2Proof

open Sys2Proof.Machine

/-- Settles O5: the capacities of the link and those of the intakes are each kept by every command. -/
theorem queuesNeverOverfill : Obligations.QueuesNeverOverfill := fun _ _ ⟨hl, hi⟩ hs =>
  ⟨linkFits_readsOnly.step (by decide) (fun c s _ => linkFits_exec c s) hl hs,
    intakesFit_readsOnly.step (by decide) (fun c s _ => intakesFit_exec c s) hi hs⟩

end Sys2Proof
end

section
/-! Proofs for the classification table, the batch slots and the report classes: their laws at every step. -/

namespace Sys2Proof.Machine

-- Proofs are elaborated in turn: side by side they take more memory.
set_option Elab.async false

open Sys2Proof

/-! ## The classification table (R32, R33) -/

theorem classifierLaw_of_entries {s t : State} (h : t.classifier.entries = s.classifier.entries)
    (hs : ClassifierLaw s) : ClassifierLaw t := by
  unfold ClassifierLaw
  rw [h]
  exact hs

theorem classifierLaw_readsOnly : ReadsOnly [.classifier] ClassifierLaw := fun hq h =>
  classifierLaw_of_entries (congrArg Classifier.entries (h.classifier (hq _ (by decide))))

/-- The one flag that no write may set is consume_on_match of the UNDEFINED entry, at index 21. -/
theorem ClassifierLaw.writeClassify {s : State} (h : ClassifierLaw s) (i : Nat) (v : List Byte) :
    ClassifierLaw (writeClassify i v s).1 := by
  unfold Machine.writeClassify
  split
  · exact h
  · split
    · exact h
    · split
      · exact h
      · next b hb =>
        split
        · exact h
        · next hno =>
          obtain ⟨hlen, hundef⟩ := h
          refine ⟨(updAt_length _ _ _).trans hlen, ?_⟩
          rw [List.getD_eq_getElem?_getD] at hundef ⊢
          by_cases h7 : i / 3 = 7
          · rw [h7, getElem?_updAt_same]
            rw [List.getElem?_eq_getElem (by omega)] at hundef ⊢
            simp only [Option.map_some, Option.getD_some] at hundef ⊢
            unfold ClassEntry.setFlag
            split
            · next h0 =>
              cases b
              · rfl
              · exact absurd ⟨by omega, rfl⟩ hno
            · exact hundef
            · exact hundef
          · rw [getElem?_updAt_ne (Ne.symm h7)]
            exact hundef

theorem ClassifierLaw.applyWrite (i : WriteItem) (s : State) (h : ClassifierLaw s) :
    ClassifierLaw (applyWrite i s).1 := by
  by_cases h1 : i.table.toNat = 1
  · rw [applyWrite_classify h1]
    exact h.writeClassify _ _
  · by_cases h2 : i.table.toNat = 2
    · refine classifierLaw_of_entries ?_ h
      rw [applyWrite_groups h2]
      unfold writeGroups
      split
      · rfl
      · split <;> rfl
    · refine classifierLaw_readsOnly ?_ (applyWrite_parts i s) h
      intro q hq
      rw [List.mem_singleton.1 hq]
      unfold tableParts
      split
      case h_2 => exact absurd ‹_› h1
      case h_3 => exact absurd ‹_› h2
      all_goals decide

theorem classifierLaw_reset : ClassifierLaw State.reset := by
  simp [ClassifierLaw, State.reset, List.replicate]

theorem classifierLaw_exec (c : Instr) (s : State) (h : ClassifierLaw s) : Ends ClassifierLaw (exec c s) := by
  by_cases hc : WritesEntries c
  · cases hc with
    | pinReset => exact .next classifierLaw_reset
    | classifyWrite index value => exact classifierLaw_readsOnly.answered (by decide) (h.writeClassify _ _)
    | mgmtWriteItem job =>
      exact execMgmtWriteItem_induct h
        (fun _ _ hh => classifierLaw_of_entries (IntakesKept.mgmtHead hh).entries h) ClassifierLaw.applyWrite
        (fun _ _ s hs => classifierLaw_readsOnly (by decide) (reply_keeps (.refl [.link, .mgmt] s)) hs)
        (fun _ _ hs => hs) job
  · exact (exec_intakesKept hc s).mono fun t k => classifierLaw_of_entries k.entries h

/-! ## The batch slots (R62) -/

theorem slotsLaw_readsOnly : ReadsOnly [.slots] SlotsLaw := fun hq h hs => by
  unfold SlotsLaw
  rw [h.slots (hq _ (by decide))]
  exact hs

theorem slotsLaw_iff {s : State} :
    SlotsLaw s ↔ ∀ a b, s.slots.slot .zero = some a → s.slots.slot .one = some b → a.cls ≠ b.cls := by
  simp only [SlotsLaw, Option.mem_toList, Slots.slot]
  exact ⟨fun h a b ha => h a ha b, fun h a ha b => h a b ha⟩

/-- A slot that becomes FREE. -/
theorem SlotsLaw.setSlot_none (i : SlotId) (s : State) : SlotsLaw (setSlot i none s) := by
  rw [slotsLaw_iff]
  intro a b ha hb
  cases i
  · cases ha
  · cases hb

/-- A slot that assembles a batch of a class that the other slot has not. -/
theorem SlotsLaw.setSlot_some {s : State} {i : SlotId} {x : Batch}
    (h : ∀ j y, j ≠ i → s.slots.slot j = some y → y.cls ≠ x.cls) : SlotsLaw (setSlot i (some x) s) := by
  rw [slotsLaw_iff]
  intro a b ha hb
  cases i
  · cases ha
    exact (h .one b (by decide) hb).symm
  · cases hb
    exact h .zero a (by decide) ha

/-- Two slots never assemble the same class. -/
theorem SlotsLaw.cls_ne {s : State} (h : SlotsLaw s) {i j : SlotId} {x y : Batch} (hij : j ≠ i)
    (hx : s.slots.slot i = some x) (hy : s.slots.slot j = some y) : y.cls ≠ x.cls := by
  rw [slotsLaw_iff] at h
  cases i <;> cases j
  · exact absurd rfl hij
  · exact (h x y hx hy).symm
  · exact h y x hy hx
  · exact absurd rfl hij

theorem findSlot_none_iff {k : Slots} {test : Batch → Bool} :
    k.findSlot test = none ↔ ∀ i x, k.slot i = some x → test x = false := by
  have hopt (o : Option Batch) : (o.map test).getD false = false ↔ ∀ x, o = some x → test x = false := by
    cases o <;> simp
  unfold Slots.findSlot
  constructor
  · intro h i x hx
    split at h
    · cases h
    · split at h
      · cases h
      · next h0 h1 =>
        cases i
        · exact (hopt _).1 (Bool.eq_false_iff.2 h0) x hx
        · exact (hopt _).1 (Bool.eq_false_iff.2 h1) x hx
  · intro h
    have h0 := (hopt k.slot0).2 fun x hx => h .zero x hx
    have h1 := (hopt k.slot1).2 fun x hx => h .one x hx
    rw [if_neg (Bool.eq_false_iff.1 h0), if_neg (Bool.eq_false_iff.1 h1)]

/-- A slot that is found holds a batch that satisfies the test. -/
theorem findSlot_some {k : Slots} {test : Batch → Bool} {i : SlotId} (h : k.findSlot test = some i) :
    ∃ x, k.slot i = some x ∧ test x = true := by
  have hopt {o : Option Batch} (ho : (o.map test).getD false = true) : ∃ x, o = some x ∧ test x = true := by
    cases o with
    | none => cases ho
    | some x => exact ⟨x, rfl, ho⟩
  unfold Slots.findSlot at h
  split at h
  · next h0 => cases h; exact hopt h0
  · split at h
    · next h1 => cases h; exact hopt h1
    · cases h

/-- The slot claimed for a class, with the slots' law: it is that of the class, now FREE, or one that was FREE; the
other slot is as it was and has another class. -/
theorem claimSlot_slots {k : LoadClass} {s t : State} {i : SlotId} (h : SlotsLaw s)
    (hc : claimSlot k s = some (i, t)) : SlotsLaw t ∧ ∀ j y, j ≠ i → t.slots.slot j = some y → y.cls ≠ k := by
  unfold claimSlot at hc
  split at hc
  · next i' hf =>
    obtain ⟨x, hx, hk⟩ := findSlot_some hf
    have hk : x.cls = k := of_decide_eq_true hk
    simp only [hx] at hc
    cases hc
    refine ⟨.setSlot_none i s, fun j y hj hy => ?_⟩
    have hy' : s.slots.slot j = some y := by
      cases i <;> cases j <;> first | exact absurd rfl hj | exact hy
    exact hk ▸ h.cls_ne hj hx hy'
  · next hf =>
    obtain ⟨i', hi', he⟩ := Option.map_eq_some_iff.1 hc
    cases he
    exact ⟨h, fun j y _ hy => of_decide_eq_false (findSlot_none_iff.1 hf j y hy)⟩

theorem slotsLaw_handover {k : LoadClass} {f : Frame} {n : Nat} {c : List Byte} {s : State} (h : SlotsLaw s) :
    SlotsLaw (handover k f n c s) :=
  slotsLaw_readsOnly (by decide)
    (handover_keeps (.refl [.tracker, .notices, .resv, .engine, .panels, .reports, .freeCount] s)) h

theorem SlotsLaw.abandonBatch (i : SlotId) (b : Batch) (w : BatchReason) (n : Nat) (s : State) :
    SlotsLaw (abandonBatch i b w n s) :=
  slotsLaw_readsOnly (by decide) (noteNoBatch_keeps (batchRejected_keeps (.refl [.mgmt, .reports] _)))
    (.setSlot_none i s)

theorem SlotsLaw.refusePart {s : State} (h : SlotsLaw s) (k : LoadClass) (f : Frame) (w : BatchReason) :
    SlotsLaw (refusePart k f w s) := h

theorem slotsLaw_batchStart {s : State} (h : SlotsLaw s) : Ends SlotsLaw (execBatchStart s) := by
  unfold execBatchStart
  split
  · exact .next h
  · next k f rest hh =>
    have hi : SlotsLaw (setBatchIntake rest s) := h
    dsimp only
    split
    · exact .next (hi.refusePart _ _ _)
    · split
      · exact .next (hi.refusePart _ _ _)
      · split
        · exact .next (hi.refusePart _ _ _)
        · next hc => exact .next (.setSlot_some (claimSlot_slots hi hc).2)

theorem slotsLaw_batchMiddle {s : State} (h : SlotsLaw s) : Ends SlotsLaw (execBatchMiddle s) := by
  unfold execBatchMiddle
  split
  · exact .next h
  · next k f rest hh =>
    have hi : SlotsLaw (setBatchIntake rest s) := h
    dsimp only
    split
    · exact .next hi
    · split
      · exact .next hi
      · next i _ b hb =>
        split
        · exact .next (.abandonBatch _ _ _ _ _)
        · exact .next (.setSlot_some fun j y hj hy => (hi.cls_ne hj hb hy : y.cls ≠ b.cls))

theorem slotsLaw_exec (c : Instr) (s : State) (hc : ¬ ∀ q ∈ [Part.slots], q ∉ touched c) (h : SlotsLaw s) :
    Ends SlotsLaw (exec c s) := by
  cases atSlots_of_touched (touches_of_not_forall hc) with
  | pinReset => exact .next (fun a ha => nomatch ha)
  | batchSingle =>
    exact execBatchSingle_induct h (fun _ _ hs => hs) (fun _ _ _ _ hs => hs)
      (fun _ _ _ _ hs hcl => (claimSlot_slots hs hcl).1) (fun _ _ _ _ _ hs => slotsLaw_handover hs)
      (fun s hs => slotsLaw_readsOnly (by decide) (noteNoBatch_keeps (.refl [.mgmt] s)) hs)
  | batchStart => exact slotsLaw_batchStart h
  | batchMiddle => exact slotsLaw_batchMiddle h
  | batchEnd =>
    exact execBatchEnd_induct h (fun _ _ hs => hs) (fun i b w n s _ => .abandonBatch i b w n s)
      (fun i s _ => .setSlot_none i s) (fun _ _ _ _ _ hs => slotsLaw_handover hs)
      (fun s hs => slotsLaw_readsOnly (by decide) (noteNoBatch_keeps (.refl [.mgmt] s)) hs)
  | batchTimeout i =>
    show Ends SlotsLaw (execBatchTimeout i s)
    unfold execBatchTimeout
    split
    · exact .next h
    · exact .next (.abandonBatch _ _ _ _ _)
  | softResetEffects =>
    refine .ite (fun _ => ?_) fun _ => h
    have ha : SlotsLaw (applySoftReset (meetRunning s)) := fun a ha => nomatch ha
    unfold reofferReply
    split
    · exact ha
    · exact slotsLaw_readsOnly (by decide) (offerReply_keeps (.refl [.link, .mgmt] _)) ha

/-! ## The report classes (R196, R197) -/

/-- A report cell that is due is pending and enabled. -/
def ReportCell.Lawful (x : ReportCell) : Prop := x.due = true → x.pending = true ∧ x.enable = true

/-- The report classes of `t` keep their law when those of `s` do. -/
def ReportsKept (s t : State) : Prop := ReportsLaw s → ReportsLaw t

theorem ReportsKept.refl (s : State) : ReportsKept s s := id

theorem ReportsKept.trans {s t u : State} (h : ReportsKept s t) (k : ReportsKept t u) : ReportsKept s u := k ∘ h

theorem ReportsKept.of_reports {s t : State} (h : t.reports.cells = s.reports.cells) : ReportsKept s t := fun hs => by
  unfold ReportsLaw
  rw [h]
  exact hs

theorem ReportsKept.of_unchanged {ps : List Part} {s t : State} (h : UnchangedBut ps s t)
    (hps : Part.reports ∉ ps := by decide) : ReportsKept s t :=
  .of_reports (congrArg Reports.cells (h.reports hps))

theorem reportsLaw_readsOnly : ReadsOnly [.reports] ReportsLaw := fun hq h =>
  ReportsKept.of_unchanged h (hq _ (by decide))

/-- One cell replaced by a lawful one. -/
theorem ReportsKept.setCell (s : State) (k : Nat) (f : ReportCell → ReportCell)
    (hf : ∀ x : ReportCell, x.Lawful → (f x).Lawful) : ReportsKept s (Machine.setCell k f s) := by
  rintro ⟨hlen, hall⟩
  refine ⟨(updAt_length _ _ _).trans hlen, fun x hx => ?_⟩
  obtain hx | ⟨y, hy, rfl⟩ := mem_updAt hx
  · exact hall x hx
  · exact hf y (hall y (List.mem_of_getElem? hy))

/-- A class that becomes due is pending, and due only when enabled. -/
theorem raiseCell_lawful (d : List Byte) (x : ReportCell) (h : x.Lawful) : (raiseCell d x).Lawful := by
  unfold raiseCell
  split
  · exact h
  · exact fun hd => ⟨rfl, hd⟩

theorem ReportsKept.raise (s : State) (c : ReportClass) (d : List Byte) : ReportsKept s (raise c d s) :=
  .setCell s (reportNum c) (raiseCell d) (raiseCell_lawful d)

/-- Every cell replaced by a lawful one. -/
theorem ReportsKept.map (s : State) (f : ReportCell → ReportCell)
    (hf : ∀ x : ReportCell, x.Lawful → (f x).Lawful) :
    ReportsKept s { s with reports := { s.reports with cells := s.reports.cells.map f } } := by
  rintro ⟨hlen, hall⟩
  refine ⟨(List.length_map _).trans hlen, fun x hx => ?_⟩
  obtain ⟨y, hy, rfl⟩ := List.mem_map.1 hx
  exact hf y (hall y hy)

/-! ### What raises a class, chapter by chapter -/

theorem ReportsKept.raiseOverflow (s : State) (k : Nat) (p : Option PortId) :
    ReportsKept s (Machine.raiseOverflow k p s) := .raise s _ _

theorem ReportsKept.raiseConsist (s : State) : ReportsKept s (Machine.raiseConsist s) := .raise s _ _

theorem ReportsKept.offerFtx (s : State) (p : PortId) (f : Frame) : ReportsKept s (Machine.offerFtx p f s) := by
  obtain ⟨-, -, he⟩ | ⟨-, -, he⟩ | ⟨-, he⟩ := offerFtx_cases p f s
  · rw [he]; exact .of_reports rfl
  · rw [he]; exact .raiseOverflow s _ _
  · rw [he]; exact .refl s

theorem ReportsKept.placeRxq (s : State) (p : PortId) (f : Frame) : ReportsKept s (Machine.placeRxq p f s) := by
  unfold Machine.placeRxq
  split
  · exact .raiseOverflow s _ _
  · exact .of_reports rfl

theorem ReportsKept.placeHeld (p : PortId) : (fs : List Frame) → (s : State) →
    ReportsKept s (Machine.placeHeld p fs s)
  | [], s => .refl s
  | f :: fs, s => (ReportsKept.placeRxq s p f).trans (ReportsKept.placeHeld p fs _)

/-- A port replaced leaves the reports. -/
theorem ReportsKept.setPort (s : State) (p : PortId) (x : Port) : ReportsKept s (s.setPort p x) := .of_reports rfl

theorem ReportsKept.releaseHeld (s : State) (p : PortId) (l : LaneId) : ReportsKept s (Machine.releaseHeld p l s) :=
  (ReportsKept.setPort s p _).trans (.placeHeld p _ _)

theorem ReportsKept.reportPort (s : State) (p : PortId) (k : Nat) : ReportsKept s (Machine.reportPort p k s) :=
  .raise s _ _

theorem ReportsKept.topologyChange (s : State) : ReportsKept s (Machine.topologyChange s) := by
  unfold Machine.topologyChange
  split
  · exact ReportsKept.raiseConsist { s with consist := { s.consist with state := .stale } }
  · exact .refl s

theorem ReportsKept.passToOff (s : State) (p : PortId) : ReportsKept s (Machine.passToOff p s) := by
  unfold Machine.passToOff
  split
  · exact (ReportsKept.setPort s p _).trans (.reportPort _ p 0)
  · exact .refl s

theorem ReportsKept.enterDown (s : State) (p : PortId) (k : Nat) : ReportsKept s (Machine.enterDown p k s) :=
  ((ReportsKept.setPort s p _).trans (.reportPort _ p k)).trans (.passToOff _ p)

theorem ReportsKept.enterTraining (s : State) (p : PortId) (l : LaneId) :
    ReportsKept s (Machine.enterTraining p l s) := (ReportsKept.setPort s p _).trans (.reportPort _ p 0)

theorem ReportsKept.enterUp (s : State) (p : PortId) (st : PortState) (a b : Lane) :
    ReportsKept s (Machine.enterUp p st a b s) :=
  ((ReportsKept.setPort s p _).trans (.reportPort _ p 0)).trans (.topologyChange _)

theorem ReportsKept.endWindowEarly (s : State) (p : PortId) : ReportsKept s (Machine.endWindowEarly p s) := by
  unfold Machine.endWindowEarly
  dsimp only
  split <;> exact .enterUp _ _ _ _ _

theorem ReportsKept.leaveUp (s : State) (p : PortId) : ReportsKept s (Machine.leaveUp p s) :=
  ((ReportsKept.placeHeld p _ s).trans (.setPort _ p _)).trans (.topologyChange _)

theorem ReportsKept.afterValid (s : State) (p : PortId) (l : LaneId) : ReportsKept s (Machine.afterValid p l s) :=
  ((ReportsKept.setPort s p _).trans (.releaseHeld _ p _)).trans (.setPort _ p _)

theorem ReportsKept.receiveBad (s : State) (p : PortId) (l : LaneId) (r : RxReason) :
    ReportsKept s (Machine.receiveBad p l r s) := by
  unfold Machine.receiveBad
  dsimp only
  refine (ReportsKept.raise s .rxError [byteOf (portCode p), byteOf (laneCode l), byteOf (rxReasonCode r)]).trans ?_
  split <;> split
  · exact ((ReportsKept.setPort _ p _).trans (.releaseHeld _ p _)).trans (.setPort _ p _)
  · exact .setPort _ p _
  · exact (ReportsKept.releaseHeld _ p _).trans (.setPort _ p _)
  · exact .refl _

theorem ReportsKept.actTrain (s : State) (p : PortId) (l : LaneId) (ph : TrainPhase) :
    ReportsKept s (Machine.actTrain p l ph s) := by
  have training (s : State) : ReportsKept s (Machine.enterTraining p l (Machine.leaveUp p s)) :=
    (ReportsKept.leaveUp s p).trans (.enterTraining _ p l)
  have answer (s : State) : ReportsKept s (if (s.port p).activeOn l then
      Machine.afterValid p l (s.setPort p ((s.port p).setLane l { (s.port p).lane l with syncAnswer := true }))
      else s) := by
    split
    · exact (ReportsKept.setPort s p _).trans (.afterValid _ p l)
    · exact .refl s
  unfold Machine.actTrain
  dsimp only
  split
  · exact .refl s
  · exact .enterTraining s p l
  · split
    · exact (ReportsKept.setPort s p _).trans (.endWindowEarly _ p)
    · exact .setPort s p _
  · cases ph
    · exact training s
    · exact answer s
  · cases ph
    · exact training s
    · exact answer s

theorem ReportsKept.acceptFrame (s : State) (p : PortId) (l : LaneId) (later : Bool) (f : Frame) :
    ReportsKept s (Machine.acceptFrame p l later f s) := by
  unfold Machine.acceptFrame
  dsimp only
  split
  · exact .setPort s p _
  · exact (ReportsKept.placeRxq s p f).trans (.afterValid _ p l)

theorem ReportsKept.writeHeld (s : State) (p : PortId) (x : PortSettings) :
    ReportsKept s (Machine.writeHeld p x s) := by
  unfold Machine.writeHeld
  dsimp only
  split
  · split
    · exact (ReportsKept.setPort s p _).trans (.enterDown _ p 0)
    · exact .setPort s p _
  · exact ((ReportsKept.setPort s p _).trans (.setPort _ p _)).trans (.passToOff _ p)
  all_goals exact .setPort s p _

theorem ReportsKept.startPort (s : State) (p : PortId) : ReportsKept s (Machine.startPort p s) := by
  unfold Machine.startPort
  split
  · exact .enterDown s p 0
  · exact .setPort s p _

theorem ReportsKept.reportDraw (src : DrawSource) (r : Record) (res : DrawResult) (s : State) :
    ReportsKept s (Machine.reportDraw src r res s) := by
  unfold Machine.reportDraw
  split
  · exact .raise s _ _
  · exact .refl s

theorem ReportsKept.startRecord (src : DrawSource) (r : Record) (s : State) :
    ReportsKept s (Machine.startRecord src r s) := by
  unfold Machine.startRecord
  split
  · split
    · exact .of_unchanged (markFlip_keeps (.refl [.panels, .notices] s))
    · exact .of_reports rfl
  · exact .reportDraw src r .refused s

theorem ReportsKept.resumeRecord (u : Running) (s : State) : ReportsKept s (Machine.resumeRecord u s) := by
  unfold Machine.resumeRecord
  split
  · exact .of_reports rfl
  · refine ReportsKept.trans ?_ (.reportDraw u.source u.record .refused _)
    exact .of_reports rfl

/-- One choice of the engine arbiter starts, resumes or refuses one record. -/
theorem chooseOnce_cases {s t : State} (h : chooseOnce s = some t) :
    s.engine.running = none ∧
    ((∃ r rest, s.engine.composerQ = r :: rest ∧ flipFree r s = true ∧
        t = startRecord .composer r { s with engine := { s.engine with composerQ := rest } }) ∨
      (∃ u, s.engine.composerQ = [] ∧ s.engine.suspended = some u ∧ flipFree u.record s = true ∧
        t = resumeRecord u s) ∨
      (∃ r rest, s.engine.composerQ = [] ∧ s.engine.suspended = none ∧ s.engine.inBandQ = r :: rest ∧
        flipFree r s = true ∧
        t = startRecord .inBand r { s with engine := { s.engine with inBandQ := rest } })) := by
  unfold chooseOnce at h
  split at h
  · cases h
  · next hrun =>
    refine ⟨hrun, ?_⟩
    split at h
    · next r rest hq =>
      split at h <;> cases h
      exact .inl ⟨r, rest, hq, ‹_›, rfl⟩
    · next hq =>
      split at h
      · next u hu =>
        split at h <;> cases h
        exact .inr (.inl ⟨u, hq, hu, ‹_›, rfl⟩)
      · next hu =>
        split at h
        · next r rest hb =>
          split at h <;> cases h
          exact .inr (.inr ⟨r, rest, hq, hu, hb, ‹_›, rfl⟩)
        · cases h

/-- What every choice keeps, the engine arbiter keeps. -/
theorem runEngine_induct {P : State → Prop} (choose : ∀ s t, P s → chooseOnce s = some t → P t)
    (note : ∀ s, P s → P (noteEngineIdle s)) (s : State) (h : P s) : P (runEngine s) := by
  have loop : (n : Nat) → (s : State) → P s → P (chooseLoop n s) := by
    intro n
    induction n with
    | zero => exact fun _ h => h
    | succ n ih =>
      intro s h
      unfold chooseLoop
      split
      · exact h
      · next t ht => exact ih t (choose s t h ht)
  exact note _ (loop _ s h)

theorem ReportsKept.runEngine (s : State) : ReportsKept s (Machine.runEngine s) := by
  refine runEngine_induct (P := ReportsLaw) (fun s t h hc => ?_) (fun s h => ?_) s
  · obtain ⟨-, ⟨r, rest, -, -, rfl⟩ | ⟨u, -, -, -, rfl⟩ | ⟨r, rest, -, -, -, -, rfl⟩⟩ := chooseOnce_cases hc
    · exact ReportsKept.startRecord .composer r { s with engine := { s.engine with composerQ := rest } } h
    · exact ReportsKept.resumeRecord u s h
    · exact ReportsKept.startRecord .inBand r { s with engine := { s.engine with inBandQ := rest } } h
  · exact reportsLaw_readsOnly (by decide) (noteEngineIdle_keeps (.refl [.mgmt] s)) h

theorem ReportsKept.endRecord (u : Running) (s : State) : ReportsKept s (Machine.endRecord u s) :=
  ReportsKept.trans (t := { s with engine := (Engine.leavePattern { s.engine with
    running := none, heldLine := heldAfter u s.engine.heldLine } u.source u.work) }) (.of_reports rfl)
    ((ReportsKept.reportDraw u.source u.record (endResult u.work) _).trans (.runEngine _))

theorem ReportsKept.abortDraw (s : State) : ReportsKept s (Machine.abortDraw s).1 := by
  have hmeet (s : State) : ReportsKept s (meetRunning s) :=
    .of_unchanged (meetRunning_keeps (.refl [.engine, .panels, .freeCount] s))
  have stopped {s t : State} (e : Engine) (h : ReportsKept s t) : ReportsKept s { t with engine := e } := h
  unfold Machine.abortDraw
  split
  · exact .refl s
  · dsimp only
    refine ReportsKept.trans ?_ (.runEngine _)
    split
    · refine ReportsKept.trans ?_ (.reportDraw .inBand _ .aborted _)
      split
      · split
        · exact stopped _ (hmeet s)
        · exact stopped _ (.refl s)
      · exact stopped _ (.refl s)
    · split
      · split
        · exact stopped _ (hmeet s)
        · exact stopped _ (.refl s)
      · exact stopped _ (.refl s)

/-- The parts a change of a panel's enable or role reaches, the engine arbiter apart. -/
abbrev panelParts : List Part := [.engine, .panels, .notices, .freeCount]

theorem ReportsKept.writePanelEnable (s : State) (p : PanelId) (v : List Byte) :
    ReportsKept s (Machine.writePanelEnable p v s).1 := by
  unfold Machine.writePanelEnable
  split
  · exact .refl s
  · dsimp only
    split
    · exact .refl s
    · refine ReportsKept.trans ?_ (.runEngine _)
      split
      · exact .of_unchanged (markPanel_keeps (settleEnabled_keeps (setPanel_keeps (.refl panelParts s))))
      · exact .of_unchanged (settleEnabled_keeps (setPanel_keeps (.refl panelParts s)))

theorem ReportsKept.writePanelRole (s : State) (p : PanelId) (v : List Byte) :
    ReportsKept s (Machine.writePanelRole p v s).1 := by
  unfold Machine.writePanelRole
  split
  · exact .refl s
  · split
    · exact .refl s
    · dsimp only
      split
      · exact .refl s
      · refine ReportsKept.trans ?_ (.runEngine _)
        exact .of_unchanged (settleEnabled_keeps (engine_panels_keeps (setPanel_keeps (.refl panelParts s))))

theorem ReportsKept.writePanels (s : State) (i : Nat) (v : List Byte) :
    ReportsKept s (Machine.writePanels i v s).1 := by
  unfold Machine.writePanels
  split
  · exact .refl s
  · split
    · exact .writePanelRole s _ v
    · exact .of_unchanged (writePanelGeometry_keeps (.refl panelParts s))
    · exact .of_unchanged (writePanelGeometry_keeps (.refl panelParts s))
    · exact .of_unchanged (writePanelTiming_keeps (.refl panelParts s))
    · exact .of_unchanged (writePanelTiming_keeps (.refl panelParts s))
    · exact .writePanelEnable s _ v
    · exact .of_unchanged (writePanelField_keeps (.refl panelParts s))

theorem ReportsKept.consumeDraw (s : State) (f : Frame) : ReportsKept s (Machine.consumeDraw f s) := by
  unfold Machine.consumeDraw
  split
  · exact .raise s _ _
  · split
    · exact .raise s _ _
    · next rs _ =>
      split
      · exact ReportsKept.trans (t := { s with engine := { s.engine with inBandQ := s.engine.inBandQ ++ rs } })
          (.of_reports rfl) (.runEngine _)
      · exact .raiseOverflow s _ _

theorem ReportsKept.consumed {c : Copy} {s t : State} (h : CopyConsumed c s t) : ReportsKept s t := by
  cases h with
  | overflow => exact .raiseOverflow s _ _
  | draw => exact .consumeDraw s _
  | nothing | position | consist | batch | notice | mgmt => exact .of_reports rfl

theorem ReportsKept.forwardCopy (s : State) (c : Copy) : ReportsKept s (Machine.forwardCopy c s) := by
  unfold Machine.forwardCopy
  split
  · exact .refl s
  · exact .offerFtx s _ _

theorem ReportsKept.failRoll (s : State) (why : RollFailure) : ReportsKept s (Machine.failRoll why s) :=
  ReportsKept.raise { s with consist := { s.consist with
    state := .uninaugurated, record := none, table := [], ordinal := 0 } } _ _

theorem ReportsKept.checkRoll (s : State) (r : Roll) (rr : RollRecord) :
    ReportsKept s (Machine.checkRoll r rr s) := by
  unfold Machine.checkRoll
  split
  · exact .failRoll s _
  · exact .of_unchanged (adoptRoll_keeps (.refl [.consist, .resv] s))

theorem ReportsKept.consistChanged (before s : State) : ReportsKept s (Machine.consistChanged before s) := by
  unfold Machine.consistChanged
  split
  · exact .refl s
  · exact .raiseConsist s

theorem ReportsKept.newRoll (s : State) (c : Copy) (r : Roll) : ReportsKept s (Machine.newRoll c r s) := by
  have hf : ReportsKept s (setFacing (facingOf c.port c.frame.origin) s) :=
    .of_unchanged (setFacing_keeps (.refl [.consist, .panels] s))
  have hs {t u : State} {x : Consist} (h : ReportsKept { t with consist := x } u) : ReportsKept t u := h
  unfold Machine.newRoll
  dsimp only
  split
  · exact hf.trans (hs ((ReportsKept.consistChanged s _).trans (.offerFtx _ _ _)))
  · exact hf.trans (hs (((ReportsKept.checkRoll _ _ _).trans (.raiseConsist _)).trans
      (.of_unchanged (offerReturn_keeps (.refl [.link, .consist] _)))))

theorem ReportsKept.returnOnward (s : State) (p : PortId) (f : Frame) :
    ReportsKept s (Machine.returnOnward p f s) := by
  unfold Machine.returnOnward
  split
  · exact .refl s
  · exact .offerFtx s p _

theorem ReportsKept.reportSkipped (h : Handling) (s : State) : ReportsKept s (Machine.reportSkipped h s) := by
  unfold Machine.reportSkipped
  split
  · exact .refl s
  · exact .raise s _ _

theorem ReportsKept.handOn (before : State) (stops : List Stop) (h : Handling) (s : State) :
    ReportsKept s (Machine.handOn before stops h s) := by
  unfold Machine.handOn
  dsimp only
  refine ReportsKept.trans ?_ (.reportSkipped h _)
  exact .of_unchanged (tellAdvance_keeps (markHandoff_keeps
    (tracker_notices_keeps (.refl [.tracker, .notices, .resv, .panels] s))))

theorem ReportsKept.judgeEdge (d : DoorId) (b : Bool) (s : State) : ReportsKept s (Machine.judgeEdge d b s) := by
  have told (s : State) : ReportsKept s (doorUnexpected d b s) := .raise s _ _
  have arrive (stops : List Stop) (s : State) : ReportsKept s (doorArrival stops s) :=
    ReportsKept.trans (t := { s with tracker := { s.tracker with motion := .stationary, v := 0 } })
      (.of_reports rfl) (.handOn s stops _ _)
  unfold Machine.judgeEdge
  split
  · exact .refl s
  · split
    · exact .refl s
    · exact .refl s
    · exact told s
    · split
      · exact told s
      · split
        · exact (told s).trans (arrive _ _)
        · exact arrive _ s

theorem ReportsKept.noticeDropped (k : Nat) (n : Notice) (s : State) :
    ReportsKept s (Machine.noticeDropped k n s) := .raise s _ _

theorem ReportsKept.displace (n : Notice) (s : State) : ReportsKept s (Machine.displace n s) := by
  unfold Machine.displace
  split
  · split
    · exact ((ReportsKept.of_unchanged (setQueue_keeps (.refl [.notices, .panels] s))).trans
        (.noticeDropped 1 _ _)).trans (.of_unchanged (placeNotice_keeps (.refl [.notices, .panels] _)))
    · exact .noticeDropped 0 n s
  · exact .noticeDropped 0 n s

theorem ReportsKept.offerNotice (n : Notice) (s : State) : ReportsKept s (Machine.offerNotice n s) := by
  have hs : ReportsKept s (supersede n.kind s) := .of_unchanged (supersede_keeps (.refl [.notices, .panels] s))
  unfold Machine.offerNotice
  dsimp only
  split
  · exact hs.trans (.of_unchanged (placeNotice_keeps (.refl [.notices, .panels] _)))
  · exact hs.trans (.displace n _)

theorem ReportsKept.fireTrigger (k : Nat) (s : State) : ReportsKept s (Machine.fireTrigger k s) := by
  unfold Machine.fireTrigger
  split
  · exact .refl s
  · exact ReportsKept.trans (.of_reports rfl) (.offerNotice _ { s with notices := { s.notices with
      table := updAt k (fun e => { e with state := .fired }) s.notices.table } })

theorem ReportsKept.fireAll : (ks : List Nat) → (s : State) → ReportsKept s (Machine.fireAll ks s)
  | [], s => .refl s
  | k :: ks, s => (ReportsKept.fireTrigger k s).trans (ReportsKept.fireAll ks _)

theorem ReportsKept.fireEvent (ev : TriggerEvent) (a : Option Nat) (s : State) :
    ReportsKept s (Machine.fireEvent ev a s) := by
  unfold Machine.fireEvent
  split
  · exact .refl s
  · exact .fireAll _ s

theorem ReportsKept.actHandoff (h : Handoff) (s : State) : ReportsKept s (Machine.actHandoff h s) :=
  (((ReportsKept.fireEvent .departure h.departed s).trans (.fireEvent .arrival h.arrived _)).trans
    (.of_reports rfl)).trans (.fireAll _ (voidTable h _))

theorem ReportsKept.actTracker (m : TrackerMsg) (s : State) : ReportsKept s (Machine.actTracker m s) := by
  cases m
  · exact .actHandoff _ s
  · exact .of_unchanged (actJourneyReset_keeps (.refl [.notices, .panels] s))

theorem ReportsKept.actTrackers : (ms : List TrackerMsg) → (s : State) →
    ReportsKept s (ms.foldl (fun s m => Machine.actTracker m s) s)
  | [], s => .refl s
  | m :: ms, s => (ReportsKept.actTracker m s).trans (ReportsKept.actTrackers ms _)

theorem ReportsKept.catchUp (k : LoadClass) (s : State) : ReportsKept s (Machine.catchUp k s) := by
  cases k
  · exact .refl s
  · show ReportsKept s (catchUpNotices s)
    unfold catchUpNotices
    split
    · exact .refl s
    · next past rest _ =>
      exact ReportsKept.trans (t := setFromTracker rest s) (.of_reports rfl) (.actTrackers past _)
  · exact .of_unchanged (catchUpResv_keeps (.refl [.resv] s))
  · exact .refl s

theorem ReportsKept.reportFailures (e : TrainEnd) (b : Byte) (fs : Failures) (s : State) :
    ReportsKept s (Machine.reportFailures e b fs s) := by
  unfold Machine.reportFailures
  split
  · exact .refl s
  · exact .raise s _ _

theorem ReportsKept.judge {k : LoadClass} {e : TrainEnd} {b : Byte} {v : List Byte} {s t : State}
    (h : judge k e b v s = .committed t) : ReportsKept s t := by
  cases k with
  | journey => exact .of_unchanged (loadJourney_keeps (.refl [.tracker, .notices, .resv, .panels] s) h)
  | triggers => exact .of_unchanged (loadTriggers_keeps (.refl [.notices] s) h)
  | glyphs => exact .of_unchanged (loadGlyphs_keeps (.refl [.engine, .panels, .freeCount] s) h)
  | reservations =>
    change loadReservations e b v s = .committed t at h
    unfold loadReservations at h
    split at h
    · cases h
    · cases h
    · split at h
      · cases h
      · split at h
        · cases h
          refine ReportsKept.trans ?_ (.reportFailures e b _ _)
          exact .of_reports rfl
        · split at h
          · cases h
          · cases h
            exact .of_reports rfl

theorem ReportsKept.handover (k : LoadClass) (f : Frame) (n : Nat) (v : List Byte) (s : State) :
    ReportsKept s (Machine.handover k f n v s) := by
  unfold Machine.handover
  dsimp only
  split
  · next h => exact ((ReportsKept.catchUp k s).trans (.judge h)).trans (.raise _ _ _)
  · exact (ReportsKept.catchUp k s).trans (.raise _ _ _)

theorem ReportsKept.abandonBatch (i : SlotId) (b : Batch) (w : BatchReason) (n : Nat) (s : State) :
    ReportsKept s (Machine.abandonBatch i b w n s) :=
  (ReportsKept.raise (setSlot i none s) .batchRejected _).trans
    (.of_unchanged (noteNoBatch_keeps (.refl [.mgmt] _)))

theorem ReportsKept.claimSlot {k : LoadClass} {s t : State} {i : SlotId} (h : claimSlot k s = some (i, t)) :
    ReportsKept s t := by
  unfold Machine.claimSlot at h
  split at h
  · split at h
    · cases h
      exact ReportsKept.raise (setSlot _ none s) .batchRejected _
    · cases h
      exact .refl s
  · obtain ⟨j, -, he⟩ := Option.map_eq_some_iff.1 h
    cases he
    exact .refl s

theorem ReportsKept.judgePosition (i : Nat) (s : State) : ReportsKept s (Machine.judgePosition i s) := by
  unfold Machine.judgePosition
  split
  · exact .refl s
  · split
    · exact .refl s
    · exact .of_reports rfl
    · dsimp only
      split
      · exact ReportsKept.raise { s with scanner := _ } .lampFault _
      · exact .of_reports rfl

theorem ReportsKept.judgeFrame (s : State) : ReportsKept s (Machine.judgeFrame s) := by
  have all : (is : List Nat) → (s : State) →
      ReportsKept s (is.foldl (fun s i => Machine.judgePosition i s) s) := by
    intro is
    induction is with
    | nil => exact fun s => .refl s
    | cons i is ih => exact fun s => (ReportsKept.judgePosition i s).trans (ih _)
  exact all _ s

/-! ### The Report Unit's own items -/

theorem ReportsKept.writeReports (s : State) (i : Nat) (v : List Byte) :
    ReportsKept s (Machine.writeReports i v s).1 := by
  unfold Machine.writeReports
  split
  · exact .refl s
  · split
    · split
      · exact .refl s
      · refine .setCell s _ _ fun x hx hd => ?_
        simp only [ReportCell.setEnable, Bool.and_eq_true] at hd ⊢
        exact ⟨(hx hd.1).1, hd.2⟩
    · split
      · exact .refl s
      · exact .setCell s _ _ fun x hx => hx
    · split
      · exact .refl s
      · exact .setCell s _ _ fun x hx => hx

theorem clearMasked_length (mask : Nat) : (i : Nat) → (xs : List ReportCell) →
    (clearMasked mask i xs).length = xs.length
  | _, [] => rfl
  | i, _ :: xs => congrArg Nat.succ (clearMasked_length mask (i + 1) xs)

/-- A cell after the clearing is as before, or cleared. -/
theorem mem_clearMasked {mask : Nat} {y : ReportCell} : {i : Nat} → {xs : List ReportCell} →
    y ∈ clearMasked mask i xs → y ∈ xs ∨ ∃ x ∈ xs, y = clearCell x
  | _, [], h => nomatch h
  | i, x :: xs, h => by
    obtain h | h := List.mem_cons.1 h
    · split at h
      · exact .inr ⟨x, List.mem_cons_self, h⟩
      · exact .inl (h ▸ List.mem_cons_self)
    · obtain h | ⟨z, hz, h⟩ := mem_clearMasked h
      · exact .inl (List.mem_cons_of_mem _ h)
      · exact .inr ⟨z, List.mem_cons_of_mem _ hz, h⟩

theorem clearCell_lawful (x : ReportCell) : (clearCell x).Lawful := fun h => nomatch h

theorem ReportsKept.clearReports (s : State) (v : List Byte) : ReportsKept s (Machine.clearReports v s).1 := by
  unfold Machine.clearReports
  split
  · exact .refl s
  · rintro ⟨hlen, hall⟩
    refine ⟨(clearMasked_length _ _ _).trans hlen, fun y hy => ?_⟩
    obtain hy | ⟨x, -, rfl⟩ := mem_clearMasked hy
    · exact hall y hy
    · exact clearCell_lawful x

theorem ReportsKept.endSave (s : State) (k : Nat) : ReportsKept s (Machine.endSave k s) :=
  ReportsKept.raise { s with mgmt := { s.mgmt with save := none, bus := none } } .settings _

theorem ReportsKept.writePortSettings (s : State) (i : Nat) (v : List Byte) :
    ReportsKept s (Machine.writePortSettings i v s).1 := by
  have item (p : PortId) (b : Bool) : ReportsKept s (writePortItem p b v s).1 := by
    unfold writePortItem
    split
    · exact .refl s
    · split
      · exact .writeHeld s p _
      · exact .writeHeld s p _
      · exact .refl s
  unfold Machine.writePortSettings
  split
  · exact item .A true
  · exact item .A false
  · exact item .B true
  · exact item .B false
  · exact .refl s

theorem ReportsKept.setting {s t : State} {v : List Byte} (h : SettingWritten v s t) : ReportsKept s t := by
  cases h with
  | ports i => exact .writePortSettings s i v
  | scannerEnable => exact .of_unchanged (writeScannerEnable_keeps (.refl [.scanner] s))
  | nothing | pauseQuanta | tracker | scanner | reports | store => exact .of_reports rfl

theorem ReportsKept.writeActions (s : State) (i : Nat) (v : List Byte) :
    ReportsKept s (Machine.writeActions i v s).1 := by
  unfold Machine.writeActions
  split
  · exact .of_reports rfl
  · exact .of_unchanged (softReset_keeps (.refl [.mgmt] s))
  · exact .of_unchanged (saveSettings_keeps (.refl [.mgmt] s))
  · exact .clearReports s v
  · exact .of_reports rfl
  · exact .abortDraw s
  · exact .refl s

theorem ReportsKept.applyWrite (i : WriteItem) (s : State) : ReportsKept s (Machine.applyWrite i s).1 := by
  unfold Machine.applyWrite
  split
  · exact .setting (writeSettings_written _ _ s)
  · exact .of_unchanged (writeClassify_keeps (.refl [.classifier] s))
  · exact .of_unchanged (writeGroups_keeps (.refl [.classifier] s))
  · exact .of_unchanged (writeSeatmap_keeps (.refl [.resv] s))
  · exact .writePanels s _ _
  · exact .of_unchanged (writePalettes_keeps (.refl [.panels, .freeCount] s))
  · exact .of_unchanged (writeLines_keeps (.refl [.scanner] s))
  · exact .of_unchanged (writeDoors_keeps (.refl [.tracker] s))
  · exact .writeReports s _ _
  · exact .of_unchanged (writeSideglyphs_keeps (.refl [.panels] s))
  · exact .refl s
  · exact .writeActions s _ _
  · exact .refl s

/-! ### Every command -/

/-- A condition that decides between an operation and nothing. -/
theorem ReportsKept.ite {s t : State} {c : Prop} [Decidable c] (h : ReportsKept s t) :
    Ends (ReportsKept s) (.next (if c then t else s)) := .ite (fun _ => h) fun _ => .refl s

/-- What a received frame does: nothing on a lane that is OFF, else by the verdict of the reception checks. -/
theorem execReceive_ends {P : State → Prop} {s : State} {p : PortId} {l : LaneId} {bytes : List Byte}
    {good : Frame → State} (h : P s) (bad : ∀ r, P (receiveBad p l r s)) (valid : ∀ f, P (good f)) :
    Ends P (if ((s.port p).lane l).state = .off then .next s
      else match checkFrame bytes with
        | .bad r => .next (receiveBad p l r s)
        | .valid f => .next (good f)) := by
  split
  · exact .next h
  · split
    · exact .next (bad _)
    · exact .next (valid _)

theorem reportsKept_windowExpiry (p : PortId) (s : State) : Ends (ReportsKept s) (execWindowExpiry p s) := by
  refine Ends.ite (fun _ => ?_) fun _ => .refl s
  split
  · exact .endWindowEarly s p
  · split
    · exact .enterUp _ _ _ _ _
    · split
      · exact .enterUp _ _ _ _ _
      · split
        · exact .setPort s p _
        · exact .enterDown s p 1

theorem reportsKept_receiveSilence (p : PortId) (l : LaneId) (s : State) :
    Ends (ReportsKept s) (execReceiveSilenceExpiry p l s) := by
  refine Ends.ite (fun _ => ?_) fun _ => .refl s
  split
  · exact (((ReportsKept.setPort s p _).trans (.releaseHeld _ p _)).trans (.setPort _ p _)).trans
      (.reportPort _ p 0)
  · exact (ReportsKept.leaveUp s p).trans (.enterDown _ p 0)

theorem reportsKept_classifyFrame (p : PortId) (s : State) : Ends (ReportsKept s) (execClassifyFrame p s) := by
  unfold execClassifyFrame
  split
  · exact .next (.refl s)
  · next f rest hq =>
    dsimp only
    have h1 : ReportsKept s (takeRxq p rest s) := .setPort s p _
    have h2 : ReportsKept s (if (classify (takeRxq p rest s) f).consume
        then consumeCopy { frame := f, port := p } (takeRxq p rest s) else takeRxq p rest s) := by
      split
      · exact h1.trans (.consumed (consumeCopy_consumed _ _))
      · exact h1
    exact .ite (fun _ => h2.trans (.forwardCopy _ _)) fun _ => h2

theorem reportsKept_takeRoll (s : State) : Ends (ReportsKept s) (execTakeRoll s) := by
  unfold execTakeRoll
  split
  · exact .next (.refl s)
  · dsimp only
    split
    · exact .next (.of_reports rfl)
    · split
      · exact .next (.of_reports rfl)
      · refine .next (ReportsKept.trans ?_ (.newRoll _ _ _))
        exact .of_reports rfl

theorem reportsKept_takeRollReturn (s : State) : Ends (ReportsKept s) (execTakeRollReturn s) := by
  have intake (q : List Copy) : ReportsKept s (setConsistIntake q s) := .of_reports rfl
  unfold execTakeRollReturn
  split
  · exact .next (.refl s)
  · dsimp only
    split
    · exact .next (intake _)
    · split
      · exact .next ((intake _).trans (.returnOnward _ _ _))
      · exact .next ((((intake _).trans (.returnOnward _ _ _)).trans (.checkRoll _ _ _)).trans
          (.consistChanged _ _))

theorem reportsKept_takeLabels (s : State) : Ends (ReportsKept s) (execTakeLabels s) := by
  unfold execTakeLabels
  split
  · exact .next (.refl s)
  · dsimp only
    split
    · refine .next (ReportsKept.trans ?_ (.consistChanged _ _))
      exact .of_unchanged (setLabel_keeps (consist_keeps (setConsistIntake_keeps
        (.refl [.classifier, .consist, .resv] s))))
    · exact .next (.of_reports rfl)

theorem reportsKept_batchStart (s : State) : Ends (ReportsKept s) (execBatchStart s) := by
  unfold execBatchStart
  split
  · exact .next (.refl s)
  · next k f rest hh =>
    have hi : ReportsKept s (setBatchIntake rest s) := .of_reports rfl
    dsimp only
    split
    · exact .next (hi.trans (.raise _ _ _))
    · split
      · exact .next (hi.trans (.raise _ _ _))
      · split
        · exact .next (hi.trans (.raise _ _ _))
        · next hc => exact .next ((hi.trans (.claimSlot hc)).trans (.of_reports rfl))

theorem reportsKept_batchMiddle (s : State) : Ends (ReportsKept s) (execBatchMiddle s) := by
  unfold execBatchMiddle
  split
  · exact .next (.refl s)
  · next k f rest hh =>
    have hi : ReportsKept s (setBatchIntake rest s) := .of_reports rfl
    dsimp only
    split
    · exact .next hi
    · split
      · exact .next hi
      · split
        · exact .next (hi.trans (.abandonBatch _ _ _ _ _))
        · exact .next (hi.trans (.of_reports rfl))

theorem reportsKept_takePosition (s : State) : Ends (ReportsKept s) (execTakePosition s) := by
  unfold execTakePosition
  split
  · exact .next (.refl s)
  · dsimp only
    split
    · exact .next (.of_reports rfl)
    · split
      · refine .next (ReportsKept.trans ?_ (.handOn _ _ _ _))
        exact .of_reports rfl
      · exact .next (.of_reports rfl)

theorem reportsKept_tick (s : State) : Ends (ReportsKept s) (execTick s) := by
  unfold execTick
  split
  · exact .next (.refl s)
  · dsimp only
    split
    · refine .next (ReportsKept.trans ?_ (.handOn _ _ _ _))
      exact .of_reports rfl
    · exact .next (.refl s)

theorem reportsKept_staleness (s : State) : Ends (ReportsKept s) (execStalenessExpiry s) := by
  unfold execStalenessExpiry
  split
  · exact .next (.refl s)
  · refine .next (ReportsKept.trans ?_ (.raise _ _ _))
    exact .of_unchanged (markHandoff_keeps (tracker_keeps (.refl [.tracker, .panels] s)))

theorem reportsKept_debounce (d : DoorId) (s : State) : Ends (ReportsKept s) (execDebounceExpiry d s) := by
  unfold execDebounceExpiry
  dsimp only
  split
  · refine .ite (fun _ => ReportsKept.trans ?_ (.judgeEdge d _ _)) fun _ => .of_reports rfl
    exact .of_reports rfl
  · exact .next (.refl s)

theorem reportsKept_takeNotice (s : State) : Ends (ReportsKept s) (execTakeNotice s) := by
  unfold execTakeNotice
  split
  · exact .next (.refl s)
  · dsimp only
    split
    · exact .next (.of_reports rfl)
    · refine .next (ReportsKept.trans ?_ (.offerNotice _ _))
      exact .of_reports rfl

theorem reportsKept_lampRowPeriodEnd (s : State) : Ends (ReportsKept s) (execLampRowPeriodEnd s) := by
  unfold execLampRowPeriodEnd
  split
  · exact .next (.refl s)
  · split
    · exact .next (.of_reports rfl)
    · exact .next
        ((ReportsKept.judgeFrame s).trans (.of_unchanged (scanner_keeps (.refl [.scanner] _))))

theorem reportsKept_drawRecordEnd (s : State) : Ends (ReportsKept s) (execDrawRecordEnd s) := by
  unfold execDrawRecordEnd
  split
  · exact .next (.refl s)
  · refine .next (ReportsKept.trans ?_ (.endRecord _ _))
    exact .of_reports rfl

theorem reportsKept_drawRecordSuspend (n : Nat) (s : State) :
    Ends (ReportsKept s) (execDrawRecordSuspend n s) := by
  unfold execDrawRecordSuspend
  split
  · exact .next (.refl s)
  · split
    · dsimp only
      split
      · refine .next (ReportsKept.trans ?_ (.endRecord _ _))
        exact .of_reports rfl
      · refine .next (ReportsKept.trans ?_ (.runEngine _))
        exact .of_reports rfl
    · exact .next (.refl s)

theorem reportsKept_composeTurn (s : State) : Ends (ReportsKept s) (execComposeTurn s) := by
  unfold execComposeTurn
  split
  · exact .next (.refl s)
  · refine .next (ReportsKept.trans ?_ (.runEngine _))
    exact .of_unchanged (placeRecords_keeps (beginPage_keeps (.refl [.engine, .panels] s)))

theorem reportsKept_composerPlaceRecord (s : State) : Ends (ReportsKept s) (execComposerPlaceRecord s) := by
  unfold execComposerPlaceRecord
  split
  · refine .next (ReportsKept.trans ?_ (.runEngine _))
    exact .of_unchanged (placeRecords_keeps (.refl [.engine, .panels] s))
  · exact .next (.refl s)

theorem reportsKept_frameBoundary (p : PanelId) (s : State) : Ends (ReportsKept s) (execFrameBoundary p s) := by
  unfold execFrameBoundary
  split
  · exact .next (.refl s)
  · split
    · refine .ite (fun _ => ReportsKept.trans ?_ (.runEngine _)) fun _ => .of_reports rfl
      exact .of_unchanged (completeFlip_keeps (setPanel_keeps (.refl [.panels, .notices] s)))
    · exact .next (.refl s)

theorem reportsKept_settingsLoadEnd (answer : List Byte) (s : State) :
    Ends (ReportsKept s) (execSettingsLoadEnd answer s) := by
  unfold execSettingsLoadEnd
  split
  · refine .next (ReportsKept.trans (ReportsKept.trans ?_ (.startPort _ .A)) (.startPort _ .B))
    split
    · exact .of_reports rfl
    · exact ReportsKept.raise (loadValues 0 0 40 {} {} s) .settings [2]
  · exact .next (.refl s)

theorem reportsKept_transactionDone (data : List Byte) (s : State) :
    Ends (ReportsKept s) (execSettingsTransactionDone data s) := by
  unfold execSettingsTransactionDone
  split
  · exact .next (.refl s)
  · split
    · exact .next (.of_reports rfl)
    · exact .next (.of_reports rfl)
    · exact .next (.refl s)
    · split <;> exact .next (.of_reports rfl)
    · exact .next (.endSave s _)

theorem reportsKept_saveTimeout (s : State) : Ends (ReportsKept s) (execSaveTimeout s) := by
  unfold execSaveTimeout
  split
  · exact .next (.refl s)
  · split
    · exact .next (.endSave s 1)
    · exact .next (.endSave s 1)
    · exact .next (.refl s)

theorem reportsKept_softResetEffects (s : State) : Ends (ReportsKept s) (execSoftResetEffects s) := by
  refine Ends.ite (fun _ => ?_) fun _ => .refl s
  have hm : ReportsKept s (meetRunning s) :=
    .of_unchanged (meetRunning_keeps (.refl [.engine, .panels, .freeCount] s))
  have ha (s : State) : ReportsKept s (applySoftReset s) := ReportsKept.map s clearCell fun x _ => clearCell_lawful x
  refine (hm.trans (ha _)).trans ?_
  unfold reofferReply
  split
  · exact .refl _
  · exact .of_unchanged (offerReply_keeps (.refl [.link, .mgmt] _))

theorem reportsKept_reportBuild (s : State) : Ends (ReportsKept s) (execReportBuild s) := by
  have hs : ReportsKept s { s with reports := s.reports.sent } :=
    ReportsKept.map s (fun x => { x with due := false }) fun x _ h => nomatch h
  have place (s : State) (p : PortId) (f : Frame) : ReportsKept s (placeLtx p f s) :=
    .of_unchanged (placeLtx_keeps (.refl [.link] s))
  unfold execReportBuild
  split
  · exact .next (.refl s)
  · dsimp only
    split
    · split
      · exact .next (hs.trans (place _ _ _))
      · exact .next (.refl s)
    · split
      · exact .next ((hs.trans (place _ .A _)).trans (place _ .B _))
      · exact .next (.refl s)

theorem reportsLaw_reset : ReportsLaw State.reset := by
  refine ⟨rfl, fun x hx hd => ?_⟩
  simp only [State.reset, List.mem_cons, List.not_mem_nil, or_false] at hx
  obtain rfl | rfl | rfl | rfl | rfl | rfl | rfl | rfl | rfl | rfl | rfl | rfl | rfl | rfl | rfl | rfl := hx <;> cases hd

/-- An item command keeps the reports' law when its item does. -/
theorem ReportsKept.answered {s : State} {a : State × ItemResult} (h : ReportsKept s a.1) :
    Ends (ReportsKept s) (Machine.answered a) := .next h

theorem reportsLaw_exec (c : Instr) (s : State) (h : ReportsLaw s) : Ends ReportsLaw (exec c s) := by
  by_cases htouch : (touched c).contains .reports
  · have hk : c ≠ .pinReset → Ends (ReportsKept s) (exec c s) := fun hpin => by
      cases c with
      | pinReset => exact absurd rfl hpin
      | settingsLoadEnd answer => exact reportsKept_settingsLoadEnd answer s
      | receiveTrain p l later bytes =>
        refine execReceive_ends (ReportsKept.refl s) (.receiveBad s p l) fun f => ?_
        split
        · exact .actTrain s p l _
        · exact .refl s
      | receiveBeacon p l later bytes =>
        refine execReceive_ends (ReportsKept.refl s) (.receiveBad s p l) fun f => ?_
        split
        · exact .afterValid s p l
        · exact .refl s
      | receivePause p l later bytes =>
        refine execReceive_ends (ReportsKept.refl s) (.receiveBad s p l) fun f => ?_
        split
        · exact (ReportsKept.setPort s p _).trans (.afterValid _ p l)
        · exact .refl s
      | receiveFrame p l later bytes =>
        refine execReceive_ends (ReportsKept.refl s) (.receiveBad s p l) fun f => ?_
        split
        · exact .acceptFrame s p l later f
        · exact .refl s
      | windowExpiry p => exact reportsKept_windowExpiry p s
      | receiveSilenceExpiry p l => exact reportsKept_receiveSilence p l s
      | classifyFrame p => exact reportsKept_classifyFrame p s
      | takeRoll => exact reportsKept_takeRoll s
      | takeRollReturn => exact reportsKept_takeRollReturn s
      | rollTimeout =>
        show Ends (ReportsKept s) (execRollTimeout s)
        unfold execRollTimeout
        split
        · exact .next (.refl s)
        · exact .next ((ReportsKept.failRoll s .timeout).trans (.consistChanged s _))
      | takeLabels => exact reportsKept_takeLabels s
      | batchSingle =>
        exact execBatchSingle_induct (P := ReportsKept s) (.refl s) (fun _ _ hs => hs)
          (fun _ _ _ _ hs => hs.trans (.raise _ _ _)) (fun _ _ _ _ hs hc => hs.trans (.claimSlot hc))
          (fun _ _ _ _ _ hs => hs.trans (.handover _ _ _ _ _))
          (fun s hs => hs.trans (.of_unchanged (noteNoBatch_keeps (.refl [.mgmt] s))))
      | batchStart => exact reportsKept_batchStart s
      | batchMiddle => exact reportsKept_batchMiddle s
      | batchEnd =>
        exact execBatchEnd_induct (P := ReportsKept s) (.refl s) (fun _ _ hs => hs)
          (fun _ _ _ _ _ hs => hs.trans (.abandonBatch _ _ _ _ _)) (fun _ _ hs => hs)
          (fun _ _ _ _ _ hs => hs.trans (.handover _ _ _ _ _))
          (fun s hs => hs.trans (.of_unchanged (noteNoBatch_keeps (.refl [.mgmt] s))))
      | batchTimeout i =>
        show Ends (ReportsKept s) (execBatchTimeout i s)
        unfold execBatchTimeout
        split
        · exact .next (.refl s)
        · exact .next (.abandonBatch _ _ _ _ s)
      | takePosition => exact reportsKept_takePosition s
      | tick => exact reportsKept_tick s
      | stalenessExpiry => exact reportsKept_staleness s
      | debounceExpiry d => exact reportsKept_debounce d s
      | noticeHandoff =>
        show Ends (ReportsKept s) (execNoticeHandoff s)
        unfold execNoticeHandoff
        split
        · refine .next (ReportsKept.trans ?_ (.actHandoff _ _))
          exact .of_reports rfl
        · exact .next (.refl s)
      | takeNotice => exact reportsKept_takeNotice s
      | lampRowPeriodEnd => exact reportsKept_lampRowPeriodEnd s
      | drawRecordEnd => exact reportsKept_drawRecordEnd s
      | drawRecordSuspend units => exact reportsKept_drawRecordSuspend units s
      | composeTurn => exact reportsKept_composeTurn s
      | composerPlaceRecord => exact reportsKept_composerPlaceRecord s
      | frameBoundary panel => exact reportsKept_frameBoundary panel s
      | mgmtWriteItem job =>
        exact execMgmtWriteItem_induct (P := ReportsKept s) (.refl s)
          (fun _ _ hh => .of_unchanged (mgmtHead_keeps (ps := [.classifier]) hh (by decide)))
          (fun i s hs => hs.trans (.applyWrite i s))
          (fun _ _ s hs => hs.trans (.of_unchanged (reply_keeps (.refl [.link, .mgmt] s))))
          (fun _ _ hs => hs) job
      | portSettingsWrite index value => exact ReportsKept.answered (.writePortSettings s _ _)
      | panelRoleWrite panel value => exact ReportsKept.answered (.writePanelRole s _ _)
      | panelEnableWrite panel value => exact ReportsKept.answered (.writePanelEnable s _ _)
      | reportsWrite index value => exact ReportsKept.answered (.writeReports s _ _)
      | clearReports value => exact ReportsKept.answered (.clearReports s _)
      | softResetEffects => exact reportsKept_softResetEffects s
      | settingsTransactionDone data => exact reportsKept_transactionDone data s
      | saveTimeout => exact reportsKept_saveTimeout s
      | abortDraw => exact ReportsKept.answered (.abortDraw s)
      | reportBuild => exact reportsKept_reportBuild s
      | _ => exact Bool.noConfusion htouch
    by_cases hpin : c = .pinReset
    · subst hpin
      exact .next reportsLaw_reset
    · exact (hk hpin).mono fun t k => k h
  · exact (exec_ends c s).mono fun t hu => ReportsKept.of_unchanged hu (mt List.contains_iff_mem.2 htouch) h

end Sys2Proof.Machine

namespace Sys2Proof

open Sys2Proof.Machine

/-- Settles O6: each of the three laws is kept by every command. -/
theorem tablesSlotsAndReportsKeepTheirLaws : Obligations.TablesSlotsAndReportsKeepTheirLaws :=
  ⟨fun _ _ h hs => classifierLaw_readsOnly.step (by decide) (fun c s _ => classifierLaw_exec c s) h hs,
    fun _ _ h hs => slotsLaw_readsOnly.step (by decide) slotsLaw_exec h hs,
    fun _ _ h hs => reportsLaw_readsOnly.step (by decide) (fun c s _ => reportsLaw_exec c s) h hs⟩

end Sys2Proof
end

section
/-! Proofs for the consist state: its law at every step. -/

namespace Sys2Proof.Machine


open Sys2Proof

/-! ## The consist (chapter 3) -/

theorem consistLaw_of_consist {s t : State} (h : t.consist = s.consist) (hs : ConsistLaw s) : ConsistLaw t := by
  unfold ConsistLaw
  rw [h]
  exact hs

theorem consistLaw_readsOnly : ReadsOnly [.consist] ConsistLaw := fun hq h =>
  consistLaw_of_consist (h.consist (hq _ (by decide)))

/-- A part that has become UNINAUGURATED with its table, ordinal and record discarded. -/
theorem consistLaw_uninaugurated {s : State} (hl : s.consist.label ≤ 99) (hs : s.consist.state = .uninaugurated)
    (hr : s.consist.record = none) (ht : s.consist.table = []) (ho : s.consist.ordinal = 0) : ConsistLaw s := by
  simp [ConsistLaw, hl, hs, hr, ht, ho]

theorem ConsistLaw.topologyChange {s : State} (h : ConsistLaw s) : ConsistLaw (topologyChange s) := by
  unfold Machine.topologyChange
  split
  · next hv =>
    obtain ⟨hlabel, hrec, -, hord, hlen, hnodup⟩ := h
    refine consistLaw_readsOnly (by decide) (raiseConsist_keeps (.refl [.reports] _)) ?_
    refine ⟨hlabel, ?_, ?_, fun _ => hord (.inl hv), hlen, hnodup⟩
    · simpa [hv] using hrec
    · rintro (h | h) <;> cases h
  · exact h

theorem ConsistLaw.enterUp {s : State} (h : ConsistLaw s) (p : PortId) (st : PortState) (a b : Lane) :
    ConsistLaw (enterUp p st a b s) :=
  .topologyChange (consistLaw_readsOnly (by decide) (reportPort_keeps (setPort_keeps (.refl [.link, .reports] s))) h)

theorem ConsistLaw.endWindowEarly {s : State} (h : ConsistLaw s) (p : PortId) :
    ConsistLaw (endWindowEarly p s) := by
  unfold Machine.endWindowEarly
  dsimp only
  split
  · exact h.enterUp _ _ _ _
  · exact h.enterUp _ _ _ _

theorem ConsistLaw.leaveUp {s : State} (h : ConsistLaw s) (p : PortId) : ConsistLaw (leaveUp p s) :=
  .topologyChange (consistLaw_readsOnly (by decide) (setPort_keeps (placeHeld_keeps (.refl [.link, .reports] s))) h)

theorem ConsistLaw.enterDown {s : State} (h : ConsistLaw s) (p : PortId) (k : Nat) :
    ConsistLaw (enterDown p k s) :=
  consistLaw_readsOnly (by decide) (enterDown_keeps (.refl [.link, .reports] s)) h

theorem ConsistLaw.afterValid {s : State} (h : ConsistLaw s) (p : PortId) (l : LaneId) :
    ConsistLaw (afterValid p l s) :=
  consistLaw_readsOnly (by decide) (afterValid_keeps (.refl [.link, .reports] s)) h

theorem ConsistLaw.enterTraining {s : State} (h : ConsistLaw s) (p : PortId) (l : LaneId) :
    ConsistLaw (enterTraining p l s) :=
  consistLaw_readsOnly (by decide) (enterTraining_keeps (.refl [.link, .reports] s)) h

theorem ConsistLaw.startPort {s : State} (h : ConsistLaw s) (p : PortId) : ConsistLaw (startPort p s) :=
  consistLaw_readsOnly (by decide) (startPort_keeps (.refl [.link, .reports] s)) h

theorem ConsistLaw.actTrain {s : State} (h : ConsistLaw s) (p : PortId) (l : LaneId) (ph : TrainPhase) :
    ConsistLaw (actTrain p l ph s) := by
  have inUp : ConsistLaw (match ph with
      | .seek => Machine.enterTraining p l (Machine.leaveUp p s)
      | .sync =>
        if (s.port p).activeOn l then
          Machine.afterValid p l
            (s.setPort p ((s.port p).setLane l { (s.port p).lane l with syncAnswer := true }))
        else s) := by
    split
    · exact (h.leaveUp p).enterTraining p l
    · split
      · exact ConsistLaw.afterValid (consistLaw_of_consist (by simp) h) p l
      · exact h
  unfold Machine.actTrain
  split
  · exact h
  · exact h.enterTraining p l
  · dsimp only
    split
    · exact ConsistLaw.endWindowEarly (consistLaw_of_consist (by simp) h) p
    · exact consistLaw_of_consist (by simp) h
  · exact inUp
  · exact inUp

theorem ConsistLaw.windowExpiry {s : State} (h : ConsistLaw s) (p : PortId) :
    Ends ConsistLaw (execWindowExpiry p s) := by
  unfold execWindowExpiry
  refine Ends.ite (fun _ => ?_) fun _ => h
  split
  · exact h.endWindowEarly p
  · split
    · exact h.enterUp _ _ _ _
    · split
      · exact h.enterUp _ _ _ _
      · split
        · exact consistLaw_of_consist (by simp) h
        · exact h.enterDown p 1

theorem ConsistLaw.receiveSilence {s : State} (h : ConsistLaw s) (p : PortId) (l : LaneId) :
    Ends ConsistLaw (execReceiveSilenceExpiry p l s) := by
  unfold execReceiveSilenceExpiry
  refine Ends.ite (fun _ => ?_) fun _ => h
  split
  · exact consistLaw_readsOnly (by decide)
      (reportPort_keeps (arbitrate_keeps (releaseHeld_keeps (setPort_keeps (.refl [.link, .reports] s))))) h
  · exact (h.leaveUp p).enterDown p 0

/-! ### Rolls (R46 to R55) -/

theorem rollOf_count_le {v : List Byte} {r : Roll} (h : rollOf v = some r) : r.count ≤ 24 := by
  unfold rollOf at h
  dsimp only at h
  split at h
  · next hc =>
    cases h
    exact hc.2
  · cases h

theorem Roll.append_count_le {r : Roll} (own : ConsistEntry) (h : r.count ≤ 24) :
    (r.append own).1.count ≤ 24 := by
  unfold Roll.append
  split
  · exact h
  · split
    · next hlt => exact hlt
    · exact h

@[simp] theorem Roll.list_length (r : Roll) : r.list.length = r.count := by simp [Roll.list]

theorem entryOf_label_le (bs : List Byte) : (entryOf bs).label ≤ 99 := by
  unfold entryOf
  dsimp only
  split
  · assumption
  · exact Nat.zero_le _

theorem Roll.getD_label_le (r : Roll) (i : Nat) : (r.list.getD i default).label ≤ 99 := by
  rw [List.getD_eq_getElem?_getD]
  by_cases hi : i < r.count
  · simpa [Roll.list, hi] using entryOf_label_le _
  · rw [List.getElem?_eq_none (by simpa using hi)]
    decide

/-- A roll that passes the check of R54: no unit ID twice, and an ordinal of the list. -/
theorem rollFault_none {r : Roll} {ordinal : Nat} {own : UnitId} (h : rollFault r ordinal own = none) :
    r.overfull = false ∧ (r.list.map (·.unitId)).Nodup ∧ 1 ≤ ordinal ∧ ordinal ≤ r.count ∧
      (r.list.map (·.unitId))[ordinal - 1]? = some own := by
  unfold rollFault at h
  split at h
  · cases h
  · next hover =>
    split at h
    · cases h
    · next hnodup =>
      split at h
      · cases h
      · next hlist =>
        simp only [not_or, not_lt, ne_eq, Decidable.not_not] at hlist hnodup
        exact ⟨by simpa using hover, hnodup, by omega, hlist.2.1, hlist.2.2⟩

theorem setLabel_consist (label : Nat) (s : State) :
    (setLabel label s).consist = { s.consist with label := label } := by
  unfold setLabel
  split
  · next h => rw [h]
  · rfl

theorem failRoll_consist (why : RollFailure) (s : State) :
    (failRoll why s).consist =
      { s.consist with state := .uninaugurated, record := none, table := [], ordinal := 0 } := rfl

/-- The list in ordinal order (R54). -/
def RollRecord.tableOf (rr : RollRecord) (r : Roll) : List ConsistEntry :=
  match rr.origin with
  | .end1 => r.list
  | .end2 => r.list.reverse

/-- The ordinal in the table (R54). -/
def RollRecord.ordinalOf (rr : RollRecord) (r : Roll) : Nat :=
  match rr.origin with
  | .end1 => rr.ordinal
  | .end2 => r.count + 1 - rr.ordinal

theorem adoptRoll_consist (r : Roll) (rr : RollRecord) (s : State) :
    (adoptRoll r rr s).consist =
      { s.consist with
        state := .valid, record := none, table := rr.tableOf r, ordinal := rr.ordinalOf r
        label := (r.list.getD (rr.ordinal - 1) default).label } := by
  unfold adoptRoll
  rw [setLabel_consist]
  rfl

theorem RollRecord.tableOf_length (rr : RollRecord) (r : Roll) : (rr.tableOf r).length = r.count := by
  unfold RollRecord.tableOf
  split <;> simp

theorem RollRecord.tableOf_nodup {rr : RollRecord} {r : Roll} (h : (r.list.map (·.unitId)).Nodup) :
    ((rr.tableOf r).map (·.unitId)).Nodup := by
  unfold RollRecord.tableOf
  split
  · exact h
  · rw [List.map_reverse]
    exact List.nodup_reverse.2 h

theorem RollRecord.ordinalOf_bounds {rr : RollRecord} {r : Roll} (h1 : 1 ≤ rr.ordinal)
    (h2 : rr.ordinal ≤ r.count) : 1 ≤ rr.ordinalOf r ∧ rr.ordinalOf r ≤ r.count := by
  unfold RollRecord.ordinalOf
  split <;> omega

theorem ConsistLaw.failRoll {s : State} (hl : s.consist.label ≤ 99) (why : RollFailure) :
    ConsistLaw (failRoll why s) :=
  consistLaw_uninaugurated (s := Machine.failRoll why s) hl rfl rfl rfl rfl

theorem ConsistLaw.checkRoll {s : State} {r : Roll} (hr : r.count ≤ 24) (rr : RollRecord)
    (hl : s.consist.label ≤ 99) : ConsistLaw (checkRoll r rr s) := by
  unfold Machine.checkRoll
  split
  · exact .failRoll hl _
  · next hf =>
    obtain ⟨-, hnodup, h1, h2, -⟩ := rollFault_none hf
    unfold ConsistLaw
    rw [adoptRoll_consist]
    simp [RollRecord.tableOf_length, RollRecord.tableOf_nodup hnodup, RollRecord.ordinalOf_bounds h1 h2, hr]
    simpa using r.getD_label_le (rr.ordinal - 1)

theorem ConsistLaw.consistChanged {s : State} (h : ConsistLaw s) (before : State) :
    ConsistLaw (consistChanged before s) :=
  consistLaw_readsOnly (by decide) (consistChanged_keeps (.refl [.reports] s)) h

theorem setFacing_consist (p : PortId) (s : State) :
    (setFacing p s).consist = { s.consist with facing := some p } := by
  unfold setFacing
  dsimp only
  split
  · rfl
  · exact (markRole_keeps (.refl [.panels] _)).consist (by decide)

theorem offerReturn_consist (p : PortId) (f : Frame) (s : State) :
    ∃ w, (offerReturn p f s).consist = { s.consist with waiting := w } := by
  unfold offerReturn
  split
  · exact ⟨none, (placeLtx_keeps (.refl [.link] _)).consist (by decide)⟩
  · exact ⟨_, rfl⟩

theorem ConsistLaw.offerReturn {s : State} (h : ConsistLaw s) (p : PortId) (f : Frame) :
    ConsistLaw (offerReturn p f s) := by
  obtain ⟨w, hw⟩ := offerReturn_consist p f s
  unfold ConsistLaw
  rw [hw]
  exact h

theorem ConsistLaw.newRoll {s : State} (h : ConsistLaw s) (c : Copy) {r : Roll} (hr : r.count ≤ 24) :
    ConsistLaw (newRoll c r s) := by
  have hlabel : (setFacing (facingOf c.port c.frame.origin) s).consist.label ≤ 99 := by
    rw [setFacing_consist]
    exact h.1
  unfold Machine.newRoll
  dsimp only
  split
  · refine consistLaw_readsOnly (by decide) (offerFtx_keeps (.refl [.link, .reports] _)) (.consistChanged ?_ s)
    simp [ConsistLaw, hlabel]
  · refine ConsistLaw.offerReturn ?_ _ _
    refine consistLaw_readsOnly (by decide) (raiseConsist_keeps (.refl [.reports] _)) ?_
    exact .checkRoll (Roll.append_count_le _ hr) _ hlabel

theorem ConsistLaw.intake {s : State} (h : ConsistLaw s) (q : List Copy) : ConsistLaw (setConsistIntake q s) :=
  consistLaw_of_consist rfl h

theorem ConsistLaw.takeRoll {s : State} (h : ConsistLaw s) : Ends ConsistLaw (execTakeRoll s) := by
  unfold execTakeRoll
  split
  · exact .next h
  · dsimp only
    split
    · exact .next h
    · next hr =>
      split
      · exact .next h
      · exact .next ((h.intake _).newRoll _ (rollOf_count_le hr))

theorem returnOnward_consist (p : PortId) (f : Frame) (s : State) : (returnOnward p f s).consist = s.consist :=
  (returnOnward_keeps (.refl [.link, .reports] s)).consist (by decide)

theorem ConsistLaw.takeRollReturn {s : State} (h : ConsistLaw s) : Ends ConsistLaw (execTakeRollReturn s) := by
  unfold execTakeRollReturn
  split
  · exact .next h
  · dsimp only
    split
    · exact .next h
    · next hr =>
      split
      · exact .next (consistLaw_of_consist (returnOnward_consist _ _ _) h)
      · refine .next (.consistChanged (.checkRoll (rollOf_count_le hr) _ ?_) _)
        rw [returnOnward_consist]
        exact h.1

theorem ConsistLaw.rollTimeout {s : State} (h : ConsistLaw s) : Ends ConsistLaw (execRollTimeout s) := by
  unfold execRollTimeout
  split
  · exact .next h
  · exact .next (.consistChanged (.failRoll h.1 _) s)

/-! ### Labels (R57) -/

/-- What a LABELS payload that is applied holds. -/
theorem labelsApply_iff {v : List Byte} {k : Consist} :
    labelsApply v k = true ↔
      k.state = .valid ∧ natAt v 0 2 = k.rollId.toNat ∧ v.length = 3 + natAt v 2 1 ∧ 3 ≤ v.length ∧
        natAt v 2 1 = k.table.length ∧ 1 ≤ k.table.length ∧ ∀ b ∈ v.drop 3, b.toNat ≤ 99 := by
  simp only [labelsApply, Bool.and_eq_true, decide_eq_true_eq, List.all_eq_true, and_assoc]

theorem consistLaw_reofferReply {s : State} (h : ConsistLaw s) : ConsistLaw (reofferReply s) := by
  unfold reofferReply
  split
  · exact h
  · exact consistLaw_readsOnly (by decide) (offerReply_keeps (.refl [.link, .mgmt] s)) h

/-- The labels of a table replaced in order keep its unit IDs. -/
theorem map_unitId_zip {xs : List ConsistEntry} {ls : List Byte} (h : xs.length ≤ ls.length) :
    ((xs.zip ls).map fun e => { e.1 with label := e.2.toNat }).map (·.unitId) = xs.map (·.unitId) := by
  rw [List.map_map]
  calc (xs.zip ls).map ((·.unitId) ∘ fun e => { e.1 with label := e.2.toNat })
      = ((xs.zip ls).map Prod.fst).map (·.unitId) := by rw [List.map_map]; rfl
    _ = xs.map (·.unitId) := by rw [List.map_fst_zip h]

theorem getD_toNat_le {v : List Byte} (h : ∀ b ∈ v, b.toNat ≤ 99) (i : Nat) : (v.getD i 0).toNat ≤ 99 := by
  by_cases hi : i < v.length
  · rw [List.getD_eq_getElem _ _ hi]
    exact h _ (List.getElem_mem hi)
  · rw [List.getD_eq_default _ _ (by omega)]
    decide

theorem ConsistLaw.takeLabels {s : State} (h : ConsistLaw s) : Ends ConsistLaw (execTakeLabels s) := by
  unfold execTakeLabels
  split
  · exact .next h
  · next c rest _ =>
    dsimp only
    split
    · next ha =>
      obtain ⟨hv, -, hlen, -, hn, -, hb⟩ := labelsApply_iff.1 ha
      obtain ⟨-, hrec, -, hord, htab, hnodup⟩ := h
      replace hn : natAt c.frame.payload 2 1 = s.consist.table.length := hn
      replace hv : s.consist.state = .valid := hv
      have hle : s.consist.table.length = (c.frame.payload.drop 3).length := by
        rw [List.length_drop]
        omega
      have hzip : ((s.consist.table.zip (c.frame.payload.drop 3)).map
          fun e => { e.1 with label := e.2.toNat }).length = s.consist.table.length := by
        rw [List.length_map, List.length_zip]
        omega
      refine .next (.consistChanged ?_ _)
      unfold ConsistLaw
      rw [setLabel_consist]
      refine ⟨getD_toNat_le hb _, hrec, ?_, fun _ => ?_, ?_, ?_⟩
      · intro hs
        replace hs : s.consist.state = .uninaugurated ∨ s.consist.state = .rolling := hs
        rw [hv] at hs
        rcases hs with hs | hs <;> cases hs
      · exact ⟨(hord (.inl hv)).1, (hord (.inl hv)).2.trans hzip.ge⟩
      · exact hzip.le.trans htab
      · rw [← map_unitId_zip hle.le] at hnodup
        exact hnodup
    · exact .next h

/-! ### Resets, and every command -/

theorem consistLaw_reset : ConsistLaw State.reset := by
  simp [ConsistLaw, State.reset]

theorem ConsistLaw.settingsLoadEnd {s : State} (h : ConsistLaw s) (bs : List Byte) :
    Ends ConsistLaw (execSettingsLoadEnd bs s) := by
  unfold execSettingsLoadEnd
  split
  · refine .next (.startPort (.startPort ?_ _) _)
    obtain ⟨-, hrest⟩ := h
    split
    · refine ⟨?_, hrest⟩
      show (if natAt bs 6 1 ≤ 99 then natAt bs 6 1 else 0) ≤ 99
      split <;> omega
    · exact ⟨Nat.zero_le _, hrest⟩
  · exact .next h

theorem ConsistLaw.softResetEffects {s : State} (h : ConsistLaw s) :
    Ends ConsistLaw (execSoftResetEffects s) := by
  unfold execSoftResetEffects
  refine Ends.ite (fun _ => ?_) fun _ => h
  refine consistLaw_reofferReply ?_
  have hm : (meetRunning s).consist = s.consist :=
    (meetRunning_keeps (.refl [.engine, .panels, .freeCount] s)).consist (by decide)
  refine consistLaw_uninaugurated ?_ rfl rfl rfl rfl
  show (meetRunning s).consist.label ≤ 99
  rw [hm]
  exact h.1

theorem consistLaw_exec (c : Instr) (s : State) (hc : ¬ ∀ q ∈ [Part.consist], q ∉ touched c) (h : ConsistLaw s) :
    Ends ConsistLaw (exec c s) := by
  cases atConsist_of_touched (touches_of_not_forall hc) with
  | pinReset => exact .next consistLaw_reset
  | settingsLoadEnd answer => exact h.settingsLoadEnd answer
  | receiveTrain p l later bytes =>
    refine execReceive_ends h ?_ fun f => ?_
    · intro r
      exact consistLaw_readsOnly (by decide) (receiveBad_keeps (.refl [.link, .reports] s)) h
    · split
      · exact h.actTrain p l _
      · exact h
  | windowExpiry p => exact h.windowExpiry p
  | receiveSilenceExpiry p l => exact h.receiveSilence p l
  | takeRoll => exact h.takeRoll
  | takeRollReturn => exact h.takeRollReturn
  | rollReturnRetry =>
    show Ends ConsistLaw (execRollReturnRetry s)
    unfold execRollReturnRetry
    split
    · exact .next h
    · exact .next (h.offerReturn _ _)
  | rollTimeout => exact h.rollTimeout
  | takeLabels => exact h.takeLabels
  | softResetEffects => exact h.softResetEffects

end Sys2Proof.Machine

namespace Sys2Proof

open Sys2Proof.Machine

/-- Settles O7: every command that touches the Consist Manager keeps the law. -/
theorem consistLawIsKept : Obligations.ConsistLawIsKept := fun _ _ h hs =>
  consistLaw_readsOnly.step (by decide) consistLaw_exec h hs

end Sys2Proof
end

section
/-! Proofs for the handling of the Journey Tracker (section 5.5): the next stop of a lawful stop list, and what
departure, passing, skipping, approach and arrival leave. -/

namespace Sys2Proof.Machine


open Sys2Proof

variable {stops : List Stop}

/-! ## The next stop -/

theorem nextStop_eq_find (stops : List Stop) (c : Nat) :
    nextStop stops c = ((List.range stops.length).find?
      (fun i => decide (c < i) && decide ((stopAt stops i).kind = .stop))).getD c := by
  unfold nextStop
  rw [List.headD_eq_head?_getD, List.head?_filter]

theorem nextStop_eq {c n : Nat} (h : c < n) (hn : n < stops.length) (hk : (stopAt stops n).kind = .stop)
    (hb : ∀ i, c < i → i < n → (stopAt stops i).kind = .pass) : nextStop stops c = n := by
  rw [nextStop_eq_find, List.find?_range_eq_some.2]
  · rfl
  · refine ⟨by simp [h, hk], List.mem_range.2 hn, fun i hi => ?_⟩
    by_cases hc : c < i
    · simp [hb i hc hi]
    · simp [hc]

/-- Before the last stop of a lawful list there is a next one, with PASS stops only in between. -/
theorem StopsLaw.nextStop_spec (h : StopsLaw stops) {c : Nat} (hc : c < lastStop stops) :
    c < nextStop stops c ∧ nextStop stops c ≤ lastStop stops ∧
      (stopAt stops (nextStop stops c)).kind = .stop ∧
      ∀ i, c < i → i < nextStop stops c → (stopAt stops i).kind = .pass := by
  obtain ⟨-, -, -, hlast⟩ := h
  unfold lastStop at *
  rw [nextStop_eq_find]
  cases hf : (List.range stops.length).find?
      (fun i => decide (c < i) && decide ((stopAt stops i).kind = .stop)) with
  | none =>
    have := List.find?_eq_none.1 hf (stops.length - 1) (List.mem_range.2 (by omega))
    simp [hc, hlast] at this
  | some n =>
    obtain ⟨hn, hm, hbefore⟩ := List.find?_range_eq_some.1 hf
    rw [List.mem_range] at hm
    simp only [Bool.and_eq_true, decide_eq_true_eq] at hn
    refine ⟨hn.1, by simp only [Option.getD_some]; omega, hn.2, fun i hi hin => ?_⟩
    have := hbefore i hin
    simp only [hi, decide_true, Bool.true_and, Bool.not_eq_true', decide_eq_false_iff_not] at this
    cases hk : (stopAt stops i).kind
    · exact absurd hk this
    · rfl

/-- At the last stop there is none. -/
theorem nextStop_of_last {c : Nat} (hc : lastStop stops ≤ c) : nextStop stops c = c := by
  obtain h | ⟨h1, h2, -⟩ := nextStop_cases stops c
  · exact h
  · unfold lastStop at hc
    omega

theorem StopsLaw.nextStop_le (h : StopsLaw stops) {c : Nat} (hc : c ≤ lastStop stops) :
    nextStop stops c ≤ lastStop stops := by
  obtain hlt | rfl := Nat.lt_or_eq_of_le hc
  · exact (h.nextStop_spec hlt).2.1
  · exact (nextStop_of_last (Nat.le_refl _)).le

theorem stopAt_distance (stops : List Stop) {i : Nat} (hi : i < (stops.map (·.distance)).length) :
    (stops.map (·.distance))[i] = (stopAt stops i).distance := by
  rw [List.length_map] at hi
  rw [List.getElem_map, stopAt, List.getD_eq_getElem _ _ hi]

/-- The distances rise strictly. -/
theorem StopsLaw.distance_lt (h : StopsLaw stops) {i k : Nat} (hik : i < k) (hk : k ≤ lastStop stops) :
    (stopAt stops i).distance < (stopAt stops k).distance := by
  obtain ⟨hne, hrise, -, -⟩ := h
  have hpos := List.length_pos_iff.2 hne
  unfold lastStop at hk
  have hk' : k < (stops.map (·.distance)).length := by simp only [List.length_map]; omega
  have := List.pairwise_iff_getElem.1 hrise i k (by omega) hk' hik
  rwa [stopAt_distance, stopAt_distance] at this

theorem StopsLaw.distance_le (h : StopsLaw stops) {i k : Nat} (hik : i ≤ k) (hk : k ≤ lastStop stops) :
    (stopAt stops i).distance ≤ (stopAt stops k).distance := by
  obtain hlt | rfl := Nat.lt_or_eq_of_le hik
  · exact (h.distance_lt hlt hk).le
  · exact Nat.le_refl _

/-! ## The stops between two -/

theorem stopsUpTo_append {a b c : Nat} (hab : a ≤ b) (hbc : b ≤ c) :
    stopsUpTo a b ++ stopsUpTo b c = stopsUpTo a c := by
  unfold stopsUpTo
  have hc : c - a = (b - a) + (c - b) := by omega
  rw [hc, List.range_add, List.map_append, List.map_map]
  congr 1
  exact List.map_congr_left fun i _ => by simp only [Function.comp_apply]; omega

@[simp] theorem stopsUpTo_self (a : Nat) : stopsUpTo a a = [] := by simp [stopsUpTo]

@[simp] theorem stopsUpTo_succ_self (a : Nat) : stopsUpTo a (a + 1) = [a + 1] := by simp [stopsUpTo]

theorem mem_stopsUpTo {a b i : Nat} : i ∈ stopsUpTo a b ↔ a < i ∧ i ≤ b := by
  simp only [stopsUpTo, List.mem_map, List.mem_range]
  constructor
  · rintro ⟨k, hk, rfl⟩
    omega
  · intro h
    exact ⟨i - (a + 1), by omega, by omega⟩

/-- The STOP-kind stops after `a` up to and including `b`. -/
def stopKindUpTo (stops : List Stop) (a b : Nat) : List Nat :=
  (stopsUpTo a b).filter fun i => decide ((stopAt stops i).kind = .stop)

theorem stopKindUpTo_append {a b c : Nat} (hab : a ≤ b) (hbc : b ≤ c) :
    stopKindUpTo stops a b ++ stopKindUpTo stops b c = stopKindUpTo stops a c := by
  unfold stopKindUpTo
  rw [← List.filter_append, stopsUpTo_append hab hbc]

@[simp] theorem stopKindUpTo_self (a : Nat) : stopKindUpTo stops a a = [] := by simp [stopKindUpTo]

theorem stopKindUpTo_pass {a b : Nat} (h : ∀ i, a < i → i ≤ b → (stopAt stops i).kind = .pass) :
    stopKindUpTo stops a b = [] := by
  refine List.filter_eq_nil_iff.2 fun i hi => ?_
  obtain ⟨h1, h2⟩ := mem_stopsUpTo.1 hi
  simp [h i h1 h2]

theorem stopKindUpTo_one {a n : Nat} (han : a < n) (hn : (stopAt stops n).kind = .stop)
    (h : ∀ i, a < i → i < n → (stopAt stops i).kind = .pass) : stopKindUpTo stops a n = [n] := by
  rw [← stopKindUpTo_append (b := n - 1) (by omega) (by omega),
    stopKindUpTo_pass fun i hi hle => h i hi (by omega)]
  obtain ⟨m, rfl⟩ : ∃ m, n = m + 1 := ⟨n - 1, by omega⟩
  simp [stopKindUpTo, hn]

/-! ## Passing and skipping (R87, R88) -/

/-- A stop that the train has passed: a PASS stop at or behind E_m, or a STOP stop more than W behind it. -/
def Cleared (stops : List Stop) (em w i : Nat) : Prop :=
  ((stopAt stops i).kind = .pass ∧ (stopAt stops i).distance ≤ em) ∨
    ((stopAt stops i).kind = .stop ∧ (stopAt stops i).distance + w < em)

/-- What passing and skipping may do to a handling, whatever the stop list. -/
structure Handling.Moved (h p : Handling) : Prop where
  state : p.state = h.state
  departed : p.departed = h.departed
  arrived : p.arrived = h.arrived
  le : h.c ≤ p.c
  still : h.running = false → p = h

theorem Handling.Moved.refl (h : Handling) : h.Moved h := ⟨rfl, rfl, rfl, Nat.le_refl _, fun _ => rfl⟩

theorem Handling.Moved.running {h p : Handling} (m : h.Moved p) : p.running = h.running := by
  simp [Handling.running, m.state]

theorem Handling.Moved.trans {h p q : Handling} (m : h.Moved p) (n : p.Moved q) : h.Moved q where
  state := n.state.trans m.state
  departed := n.departed.trans m.departed
  arrived := n.arrived.trans m.arrived
  le := m.le.trans n.le
  still := fun hr => (n.still (m.running.trans hr)).trans (m.still hr)

theorem Handling.Moved.pass (em : Nat) : (fuel : Nat) → (h : Handling) → h.Moved (h.pass stops em fuel)
  | 0, h => .refl h
  | fuel + 1, h => by
    unfold Handling.pass
    split
    · next hc =>
      refine Handling.Moved.trans ?_ (.pass em fuel _)
      exact ⟨rfl, rfl, rfl, Nat.le_succ _, fun hr => absurd hc.1 (by simp [hr])⟩
    · exact .refl h

theorem Handling.Moved.passAndSkip (em w : Nat) :
    (fuel : Nat) → (h : Handling) → h.Moved (h.passAndSkip stops em w fuel)
  | 0, h => .refl h
  | fuel + 1, h => by
    have hp : h.Moved (h.pass stops em stops.length) := .pass em _ h
    unfold Handling.passAndSkip
    dsimp only
    split
    · next hc =>
      refine hp.trans (Handling.Moved.trans ?_ (.passAndSkip em w fuel _))
      exact ⟨rfl, rfl, rfl, nextStop_ge _ _, fun hr => absurd hc.1 (by simp [hr])⟩
    · exact hp

/-- What passing and skipping record: the stops cleared, and those of kind STOP among them as skipped. -/
structure Handling.Swept (stops : List Stop) (em w : Nat) (h p : Handling) : Prop where
  moved : h.Moved p
  reached : p.reached = h.reached ++ stopsUpTo h.c p.c
  cleared : ∀ i, h.c < i → i ≤ p.c → Cleared stops em w i
  skipped : p.skipped = h.skipped + (stopKindUpTo stops h.c p.c).length
  first : p.firstSkipped = h.firstSkipped.or (stopKindUpTo stops h.c p.c).head?

theorem Handling.Swept.refl (em w : Nat) (h : Handling) : h.Swept stops em w h where
  moved := .refl h
  reached := by simp
  cleared := fun i h1 h2 => absurd h1 (by omega)
  skipped := by simp
  first := by simp

theorem Handling.Swept.trans {em w : Nat} {h p q : Handling} (m : h.Swept stops em w p)
    (n : p.Swept stops em w q) : h.Swept stops em w q where
  moved := m.moved.trans n.moved
  reached := by rw [n.reached, m.reached, List.append_assoc, stopsUpTo_append m.moved.le n.moved.le]
  cleared := fun i h1 h2 =>
    if hi : i ≤ p.c then m.cleared i h1 hi else n.cleared i (by omega) h2
  skipped := by
    rw [n.skipped, m.skipped, ← stopKindUpTo_append m.moved.le n.moved.le, List.length_append, Nat.add_assoc]
  first := by
    rw [n.first, m.first, ← stopKindUpTo_append m.moved.le n.moved.le, List.head?_append, Option.or_assoc]

/-- One PASS stop passed. -/
theorem Handling.Swept.passOne {em w : Nat} {h : Handling} (hr : h.running = true)
    (hk : (stopAt stops (h.c + 1)).kind = .pass) (hd : (stopAt stops (h.c + 1)).distance ≤ em) :
    h.Swept stops em w { h with c := h.c + 1, reached := h.reached ++ [h.c + 1] } where
  moved := ⟨rfl, rfl, rfl, Nat.le_succ _, fun hn => absurd hr (by simp [hn])⟩
  reached := by simp
  cleared := fun i h1 h2 => by
    obtain rfl : i = h.c + 1 := by simp only at h2; omega
    exact .inl ⟨hk, hd⟩
  skipped := by simp [stopKindUpTo, hk]
  first := by simp [stopKindUpTo, hk]

theorem Handling.Swept.pass (em w : Nat) : (fuel : Nat) → (h : Handling) → h.Swept stops em w (h.pass stops em fuel)
  | 0, h => .refl em w h
  | fuel + 1, h => by
    unfold Handling.pass
    split
    · next hc =>
      obtain ⟨hr, -, hk, hd⟩ := hc
      exact (Handling.Swept.passOne hr hk hd).trans (.pass em w fuel _)
    · exact .refl em w h

/-- Passing with fuel enough goes on until no PASS stop at or behind E_m follows. -/
theorem Handling.pass_stuck (em : Nat) : (fuel : Nat) → (h : Handling) → lastStop stops < h.c + fuel →
    let p := h.pass stops em fuel
    ¬ (p.running ∧ p.c < lastStop stops ∧ (stopAt stops (p.c + 1)).kind = .pass ∧
      (stopAt stops (p.c + 1)).distance ≤ em)
  | 0, h, hf => fun hc => absurd hc.2.1 (by simp only [Handling.pass]; omega)
  | fuel + 1, h, hf => by
    unfold Handling.pass
    split
    · exact Handling.pass_stuck em fuel _ (by simp only; omega)
    · assumption

/-- One STOP stop skipped, with the PASS stops before it: they lie before it, so they are cleared too. -/
theorem Handling.Swept.skipOne (law : StopsLaw stops) {em w : Nat} {p : Handling} (hr : p.running = true)
    (hc : p.c < lastStop stops) (hd : (stopAt stops (nextStop stops p.c)).distance + w < em) :
    p.Swept stops em w { p with
      c := nextStop stops p.c, reached := p.reached ++ stopsUpTo p.c (nextStop stops p.c)
      firstSkipped := p.firstSkipped.orElse (fun _ => some (nextStop stops p.c)), skipped := p.skipped + 1 } := by
  obtain ⟨hlt, hle, hstop, hpass⟩ := law.nextStop_spec hc
  have hone := stopKindUpTo_one hlt hstop hpass
  exact {
    moved := ⟨rfl, rfl, rfl, hlt.le, fun hn => absurd hr (by simp [hn])⟩
    reached := rfl
    cleared := fun i h1 h2 => by
      obtain hi | rfl := Nat.lt_or_eq_of_le h2
      · have := law.distance_lt hi hle
        exact .inl ⟨hpass i h1 hi, by simp only at this; omega⟩
      · exact .inr ⟨hstop, hd⟩
    skipped := by simp [hone]
    first := by cases hf : p.firstSkipped <;> simp [hone] }

theorem Handling.Swept.passAndSkip (law : StopsLaw stops) (em w : Nat) :
    (fuel : Nat) → (h : Handling) → h.Swept stops em w (h.passAndSkip stops em w fuel)
  | 0, h => .refl em w h
  | fuel + 1, h => by
    have hp : h.Swept stops em w (h.pass stops em stops.length) := .pass em w _ h
    unfold Handling.passAndSkip
    dsimp only
    split
    · next hc =>
      obtain ⟨hr, hlt, hd⟩ := hc
      exact hp.trans ((Handling.Swept.skipOne law hr hlt hd).trans (.passAndSkip law em w fuel _))
    · exact hp

/-- Passing and skipping with fuel enough ends before a stop that is not cleared. -/
theorem Handling.passAndSkip_stuck (law : StopsLaw stops) {em w : Nat} :
    (fuel : Nat) → (h : Handling) → lastStop stops < h.c + fuel → h.running = true →
    let p := h.passAndSkip stops em w fuel
    p.c < lastStop stops → ¬ Cleared stops em w (p.c + 1)
  | 0, h, hf, _ => fun hc => absurd hc (by simp only [Handling.passAndSkip]; omega)
  | fuel + 1, h, hf, hr => by
    have hp : h.Moved (h.pass stops em stops.length) := .pass em _ h
    have hlen : 0 < stops.length := List.length_pos_iff.2 law.1
    have hstuck := Handling.pass_stuck (stops := stops) em stops.length h (by unfold lastStop; omega)
    unfold Handling.passAndSkip
    dsimp only at hstuck ⊢
    split
    · next hc =>
      obtain ⟨hrun, hlt, -⟩ := hc
      refine Handling.passAndSkip_stuck law fuel _ ?_ (by simpa [Handling.running] using hrun)
      have := (law.nextStop_spec hlt).1
      have := hp.le
      simp only
      omega
    · next hno =>
      intro hc hcl
      rw [hp.running] at hno hstuck
      obtain ⟨hk, hd⟩ | ⟨hk, hd⟩ := hcl
      · exact hstuck ⟨hr, hc, hk, hd⟩
      · refine hno ⟨hr, hc, ?_⟩
        have hn : nextStop stops (h.pass stops em stops.length).c = (h.pass stops em stops.length).c + 1 :=
          nextStop_eq (Nat.lt_succ_self _) (by unfold lastStop at hc; omega) hk (fun i _ _ => by omega)
        rw [hn]
        exact hd

/-! ## The whole handling (R85 to R90) -/

/-- What stands before departure. -/
def Tracker.start (t : Tracker) : Handling := { state := t.state, c := t.c }

/-- The train departs (R86). -/
def Tracker.departs (stops : List Stop) (t : Tracker) : Bool :=
  decide (t.state = .atStop ∧ t.c < lastStop stops ∧ t.motion = .moving ∧
    (stopAt stops t.c).distance + t.marginM < t.em)

/-- What departure leaves. -/
def Tracker.left (stops : List Stop) (t : Tracker) : Handling :=
  if t.departs stops then { t.start with state := .cruise, departed := some t.c } else t.start

theorem depart_eq (stops : List Stop) (t : Tracker) :
    t.start.depart stops t.em t.marginM (!decide (t.motion = .stationary)) = t.left stops := by
  have hm : (!decide (t.motion = .stationary)) = true ↔ t.motion = .moving := by
    cases t.motion <;> decide
  unfold Handling.depart Tracker.left Tracker.departs
  simp only [hm, decide_eq_true_eq]
  rfl

theorem Tracker.left_c (stops : List Stop) (t : Tracker) : (t.left stops).c = t.c := by
  unfold Tracker.left
  split <;> rfl

/-- What passing and skipping leave. -/
def Tracker.passed (stops : List Stop) (t : Tracker) : Handling :=
  (t.left stops).passAndSkip stops t.em t.windowW (stops.length + 1)

theorem Tracker.left_moved_passed (stops : List Stop) (t : Tracker) : (t.left stops).Moved (t.passed stops) :=
  .passAndSkip _ _ _ _

theorem handle_eq (byReport : Bool) (stops : List Stop) (t : Tracker) :
    t.handle byReport stops =
      ((t.passed stops).approach stops t.em t.approachA).arrival stops t.em t.windowW byReport
        (decide (t.motion = .stationary)) := by
  unfold Tracker.handle Tracker.passed
  rw [← depart_eq]
  rfl

/-- The approach test changes the state only. -/
theorem approach_eq (em a : Nat) (h : Handling) :
    h.approach stops em a = { h with state := (h.approach stops em a).state } := by
  unfold Handling.approach
  dsimp only
  split
  · rfl
  · split <;> rfl

/-- Between stops the approach test sets the state by nearness to the next stop. -/
theorem approach_running {em a : Nat} {h : Handling} (hr : h.running = true) :
    h.approach stops em a =
      { h with state := if (stopAt stops (nextStop stops h.c)).distance ≤ em + a then .approach else .cruise } := by
  have hs : h.state = .cruise ∨ h.state = .approach := by simpa [Handling.running] using hr
  obtain ⟨st, c, r, dep, arr, fs, sk⟩ := h
  unfold Handling.approach
  dsimp only at hs ⊢
  obtain rfl | rfl := hs
  · by_cases hd : (stopAt stops (nextStop stops c)).distance ≤ em + a <;> simp [hd]
  · by_cases hd : (stopAt stops (nextStop stops c)).distance ≤ em + a
    · simp [hd, Nat.not_lt.2 hd]
    · simp [hd, Nat.lt_of_not_le hd]

theorem approach_stopped {em a : Nat} {h : Handling} (hr : h.running = false) : h.approach stops em a = h := by
  have hs : h.state ≠ .cruise ∧ h.state ≠ .approach := by simpa [Handling.running] using hr
  simp [Handling.approach, hs]

theorem arrive_c (h : Handling) : (h.arrive stops).c = nextStop stops h.c := rfl

/-- c never falls in a handling, whatever the stop list. -/
theorem handle_c_ge (byReport : Bool) (stops : List Stop) (t : Tracker) : t.c ≤ (t.handle byReport stops).c := by
  have hmoved := (t.left_moved_passed stops).le
  rw [t.left_c] at hmoved
  have happ : ((t.passed stops).approach stops t.em t.approachA).c = (t.passed stops).c := by rw [approach_eq]
  rw [handle_eq]
  unfold Handling.arrival
  dsimp only
  split
  · rw [arrive_c]
    exact (hmoved.trans happ.ge).trans (nextStop_ge _ _)
  · exact hmoved.trans happ.ge

/-- A handling that neither starts between stops nor departs does nothing. -/
theorem handle_stopped {byReport : Bool} {t : Tracker} (hr : (t.left stops).running = false) :
    t.handle byReport stops = t.left stops := by
  have hp : t.passed stops = t.left stops := (t.left_moved_passed stops).still hr
  rw [handle_eq, hp, approach_stopped hr]
  unfold Handling.arrival
  dsimp only
  split
  · next h =>
    have : (t.left stops).state ≠ .approach := by
      intro hs
      simp [Handling.running, hs] at hr
    exact absurd h.1 this
  · rfl

/-- The next stop of a running handling, by a lawful list. -/
structure Handling.Ahead (stops : List Stop) (em w : Nat) (p : Handling) (n : Nat) : Prop where
  lt_last : p.c < lastStop stops
  not_cleared : ¬ Cleared stops em w (p.c + 1)
  next_eq : nextStop stops p.c = n
  lt : p.c < n
  le_last : n ≤ lastStop stops
  kind : (stopAt stops n).kind = .stop
  between : ∀ i, p.c < i → i < n → (stopAt stops i).kind = .pass

/-- A running handling with c below the last stop and E_m not beyond it ends its passing and skipping before the
last stop. -/
theorem passed_ahead (law : StopsLaw stops) {t : Tracker} (hr : (t.left stops).running = true)
    (hc : t.c < lastStop stops) (he : t.em ≤ (stopAt stops (lastStop stops)).distance) :
    (t.passed stops).Ahead stops t.em t.windowW (nextStop stops (t.passed stops).c) := by
  have hswept : (t.left stops).Swept stops t.em t.windowW (t.passed stops) := .passAndSkip law _ _ _ _
  have hlt : (t.passed stops).c < lastStop stops := by
    by_contra hge
    have hcl := hswept.cleared (lastStop stops) (by rw [t.left_c]; exact hc) (Nat.le_of_not_lt hge)
    obtain ⟨hk, -⟩ | ⟨-, hd⟩ := hcl
    · rw [law.2.2.2] at hk
      cases hk
    · omega
  obtain ⟨h1, h2, h3, h4⟩ := law.nextStop_spec hlt
  have hpos : 0 < stops.length := List.length_pos_iff.2 law.1
  refine ⟨hlt, ?_, rfl, h1, h2, h3, h4⟩
  exact Handling.passAndSkip_stuck law _ _ (by unfold lastStop; omega) hr hlt

/-- Whether a running handling arrives at stop `n` (R89, R90). -/
def Tracker.arrivesAt (stops : List Stop) (t : Tracker) (byReport : Bool) (n : Nat) : Bool :=
  decide (byReport = true ∧ t.motion = .stationary ∧ (stopAt stops n).distance ≤ t.em + t.approachA ∧
    t.em ≤ (stopAt stops n).distance + t.windowW ∧ (stopAt stops n).distance ≤ t.em + t.windowW)

/-- A running handling: after passing and skipping it arrives at the next stop, or approaches it, or cruises. -/
theorem handle_running {byReport : Bool} {t : Tracker} (hr : (t.left stops).running = true) :
    t.handle byReport stops =
      let p := t.passed stops
      let n := nextStop stops p.c
      if t.arrivesAt stops byReport n then
        { p with c := n, state := .atStop, reached := p.reached ++ stopsUpTo p.c n, arrived := some n }
      else { p with state := if (stopAt stops n).distance ≤ t.em + t.approachA then .approach else .cruise } := by
  have hp : (t.passed stops).running = true := (t.left_moved_passed stops).running.trans hr
  rw [handle_eq, approach_running hp]
  unfold Handling.arrival Tracker.arrivesAt
  by_cases hn : (stopAt stops (nextStop stops (t.passed stops).c)).distance ≤ t.em + t.approachA
  · simp only [hn, if_true, true_and, decide_eq_true_eq]
    rfl
  · simp [hn]

end Sys2Proof.Machine
end

section
/-! Proofs for the journey load (section 5.2) and the tracker's law at every step. -/

namespace Sys2Proof.Machine


open Sys2Proof

/-! ## The checks of the stop records (R77) -/

/-- The order row of R77 fails: the distance is not above that of the record before. -/
def orderFails (before : Option Nat) (bs : List Byte) : Bool :=
  match before with
  | some d => decide (natAt bs 0 4 ≤ d)
  | none => false

/-- The first row of R77 that record `k` fails. -/
def stopFault (count k : Nat) (before : Option Nat) (bs : List Byte) : Option Cause :=
  if !stopInRange bs then some .range
  else if orderFails before bs then some .order
  else if (k = 1 ∨ k = count) ∧ natAt bs 4 1 ≠ 0 then some .kind
  else none

theorem checkStops_cons (count k : Nat) (before : Option Nat) (bs : List Byte) (rest : List (List Byte)) :
    checkStops count k before (bs :: rest) =
      match stopFault count k before bs with
      | some c => some (c, k)
      | none => checkStops count (k + 1) (some (natAt bs 0 4)) rest := by
  rw [checkStops.eq_def]
  show (if !stopInRange bs then some (Cause.range, k) else if orderFails before bs then some (.order, k)
    else if (k = 1 ∨ k = count) ∧ natAt bs 4 1 ≠ 0 then some (.kind, k)
    else checkStops count (k + 1) (some (natAt bs 0 4)) rest) = _
  unfold stopFault
  split
  · rfl
  · split
    · rfl
    · split <;> rfl

/-- The distance of the record before record `i` of a list that follows `before`. -/
def distanceBefore (before : Option Nat) (records : List (List Byte)) (i : Nat) : Option Nat :=
  if i = 0 then before else some (natAt (records.getD (i - 1) []) 0 4)

theorem distanceBefore_cons (before : Option Nat) (bs : List Byte) (rest : List (List Byte)) (i : Nat) :
    distanceBefore before (bs :: rest) (i + 1) = distanceBefore (some (natAt bs 0 4)) rest i := by
  cases i <;> rfl

/-- The verdict on the whole list is that on the first record that fails. -/
theorem checkStops_of_first (count : Nat) : (records : List (List Byte)) → (k : Nat) → (before : Option Nat) →
    (i : Nat) → i < records.length → (c : Cause) →
    (∀ m, m < i → stopFault count (k + m) (distanceBefore before records m) (records.getD m []) = none) →
    stopFault count (k + i) (distanceBefore before records i) (records.getD i []) = some c →
    checkStops count k before records = some (c, k + i)
  | bs :: rest, k, before, 0, _, c, _, hi => by
    have : stopFault count k before bs = some c := hi
    rw [checkStops_cons, this]
    rfl
  | bs :: rest, k, before, i + 1, hlen, c, hm, hi => by
    have h0 : stopFault count k before bs = none := hm 0 (Nat.succ_pos i)
    have hstep (m : Nat) : k + (m + 1) = k + 1 + m := by omega
    rw [checkStops_cons, h0, hstep i]
    refine checkStops_of_first count rest (k + 1) _ i (by simpa using hlen) c (fun m hmi => ?_) ?_
    · rw [← hstep, ← distanceBefore_cons before]
      exact hm (m + 1) (Nat.succ_lt_succ hmi)
    · rw [← hstep, ← distanceBefore_cons before]
      exact hi

/-- The list passes exactly when every record does. -/
theorem checkStops_none (count : Nat) : (records : List (List Byte)) → (k : Nat) → (before : Option Nat) →
    (checkStops count k before records = none ↔
      ∀ i, i < records.length →
        stopFault count (k + i) (distanceBefore before records i) (records.getD i []) = none)
  | [], _, _ => by simp [checkStops]
  | bs :: rest, k, before => by
    have hstep (m : Nat) : k + (m + 1) = k + 1 + m := by omega
    rw [checkStops_cons]
    constructor
    · intro h i hi
      cases h0 : stopFault count k before bs with
      | some c =>
        rw [h0] at h
        cases h
      | none =>
        rw [h0] at h
        cases i with
        | zero => exact h0
        | succ i =>
          rw [hstep, distanceBefore_cons]
          exact (checkStops_none count rest (k + 1) _).1 h i (by simpa using hi)
    · intro h
      have h0 : stopFault count k before bs = none := h 0 (by simp)
      rw [h0]
      refine (checkStops_none count rest (k + 1) _).2 fun i hi => ?_
      rw [← hstep, ← distanceBefore_cons before]
      exact h (i + 1) (by simpa using hi)

theorem stopFault_none {count k : Nat} {before : Option Nat} {bs : List Byte} :
    stopFault count k before bs = none ↔
      stopInRange bs = true ∧ orderFails before bs = false ∧ (k = 1 ∨ k = count → natAt bs 4 1 = 0) := by
  unfold stopFault
  split
  · simp_all
  · split
    · simp_all
    · split <;> simp_all

@[simp] theorem stopRecords_length (content : List Byte) (count : Nat) :
    (stopRecords content count).length = count := by simp [stopRecords]

theorem stopRecords_getD {content : List Byte} {count i : Nat} (h : i < count) :
    (stopRecords content count).getD i [] = slice content (4 + 34 * i) 34 := by
  simp [stopRecords, List.getD_eq_getElem?_getD, h]

/-- A content passes exactly when its header does and every record does. -/
theorem journeyFault_none {content : List Byte} (h : journeyFault content = none) :
    checkStops (natAt content 3 1) 1 none (stopRecords content (natAt content 3 1)) = none := by
  unfold journeyFault at h
  dsimp only at h
  split at h
  · cases h
  · split at h
    · cases h
    · exact h

/-- The stops of a content that passes satisfy what R77 asks. -/
theorem stopsLaw_of_checked {content : List Byte} (h : journeyFault content = none)
    (hne : (journeyOf content).stops ≠ []) : StopsLaw (journeyOf content).stops := by
  have hall := (checkStops_none _ _ _ _).1 (journeyFault_none h)
  rw [stopRecords_length] at hall
  generalize hn : natAt content 3 1 = n at hall
  have hlen : (journeyOf content).stops.length = n := by simp [journeyOf, hn]
  have hpos : 0 < n := hlen ▸ List.length_pos_iff.2 hne
  have hstop (i : Nat) (hi : i < n) :
      stopAt (journeyOf content).stops i = stopOf ((stopRecords content n).getD i []) := by
    simp [stopAt, journeyOf, hn, List.getD_eq_getElem?_getD, List.getElem?_map,
      List.getElem?_eq_getElem (l := stopRecords content n) (by simpa using hi)]
  have hkind (i : Nat) (hi : i < n) (hend : i = 0 ∨ i + 1 = n) :
      (stopAt (journeyOf content).stops i).kind = .stop := by
    obtain ⟨-, -, hk⟩ := stopFault_none.1 (hall i hi)
    rw [hstop i hi]
    exact if_pos (hk (by omega))
  refine ⟨hne, ?_, hkind 0 hpos (.inl rfl), ?_⟩
  · refine (List.isChain_iff_pairwise).1 (List.isChain_iff_getElem.2 fun i hi => ?_)
    have hi' : i + 1 < n := by simpa [hlen] using hi
    have ho := (stopFault_none.1 (hall (i + 1) hi')).2.1
    rw [stopAt_distance, stopAt_distance, hstop i (by omega), hstop (i + 1) hi']
    simp only [orderFails, distanceBefore] at ho
    simpa [stopOf] using ho
  · unfold lastStop
    rw [hlen]
    exact hkind _ (by omega) (.inr (by omega))

/-! ## The tracker's law -/

theorem trackerLaw_readsOnly : ReadsOnly [.tracker] TrackerLaw := fun hq h hs => by
  unfold TrackerLaw
  rw [h.tracker (hq _ (by decide))]
  exact hs

/-- What the law asks with journey `j` open. -/
structure Tracker.Lawful (j : Journey) (t : Tracker) : Prop where
  stops : StopsLaw j.stops
  state : t.state ≠ .idle
  c_le : t.c ≤ lastStop j.stops
  last : t.c = lastStop j.stops → t.state = .atStop
  e_ge : (stopAt j.stops 0).distance * 1000 ≤ t.e
  e_le : t.e ≤ (stopAt j.stops (lastStop j.stops)).distance * 1000
  v_le : t.v ≤ 10000
  tick : t.tickTimer = true ↔ t.status = .fresh
  staleness : t.staleness.isSome ↔ t.status = .fresh

theorem trackerLaw_open {s : State} {j : Journey} (hj : s.tracker.journey = some j) :
    TrackerLaw s ↔ s.tracker.Lawful j := by
  unfold TrackerLaw
  simp only [hj]
  exact ⟨fun ⟨a, b, c, d, e, f, g, h, i⟩ => ⟨a, b, c, d, e, f, g, h, i⟩,
    fun ⟨a, b, c, d, e, f, g, h, i⟩ => ⟨a, b, c, d, e, f, g, h, i⟩⟩

theorem Tracker.Lawful.em_le {j : Journey} {t : Tracker} (h : t.Lawful j) :
    t.em ≤ (stopAt j.stops (lastStop j.stops)).distance := by
  have := h.e_le
  unfold Tracker.em
  omega

theorem Tracker.Lawful.c_lt {j : Journey} {t : Tracker} (h : t.Lawful j) (hs : t.state ≠ .atStop) :
    t.c < lastStop j.stops :=
  Nat.lt_of_le_of_ne h.c_le fun hc => hs (h.last hc)

/-- From a lawful tracker a handling leaves a state and a c that are lawful again. -/
theorem Tracker.Lawful.handle {j : Journey} {t : Tracker} (h : t.Lawful j) (byReport : Bool) :
    let q := t.handle byReport j.stops
    q.state ≠ .idle ∧ q.c ≤ lastStop j.stops ∧ (q.c = lastStop j.stops → q.state = .atStop) := by
  dsimp only
  by_cases hr : (t.left j.stops).running = true
  · have hc : t.c < lastStop j.stops := by
      by_cases hs : t.state = .atStop
      · unfold Tracker.left at hr
        split at hr
        · next hd =>
          unfold Tracker.departs at hd
          exact (of_decide_eq_true hd).2.1
        · simp [Handling.running, Tracker.start, hs] at hr
      · exact h.c_lt hs
    have hahead := passed_ahead h.stops hr hc h.em_le
    rw [handle_running hr]
    dsimp only
    split
    · exact ⟨by simp, hahead.le_last, fun _ => rfl⟩
    · refine ⟨?_, hahead.lt_last.le, fun hl => absurd hl hahead.lt_last.ne⟩
      dsimp only
      split <;> simp
  · have hr' : (t.left j.stops).running = false := by simpa using hr
    rw [handle_stopped hr']
    unfold Tracker.left at hr ⊢
    split
    · next hd => simp [hd, Handling.running] at hr
    · exact ⟨h.state, h.c_le, h.last⟩

theorem handOn_tracker (before : State) (stops : List Stop) (h : Handling) (s : State) :
    (handOn before stops h s).tracker =
      { s.tracker with
        state := h.state, c := h.c
        marker := some ({ s.tracker with state := h.state, c := h.c }.markerPoint stops) } := by
  unfold handOn
  dsimp only
  rw [(reportSkipped_keeps (tellAdvance_keeps (markHandoff_keeps (.refl [.panels, .resv, .reports] _)))).tracker
    (by decide)]

/-- The tracker keeps its law, its open journey and its door modes, and c does not fall. -/
structure TrackerKept (s t : State) : Prop where
  law : TrackerLaw s → TrackerLaw t
  journey : t.tracker.journey = s.tracker.journey
  c_le : s.tracker.c ≤ t.tracker.c
  modeL : t.tracker.doorL.mode = s.tracker.doorL.mode
  modeR : t.tracker.doorR.mode = s.tracker.doorR.mode

theorem TrackerKept.of_tracker {s t : State} (h : t.tracker = s.tracker) : TrackerKept s t where
  law := fun hs => by
    unfold TrackerLaw
    rw [h]
    exact hs
  journey := by rw [h]
  c_le := by rw [h]
  modeL := by rw [h]
  modeR := by rw [h]

theorem TrackerKept.refl (s : State) : TrackerKept s s := .of_tracker rfl

theorem TrackerKept.of_unchanged {ps : List Part} {s t : State} (h : UnchangedBut ps s t)
    (hm : Part.tracker ∉ ps := by decide) : TrackerKept s t := .of_tracker (h.tracker hm)

theorem TrackerKept.trans {s t u : State} (h : TrackerKept s t) (k : TrackerKept t u) : TrackerKept s u where
  law := fun hs => k.law (h.law hs)
  journey := k.journey.trans h.journey
  c_le := h.c_le.trans k.c_le
  modeL := k.modeL.trans h.modeL
  modeR := k.modeR.trans h.modeR

/-- A change of the tracker that a lawful one survives. -/
theorem TrackerKept.of_lawful {s t : State} (hj : t.tracker.journey = s.tracker.journey)
    (hc : s.tracker.c ≤ t.tracker.c) (hl : t.tracker.doorL.mode = s.tracker.doorL.mode)
    (hr : t.tracker.doorR.mode = s.tracker.doorR.mode)
    (none : s.tracker.journey = none → TrackerLaw s → TrackerLaw t)
    (law : ∀ j, s.tracker.journey = some j → s.tracker.Lawful j → t.tracker.Lawful j) : TrackerKept s t where
  law := fun hs => by
    cases hopen : s.tracker.journey with
    | none => exact none hopen hs
    | some j => exact (trackerLaw_open (hj.trans hopen)).2 (law j hopen ((trackerLaw_open hopen).1 hs))
  journey := hj
  c_le := hc
  modeL := hl
  modeR := hr

/-- The estimate of an accepted report lies from D_0 to D_last. -/
theorem clampTo_between {lo hi : Nat} (h : lo ≤ hi) (n : Nat) : lo ≤ clampTo lo hi n ∧ clampTo lo hi n ≤ hi := by
  unfold clampTo
  split
  · exact ⟨Nat.le_refl _, h⟩
  · split <;> omega

theorem Tracker.Lawful.report {j : Journey} {t : Tracker} (h : t.Lawful j) (payload : List Byte) :
    (t.report payload j.stops).Lawful j := by
  obtain ⟨h1, h2⟩ := clampTo_between (h.stops.distance_le (Nat.zero_le _) (Nat.le_refl _)) (natAt payload 2 4)
  exact {
    stops := h.stops
    state := h.state
    c_le := h.c_le
    last := h.last
    e_ge := Nat.mul_le_mul_right _ h1
    e_le := Nat.mul_le_mul_right _ h2
    v_le := by
      simp only [Tracker.report]
      split
      · exact Nat.min_le_right _ _
      · exact Nat.zero_le _
    tick := by simp [Tracker.report]
    staleness := by simp [Tracker.report] }

theorem Tracker.Lawful.tick_estimate {j : Journey} {t : Tracker} (h : t.Lawful j) {e : Nat}
    (he : e = min (t.e + t.v) (t.holdPoint j.stops)) (hgt : t.e < e) : Tracker.Lawful j { t with e := e } := by
  have hd := h.stops.distance_le (h.stops.nextStop_le h.c_le) (Nat.le_refl _)
  exact { h with
    e_ge := h.e_ge.trans hgt.le
    e_le := by
      show e ≤ _
      rw [he]
      exact (Nat.min_le_right _ _).trans (Nat.mul_le_mul_right _ hd) }

/-- A handling from the tracker `t`, which differs from that of `s` in the estimate and its timers. -/
theorem TrackerKept.handOn {s u : State} {j : Journey} {q : Handling} (before : State) (hj : s.tracker.journey = some j)
    (hju : u.tracker.journey = some j) (hc : s.tracker.c ≤ q.c)
    (hl : u.tracker.doorL.mode = s.tracker.doorL.mode) (hr : u.tracker.doorR.mode = s.tracker.doorR.mode)
    (law : s.tracker.Lawful j → Tracker.Lawful j { u.tracker with state := q.state, c := q.c }) :
    TrackerKept s (handOn before j.stops q u) := by
  have ht := handOn_tracker before j.stops q u
  refine .of_lawful (by rw [ht, hj, ← hju]) (by rw [ht]; exact hc) (by rw [ht]; exact hl) (by rw [ht]; exact hr)
    (fun hn => by rw [hj] at hn; cases hn) fun j' hj' hs => ?_
  obtain rfl : j = j' := by rw [hj] at hj'; exact Option.some.inj hj'
  rw [ht]
  exact { law hs with }

theorem Tracker.Lawful.handled {j : Journey} {t : Tracker} (h : t.Lawful j) (byReport : Bool) :
    Tracker.Lawful j { t with
      state := (t.handle byReport j.stops).state, c := (t.handle byReport j.stops).c } := by
  obtain ⟨hs, hc, hl⟩ := h.handle byReport
  exact { h with state := hs, c_le := hc, last := hl }

theorem trackerKept_takePosition (s : State) : Ends (TrackerKept s) (execTakePosition s) := by
  unfold execTakePosition
  split
  · exact .next (.refl s)
  · dsimp only
    split
    · exact .next (.of_tracker rfl)
    · next c _ _ j hj =>
      split
      · have hc := handle_c_ge true j.stops (s.tracker.report c.frame.payload j.stops)
        exact .next (.handOn _ (s := s) hj hj hc rfl rfl fun hs => (hs.report _).handled true)
      · exact .next (.of_tracker rfl)

theorem trackerKept_tick (s : State) : Ends (TrackerKept s) (execTick s) := by
  unfold execTick
  split
  · exact .next (.refl s)
  · next j hj =>
    dsimp only
    split
    · next hgt =>
      let t := { s.tracker with e := min (s.tracker.e + s.tracker.v) (s.tracker.holdPoint j.stops) }
      exact .next (.handOn _ hj hj (handle_c_ge false j.stops t) rfl rfl fun hs =>
        (hs.tick_estimate rfl hgt.2).handled false)
    · exact .next (.refl s)

/-- The status becomes STALE and both timers stop (R84). -/
theorem trackerKept_staleness (s : State) : Ends (TrackerKept s) (execStalenessExpiry s) := by
  unfold execStalenessExpiry
  split
  · exact .next (.refl s)
  · next n hn =>
    refine .next (TrackerKept.trans ?_ (.of_unchanged (raise_keeps (markHandoff_keeps (.refl [.panels, .reports] _)))))
    refine .of_lawful rfl (Nat.le_refl _) rfl rfl (fun hnone hs => ?_) fun j _ h => ?_
    · unfold TrackerLaw at hs
      simp only [hnone] at hs
      obtain ⟨-, -, -, -, -, -, -, hst, -⟩ := hs
      rw [hst] at hn
      cases hn
    · exact { h with tick := by simp, staleness := by simp }

/-- What a door pin does to the tracker: neither its journey nor its modes change. -/
theorem TrackerKept.setDoor (s : State) (d : DoorId) {x : Door} (h : x.mode = (s.tracker.door d).mode) :
    TrackerKept s { s with tracker := s.tracker.setDoor d x } := by
  cases d
  · exact ⟨fun hs => hs, rfl, Nat.le_refl _, h, rfl⟩
  · exact ⟨fun hs => hs, rfl, Nat.le_refl _, rfl, h⟩

theorem door_level_mode (b : Bool) (x : Door) : (x.level b).mode = x.mode := by
  unfold Door.level
  split <;> rfl

theorem TrackerKept.doorArrival {s : State} {j : Journey} (hj : s.tracker.journey = some j) :
    TrackerKept s (doorArrival j.stops s) := by
  unfold Machine.doorArrival
  refine .handOn _ hj hj (nextStop_ge _ _) rfl rfl fun h => ?_
  exact { h with
    state := by simp [Handling.arrive]
    c_le := h.stops.nextStop_le h.c_le
    last := fun _ => rfl
    v_le := Nat.zero_le _ }

theorem TrackerKept.doorUnexpected (s : State) (d : DoorId) (b : Bool) :
    TrackerKept s (doorUnexpected d b s) := .of_tracker rfl

theorem TrackerKept.judgeEdge (s : State) (d : DoorId) (b : Bool) : TrackerKept s (judgeEdge d b s) := by
  unfold Machine.judgeEdge
  split
  · exact .refl s
  · next j hj =>
    split
    · exact .refl s
    · exact .refl s
    · exact .doorUnexpected s d b
    · split
      · exact .doorUnexpected s d b
      · split
        · exact (TrackerKept.doorUnexpected s d b).trans (.doorArrival hj)
        · exact .doorArrival hj

theorem trackerKept_debounce (d : DoorId) (s : State) : Ends (TrackerKept s) (execDebounceExpiry d s) := by
  unfold execDebounceExpiry
  dsimp only
  split
  · refine .ite (fun _ => (TrackerKept.setDoor s d ?_).trans (.judgeEdge _ d _)) fun _ => .setDoor s d ?_
    · rfl
    · rfl
  · exact .next (.refl s)

/-! ## Writes of the tracker's values -/

theorem TrackerKept.setting {s t : State} {v : List Byte} (h : SettingWritten v s t) : TrackerKept s t := by
  cases h with
  | ports i => exact .of_unchanged (writePortSettings_keeps (.refl [.link, .reports] s))
  | scannerEnable => exact .of_unchanged (writeScannerEnable_keeps (.refl [.scanner] s))
  | tracker => exact ⟨fun hs => hs, rfl, Nat.le_refl _, rfl, rfl⟩
  | nothing | pauseQuanta | scanner | reports | store => exact .of_tracker rfl

/-- A door mode is written with the lock clear. -/
theorem writeDoors_cases (i : Nat) (v : List Byte) (s : State) :
    (writeDoors i v s).1 = s ∨ s.mgmt.locked = false ∧ ∃ d m,
      (writeDoors i v s).1 = { s with tracker := s.tracker.setDoor d { s.tracker.door d with mode := m } } := by
  unfold writeDoors
  split
  · exact .inl rfl
  · split
    · exact .inl rfl
    · next hl =>
      split
      · exact .inl rfl
      · exact .inr ⟨by simpa using hl, _, _, rfl⟩

/-- A door does not concern the journey. -/
theorem setDoor_journey (t : Tracker) (d : DoorId) (x : Door) :
    (t.setDoor d x).journey = t.journey ∧ (t.setDoor d x).c = t.c := by cases d <;> exact ⟨rfl, rfl⟩

theorem trackerLaw_setDoor {s : State} (h : TrackerLaw s) (d : DoorId) (x : Door) :
    TrackerLaw { s with tracker := s.tracker.setDoor d x } := by
  cases d <;> exact h

theorem TrackerLaw.writeDoors {s : State} (h : TrackerLaw s) (i : Nat) (v : List Byte) :
    TrackerLaw (writeDoors i v s).1 := by
  obtain he | ⟨-, d, m, he⟩ := writeDoors_cases i v s
  · rw [he]
    exact h
  · rw [he]
    exact trackerLaw_setDoor h d _

/-- A write item that is none of DOORS keeps the tracker. -/
theorem TrackerKept.applyWrite {i : WriteItem} (h : i.table.toNat ≠ 7) (s : State) :
    TrackerKept s (applyWrite i s).1 := by
  by_cases h0 : i.table.toNat = 0
  · rw [applyWrite_settings h0]
    exact .setting (writeSettings_written _ _ s)
  · refine .of_unchanged (applyWrite_parts i s) ?_
    unfold tableParts
    split
    case h_1 => exact absurd ‹_› h0
    case h_8 => exact absurd ‹_› h
    all_goals decide

theorem TrackerLaw.applyWrite (i : WriteItem) (s : State) (h : TrackerLaw s) : TrackerLaw (applyWrite i s).1 := by
  by_cases h7 : i.table.toNat = 7
  · rw [applyWrite_doors h7]
    exact h.writeDoors _ _
  · exact (TrackerKept.applyWrite h7 s).law h

/-! ## Loads and resets -/

/-- The tracker with no journey open, its settings and doors kept. -/
theorem trackerLaw_closed {s : State} (t : Tracker) (h : s.tracker = t.close) : TrackerLaw s := by
  simp [TrackerLaw, h, Tracker.close]

/-- The tracker with a lawful journey just opened. -/
theorem trackerLaw_opened {s : State} {j : Journey} (law : StopsLaw j.stops) (t : Tracker)
    (h : s.tracker = t.openAt j) : TrackerLaw s := by
  rw [trackerLaw_open (j := j) (by rw [h]; rfl), h]
  exact {
    stops := law
    state := by simp [Tracker.openAt]
    c_le := Nat.zero_le _
    last := fun _ => rfl
    e_ge := Nat.le_refl _
    e_le := Nat.mul_le_mul_right _ (law.distance_le (Nat.zero_le _) (Nat.le_refl _))
    v_le := Nat.zero_le _
    tick := by simp [Tracker.openAt, Tracker.close]
    staleness := by simp [Tracker.openAt, Tracker.close] }

/-- What a load leaves of the tracker: a JOURNEY load opens or closes a journey, another does nothing. -/
theorem judge_tracker {k : LoadClass} {e : TrainEnd} {b : Byte} {v : List Byte} {s t : State}
    (h : judge k e b v s = .committed t) :
    t.tracker = s.tracker ∨ t.tracker = s.tracker.close ∨
      ∃ j, StopsLaw j.stops ∧ t.tracker = s.tracker.openAt j := by
  cases k with
  | triggers => exact .inl ((loadTriggers_keeps (.refl [.notices] s) h).tracker (by decide))
  | glyphs => exact .inl ((loadGlyphs_keeps (.refl [.engine, .panels, .freeCount] s) h).tracker (by decide))
  | reservations => exact .inl ((loadReservations_keeps (.refl [.resv, .reports] s) h).tracker (by decide))
  | journey =>
    change loadJourney v s = .committed t at h
    have htell (m : ResvMsg) (u : State) : (tellJourney m u).tracker = u.tracker :=
      (tellJourney_keeps (.refl [.notices, .resv, .panels] u)).tracker (by decide)
    unfold loadJourney at h
    split at h
    · cases h
    · next hf =>
      dsimp only at h
      split at h
      · cases h
        exact .inr (.inl (htell _ _))
      · next hne =>
        cases h
        exact .inr (.inr ⟨journeyOf v, stopsLaw_of_checked hf hne, htell _ _⟩)

theorem TrackerLaw.handover (k : LoadClass) (f : Frame) (n : Nat) (v : List Byte) (s : State) (h : TrackerLaw s) :
    TrackerLaw (handover k f n v s) := by
  refine trackerLaw_readsOnly.handover (by decide) (fun k s hs => ?_) (fun k e b v s t hs hj => ?_) k f n v s h
  · exact trackerLaw_readsOnly (by decide) (catchUp_keeps (.refl [.notices, .resv, .panels, .reports] s)) hs
  · obtain he | he | ⟨j, law, he⟩ := judge_tracker hj
    · exact (TrackerKept.of_tracker he).law hs
    · exact trackerLaw_closed _ he
    · exact trackerLaw_opened law _ he

theorem trackerLaw_reset : TrackerLaw State.reset := by simp [TrackerLaw, State.reset]

theorem softReset_tracker (s : State) (h : s.mgmt.drained = true) :
    ∃ t, exec .softResetEffects s = .next t ∧ t.tracker = s.tracker.close := by
  refine ⟨_, congrArg Host.Outcome.next (if_pos h), ?_⟩
  have hm : (meetRunning s).tracker = s.tracker :=
    (meetRunning_keeps (.refl [.engine, .panels, .freeCount] s)).tracker (by decide)
  have hr (u : State) : (reofferReply u).tracker = u.tracker := by
    unfold reofferReply
    split
    · rfl
    · exact (offerReply_keeps (.refl [.link, .mgmt] u)).tracker (by decide)
  rw [hr, ← hm]
  rfl

/-! ## Every command -/

/-- The commands that may open or close a journey, or write a door mode. -/
inductive WritesTracker : Instr → Prop
  | pinReset : WritesTracker .pinReset
  | softResetEffects : WritesTracker .softResetEffects
  | batchSingle : WritesTracker .batchSingle
  | batchEnd : WritesTracker .batchEnd
  | doorsWrite (index value) : WritesTracker (.doorsWrite index value)
  | mgmtWriteItem (job) : WritesTracker (.mgmtWriteItem job)

/-- Every other command keeps the tracker. -/
theorem exec_trackerKept {c : Instr} (hc : ¬ WritesTracker c) (s : State) :
    Ends (TrackerKept s) (exec c s) := by
  by_cases htouch : (touched c).contains .tracker
  · cases atTracker_of_touched htouch with
    | takePosition => exact trackerKept_takePosition s
    | tick => exact trackerKept_tick s
    | stalenessExpiry => exact trackerKept_staleness s
    | doorLevelChange d level => exact .next (.setDoor s d (door_level_mode level _))
    | debounceExpiry d => exact trackerKept_debounce d s
    | pinReset | softResetEffects | batchSingle | batchEnd | doorsWrite _ _ | mgmtWriteItem _ =>
      exact absurd (by constructor) hc
  · exact (exec_ends c s).mono fun t hu => .of_unchanged hu (mt List.contains_iff_mem.2 htouch)

theorem trackerLaw_exec (c : Instr) (s : State) (h : TrackerLaw s) : Ends TrackerLaw (exec c s) := by
  by_cases hc : WritesTracker c
  · cases hc with
    | pinReset => exact .next trackerLaw_reset
    | softResetEffects =>
      by_cases hd : s.mgmt.drained = true
      · obtain ⟨t, he, ht⟩ := softReset_tracker s hd
        exact ⟨t, he, trackerLaw_closed _ ht⟩
      · exact ⟨s, congrArg Host.Outcome.next (if_neg hd), h⟩
    | batchSingle => exact trackerLaw_readsOnly.batchSingle (by decide) h TrackerLaw.handover
    | batchEnd => exact trackerLaw_readsOnly.batchEnd (by decide) h TrackerLaw.handover
    | doorsWrite index value => exact trackerLaw_readsOnly.answered (by decide) (h.writeDoors _ _)
    | mgmtWriteItem job => exact trackerLaw_readsOnly.mgmtWriteItem (by decide) h TrackerLaw.applyWrite job
  · exact (exec_trackerKept hc s).mono fun t k => k.law h

/-- The open journey is the same, and c has not fallen. -/
def SameJourney (s t : State) : Prop := t.tracker.journey = s.tracker.journey ∧ s.tracker.c ≤ t.tracker.c

theorem sameJourney_readsOnly (s : State) : ReadsOnly [.tracker] (SameJourney s) := fun hq h hs => by
  unfold SameJourney
  rw [h.tracker (hq _ (by decide))]
  exact hs

theorem SameJourney.writeDoors {s u : State} (h : SameJourney s u) (i : Nat) (v : List Byte) :
    SameJourney s (writeDoors i v u).1 := by
  obtain he | ⟨-, d, m, he⟩ := writeDoors_cases i v u
  · rwa [he]
  · rw [he]
    obtain ⟨hj, hc⟩ := setDoor_journey u.tracker d { u.tracker.door d with mode := m }
    exact ⟨hj.trans h.1, h.2.trans hc.ge⟩

theorem SameJourney.applyWrite {s : State} (i : WriteItem) (u : State) (h : SameJourney s u) :
    SameJourney s (applyWrite i u).1 := by
  by_cases h7 : i.table.toNat = 7
  · rw [applyWrite_doors h7]
    exact h.writeDoors _ _
  · have k := TrackerKept.applyWrite h7 u
    exact ⟨k.journey.trans h.1, h.2.trans k.c_le⟩

theorem exec_sameJourney (c : Instr) (s : State) (h1 : c ≠ .pinReset) (h2 : c ≠ .softResetEffects)
    (h3 : c ≠ .batchSingle) (h4 : c ≠ .batchEnd) : Ends (SameJourney s) (exec c s) := by
  by_cases hc : WritesTracker c
  · have hrefl : SameJourney s s := ⟨rfl, Nat.le_refl _⟩
    cases hc with
    | doorsWrite index value => exact ReadsOnly.answered (sameJourney_readsOnly s) (by decide) (hrefl.writeDoors _ _)
    | mgmtWriteItem job => exact ReadsOnly.mgmtWriteItem (sameJourney_readsOnly s) (by decide) hrefl SameJourney.applyWrite job
    | pinReset => exact absurd rfl h1
    | softResetEffects => exact absurd rfl h2
    | batchSingle => exact absurd rfl h3
    | batchEnd => exact absurd rfl h4
  · exact (exec_trackerKept hc s).mono fun t k => ⟨k.journey, k.c_le⟩

end Sys2Proof.Machine

namespace Sys2Proof

open Sys2Proof.Machine

/-- Settles O8: every command keeps the tracker's law. -/
theorem trackerLawIsKept : Obligations.TrackerLawIsKept := fun _ _ h hs =>
  trackerLaw_readsOnly.step (by decide) (fun c s _ => trackerLaw_exec c s) h hs

/-- Settles O15: of the commands that may not open or close a journey, none lets c fall. -/
theorem stopIndexNeverDecreases : Obligations.StopIndexNeverDecreases := fun c s _ _ h1 h2 h3 h4 ht =>
  (exec_sameJourney c s h1 h2 h3 h4).of_eq ht

end Sys2Proof
end

section
/-! Proofs for the notice queue (section 6.5): what each of its operations leaves, and that offering a notice is the
queue run that the statements speak of. -/

namespace Sys2Proof.Machine


open Sys2Proof

/-! ## The queue's content -/

/-- What a new content of the queue leaves of the Notice Unit: all but the dwell timer. -/
theorem setQueue_notices (q : List Notice) (s : State) :
    ∃ d, (setQueue q s).notices = { s.notices with queue := q, dwell := d } := by
  obtain ⟨-, h⟩ | ⟨-, h⟩ := setQueue_cases q s
  · exact ⟨s.notices.dwell, by rw [h]⟩
  · refine ⟨if s.panels.anyNotice then none else q.head?.map (·.dwell), ?_⟩
    rw [h, (markRole_keeps (.refl [.panels] _)).notices (by decide)]

@[simp] theorem setQueue_queue (q : List Notice) (s : State) : (setQueue q s).notices.queue = q := by
  obtain ⟨d, h⟩ := setQueue_notices q s
  rw [h]

@[simp] theorem setQueue_count (q : List Notice) (s : State) :
    (setQueue q s).notices.count = s.notices.count := by
  obtain ⟨d, h⟩ := setQueue_notices q s
  rw [h]

@[simp] theorem setQueue_reports (q : List Notice) (s : State) : (setQueue q s).reports = s.reports :=
  (setQueue_keeps (.refl [.notices, .panels] s)).reports (by decide)

/-- The same head leaves timer and panels. -/
theorem setQueue_head {q : List Notice} {s : State}
    (h : q.head?.map (·.number) = s.notices.queue.head?.map (·.number)) :
    setQueue q s = { s with notices := { s.notices with queue := q } } := by
  obtain ⟨-, he⟩ | ⟨hne, -⟩ := setQueue_cases q s
  · exact he
  · exact absurd h hne

/-- Another head, or none, restarts the timer and marks the NOTICE panels. -/
theorem setQueue_newHead {q : List Notice} {s : State}
    (h : q.head?.map (·.number) ≠ s.notices.queue.head?.map (·.number)) :
    setQueue q s = markRole .notice { s with notices := { s.notices with
      queue := q, dwell := if s.panels.anyNotice then none else q.head?.map (·.dwell) } } := by
  obtain ⟨he, -⟩ | ⟨-, he⟩ := setQueue_cases q s
  · exact absurd he h
  · exact he

/-! ## Superseding (R112) -/

/-- The kinds of which the queue holds at most one notice. -/
def NoticeKind.supersedes (k : NoticeKind) : Prop := k = .nextStop ∨ k = .arriving

theorem supersede_of {k : NoticeKind} (h : k.supersedes) (s : State) :
    supersede k s = setQueue (s.notices.queue.filter fun e => decide (e.kind ≠ k)) s := by
  obtain rfl | rfl := h <;> rfl

theorem supersede_not {k : NoticeKind} (h : ¬ k.supersedes) (s : State) : supersede k s = s := by
  cases k
  · exact absurd (.inl rfl) h
  · exact absurd (.inr rfl) h
  · rfl
  · rfl

/-! ## Placing (R111) -/

theorem insertWaiting_normal {n : Notice} (h : n.priority = .normal) (w : List Notice) :
    insertWaiting n w = w ++ [n] := by simp [insertWaiting, h]

theorem insertWaiting_urgent {n : Notice} (h : n.priority = .urgent) (w : List Notice) :
    insertWaiting n w = w.filter (fun e => decide (e.priority = .urgent)) ++
      n :: w.filter (fun e => decide (e.priority = .normal)) := by simp [insertWaiting, h]

/-- The queue with a notice placed. -/
def placedQueue (m : Notice) : List Notice → List Notice
  | [] => [m]
  | h :: waiting => h :: insertWaiting m waiting

/-- The notice with the number it takes on being placed. -/
def Notice.numbered (n : Notice) (count : EntryNumber) : Notice := { n with number := count + 1 }

theorem placeNotice_eq (n : Notice) (s : State) :
    placeNotice n s = setQueue (placedQueue (n.numbered s.notices.count) s.notices.queue)
      { s with notices := { s.notices with count := s.notices.count + 1 } } := by
  unfold placeNotice placedQueue
  dsimp only
  split <;> simp_all [Notice.numbered]

theorem placeNotice_queue (n : Notice) (s : State) :
    (placeNotice n s).notices.queue = placedQueue (n.numbered s.notices.count) s.notices.queue := by
  rw [placeNotice_eq, setQueue_queue]

theorem placeNotice_count (n : Notice) (s : State) :
    (placeNotice n s).notices.count = s.notices.count + 1 := by
  rw [placeNotice_eq, setQueue_count]

theorem placeNotice_reports (n : Notice) (s : State) : (placeNotice n s).reports = s.reports := by
  rw [placeNotice_eq, setQueue_reports]

theorem QueueRun.place_eq (m : Notice) (r : QueueRun) :
    r.place m = { r with count := r.count + 1, queue := placedQueue (m.numbered r.count) r.queue } := by
  obtain ⟨q, c, l⟩ := r
  obtain ⟨num, kind, target, text, dwell, priority, source⟩ := m
  cases q with
  | nil => rfl
  | cons h w =>
    cases priority
    · rfl
    · simp only [QueueRun.place, placedQueue, insertWaiting, Notice.numbered, List.append_assoc,
        List.singleton_append]

/-! ## Displacing (R113) -/

theorem priority_not_normal {n : Notice} : n.priority ≠ .normal ↔ n.priority = .urgent := by
  cases n.priority <;> simp

/-- With no NORMAL entry waiting there is nothing to split at. -/
theorem splitNormal_none {w : List Notice} (h : splitNormal w = none) : ∀ e ∈ w, e.priority = .urgent := by
  induction w with
  | nil => simp
  | cons e es ih =>
    unfold splitNormal at h
    split at h
    · cases h
    · next hes =>
      split at h
      · cases h
      · next hp =>
        intro x hx
        obtain rfl | hx := List.mem_cons.1 hx
        · exact priority_not_normal.1 hp
        · exact ih hes x hx

/-- The split is at the last NORMAL entry. -/
theorem splitNormal_some {w a b : List Notice} {x : Notice} (h : splitNormal w = some (a, x, b)) :
    w = a ++ x :: b ∧ x.priority = .normal ∧ ∀ e ∈ b, e.priority = .urgent := by
  induction w generalizing a with
  | nil => cases h
  | cons e es ih =>
    unfold splitNormal at h
    split at h
    · next a' x' b' hes =>
      cases h
      obtain ⟨rfl, hx, hb⟩ := ih hes
      exact ⟨rfl, hx, hb⟩
    · next hes =>
      split at h
      · next hp =>
        cases h
        exact ⟨rfl, hp, splitNormal_none hes⟩
      · cases h

theorem filter_urgent_of_all {w : List Notice} (h : ∀ e ∈ w, e.priority = .urgent) :
    w.filter (fun e => decide (e.priority = .urgent)) = w ∧
      w.filter (fun e => decide (e.priority = .normal)) = [] :=
  ⟨List.filter_eq_self.2 fun e he => by simp [h e he], List.filter_eq_nil_iff.2 fun e he => by simp [h e he]⟩

/-- The split, by the URGENT and the NORMAL entries. -/
theorem split_filters {a b : List Notice} {x : Notice} (hx : x.priority = .normal)
    (hb : ∀ e ∈ b, e.priority = .urgent) :
    (a ++ x :: b).filter (fun e => decide (e.priority = .urgent)) =
        (a ++ b).filter (fun e => decide (e.priority = .urgent)) ∧
      (a ++ x :: b).filter (fun e => decide (e.priority = .normal)) =
        (a ++ b).filter (fun e => decide (e.priority = .normal)) ++ [x] := by
  obtain ⟨-, hn⟩ := filter_urgent_of_all hb
  simp [hx, hn]

theorem filter_normal_of_all {w : List Notice} (h : ∀ e ∈ w, e.priority = .normal) :
    w.filter (fun e => decide (e.priority = .urgent)) = [] ∧
      w.filter (fun e => decide (e.priority = .normal)) = w :=
  ⟨List.filter_eq_nil_iff.2 fun e he => by simp [h e he], List.filter_eq_self.2 fun e he => by simp [h e he]⟩

theorem filter_filter_urgent (w : List Notice) :
    ((w.filter (fun e => decide (e.priority = .urgent))) ++ w.filter (fun e => decide (e.priority = .normal))).filter
        (fun e => decide (e.priority = .urgent)) = w.filter (fun e => decide (e.priority = .urgent)) ∧
      ((w.filter (fun e => decide (e.priority = .urgent))) ++ w.filter (fun e => decide (e.priority = .normal))).filter
        (fun e => decide (e.priority = .normal)) = w.filter (fun e => decide (e.priority = .normal)) := by
  obtain ⟨hu, hun⟩ := filter_urgent_of_all (w := w.filter (fun e => decide (e.priority = .urgent)))
    fun e he => of_decide_eq_true (List.mem_filter.1 he).2
  obtain ⟨hnu, hn⟩ := filter_normal_of_all (w := w.filter (fun e => decide (e.priority = .normal)))
    fun e he => of_decide_eq_true (List.mem_filter.1 he).2
  rw [List.filter_append, List.filter_append, hu, hun, hnu, hn, List.append_nil, List.nil_append]
  exact ⟨rfl, rfl⟩

/-! ## Offering -/

theorem raiseCell_raiseCell (d d' : List Byte) (x : ReportCell) :
    raiseCell d' (raiseCell d x) = raiseCell d' x := by
  obtain ⟨p, _, _, _, _, _⟩ := x
  cases p <;> rfl

/-- Of two raisings of a class the later one's detail stands. -/
theorem raise_reports_again (cls : ReportClass) (d d' : List Byte) {s t : State}
    (h : t.reports = (raise cls d s).reports) : (raise cls d' t).reports = (raise cls d' s).reports := by
  have hcells : raiseCell d' ∘ raiseCell d = raiseCell d' := funext (raiseCell_raiseCell d d')
  have hsame : (raise cls d' t).reports = (raise cls d' (raise cls d s)).reports := by simp only [raise, h]
  rw [hsame]
  simp only [raise, updAt_eq_modify, List.modify_modify_eq, hcells]

/-- The reports of `s` with NOTICE_DROPPED raised for the last loss, if any. -/
def lostReports (s : State) (lost : Option (List Byte)) : Reports :=
  match lost with
  | some detail => (raise .noticeDropped detail s).reports
  | none => s.reports

/-- The run stands where the queue of `t` stands, its losses counted from the reports of `s`. -/
structure QueueRun.At (s : State) (r : QueueRun) (t : State) : Prop where
  queue : r.queue = t.notices.queue
  count : r.count = t.notices.count
  reports : t.reports = lostReports s r.lost

theorem QueueRun.At.start (s : State) : QueueRun.At s { queue := s.notices.queue, count := s.notices.count } s :=
  ⟨rfl, rfl, rfl⟩

variable {s t : State} {r : QueueRun}

theorem QueueRun.At.place (h : r.At s t) (n : Notice) : (r.place n).At s (placeNotice n t) where
  queue := by rw [QueueRun.place_eq, placeNotice_queue, h.queue, h.count]
  count := by rw [QueueRun.place_eq, placeNotice_count, h.count]
  reports := by rw [QueueRun.place_eq, placeNotice_reports, h.reports]

theorem QueueRun.At.setQueue (h : r.At s t) (q : List Notice) :
    ({ r with queue := q } : QueueRun).At s (setQueue q t) where
  queue := by rw [setQueue_queue]
  count := by rw [setQueue_count, h.count]
  reports := by rw [setQueue_reports, h.reports]

theorem QueueRun.At.lose (h : r.At s t) (why : Nat) (n : Notice) :
    (r.lose (byteOf why) n).At s (noticeDropped why n t) where
  queue := h.queue
  count := h.count
  reports := by
    have hr := h.reports
    unfold lostReports at hr
    show (raise .noticeDropped _ t).reports = (raise .noticeDropped _ s).reports
    split at hr
    · exact raise_reports_again _ _ _ hr
    · simp only [raise, hr]

theorem QueueRun.At.supersede (h : r.At s t) (k : NoticeKind) :
    (if k = .nextStop ∨ k = .arriving then
      ({ r with queue := r.queue.filter (fun e => decide (e.kind ≠ k)) } : QueueRun) else r).At s (supersede k t) := by
  split
  · next hk =>
    rw [supersede_of hk, ← h.queue]
    exact h.setQueue _
  · next hk =>
    rw [supersede_not hk]
    exact h

/-- What a run does with a notice that finds 8 entries. -/
def QueueRun.displaceBy (r : QueueRun) (m : Notice) : QueueRun :=
  let urgent := r.queue.tail.filter (fun e => decide (e.priority = .urgent))
  let normal := r.queue.tail.filter (fun e => decide (e.priority = .normal))
  match m.priority, normal.getLast? with
  | .urgent, some x =>
    ({ r.lose 1 x with queue := r.queue.take 1 ++ urgent ++ normal.dropLast } : QueueRun).place m
  | _, _ => r.lose 0 m

theorem QueueRun.offer_eq (r : QueueRun) (m : Notice) :
    r.offer m =
      let p := if m.kind = .nextStop ∨ m.kind = .arriving then
        ({ r with queue := r.queue.filter (fun e => decide (e.kind ≠ m.kind)) } : QueueRun) else r
      if p.queue.length < 8 then p.place m else p.displaceBy m := rfl

/-- Two runs that differ in the order of URGENT against NORMAL entries place an URGENT notice alike. -/
theorem placedQueue_urgent {m h : Notice} (hm : m.priority = .urgent) (w : List Notice) :
    placedQueue m (h :: (w.filter (fun e => decide (e.priority = .urgent)) ++
      w.filter (fun e => decide (e.priority = .normal)))) = placedQueue m (h :: w) := by
  obtain ⟨hu, hn⟩ := filter_filter_urgent w
  unfold placedQueue
  dsimp only
  rw [insertWaiting_urgent hm, insertWaiting_urgent hm, hu, hn]

theorem QueueRun.At.displace (h : r.At s t) (n : Notice) : (r.displaceBy n).At s (displace n t) := by
  unfold QueueRun.displaceBy Machine.displace
  rw [h.queue]
  cases hp : n.priority
  · exact h.lose 0 n
  · cases hq : t.notices.queue with
    | nil => exact h.lose 0 n
    | cons e w =>
      cases hs : splitNormal w with
      | none =>
        have hn := (filter_urgent_of_all (splitNormal_none hs)).2
        simp only [List.tail_cons, hn, List.getLast?_nil, hs]
        exact h.lose 0 n
      | some axb =>
        obtain ⟨a, x, b⟩ := axb
        obtain ⟨rfl, hx, hb⟩ := splitNormal_some hs
        obtain ⟨hu, hn⟩ := split_filters (a := a) hx hb
        simp only [List.tail_cons, hu, hn, hs, List.getLast?_concat, List.dropLast_concat, List.take_succ_cons,
          List.take_zero]
        have hrun := ((h.setQueue (e :: (a ++ b))).lose 1 x).place n
        refine ⟨?_, hrun.count, hrun.reports⟩
        rw [← hrun.queue]
        simp only [QueueRun.place_eq, QueueRun.lose]
        exact placedQueue_urgent (by exact hp) (a ++ b)

/-- Offering a notice to the queue is one turn of the run. -/
theorem QueueRun.At.offer (h : r.At s t) (n : Notice) : (r.offer n).At s (offerNotice n t) := by
  have hs := h.supersede n.kind
  rw [QueueRun.offer_eq]
  unfold offerNotice
  dsimp only
  rw [hs.queue]
  split
  · exact hs.place n
  · exact hs.displace n

/-! ## What the queue holds at most (R112) -/

/-- At most 8 entries, and at most one of each superseding kind. -/
structure QueueLawful (q : List Notice) : Prop where
  length : q.length ≤ 8
  nextStop : (q.filter (fun e => decide (e.kind = .nextStop))).length ≤ 1
  arriving : (q.filter (fun e => decide (e.kind = .arriving))).length ≤ 1

theorem placedQueue_perm (m : Notice) (q : List Notice) : (placedQueue m q).Perm (m :: q) := by
  cases q with
  | nil => exact .refl _
  | cons h w =>
    refine List.Perm.trans (List.Perm.cons h ?_) (List.Perm.swap m h w)
    show (insertWaiting m w).Perm (m :: w)
    cases hp : m.priority
    · rw [insertWaiting_normal hp]
      exact List.perm_append_singleton m w
    · rw [insertWaiting_urgent hp]
      refine List.perm_middle.trans (List.Perm.cons m ?_)
      have hn : (fun e : Notice => decide (e.priority = .normal)) =
          fun e => !decide (e.priority = .urgent) := by
        funext e
        cases e.priority <;> rfl
      rw [hn]
      exact List.filter_append_perm _ w

theorem filter_length_of_perm {p q : List Notice} (h : p.Perm q) (f : Notice → Bool) :
    (p.filter f).length = (q.filter f).length := (h.filter f).length_eq

/-- The queue with every entry of a notice's kind removed, when that is a superseding one. -/
def withoutKind (k : NoticeKind) (q : List Notice) : List Notice :=
  if k = .nextStop ∨ k = .arriving then q.filter fun e => decide (e.kind ≠ k) else q

theorem withoutKind_sublist (k : NoticeKind) (q : List Notice) : (withoutKind k q).Sublist q := by
  unfold withoutKind
  split
  · exact List.filter_sublist
  · exact List.Sublist.refl _

theorem QueueLawful.sublist {p q : List Notice} (h : QueueLawful q) (hs : p.Sublist q) : QueueLawful p where
  length := hs.length_le.trans h.length
  nextStop := ((hs.filter _).length_le).trans h.nextStop
  arriving := ((hs.filter _).length_le).trans h.arriving

theorem QueueLawful.perm {p q : List Notice} (h : QueueLawful q) (hs : p.Perm q) : QueueLawful p where
  length := hs.length_eq.le.trans h.length
  nextStop := (filter_length_of_perm hs _).le.trans h.nextStop
  arriving := (filter_length_of_perm hs _).le.trans h.arriving

/-- A notice of a kind of which the queue holds none, with a place free. -/
theorem QueueLawful.place {q : List Notice} (h : QueueLawful q) (m : Notice) (hlen : q.length < 8)
    (hno : m.kind.supersedes → ∀ e ∈ q, e.kind ≠ m.kind) : QueueLawful (placedQueue m q) := by
  have one (k : NoticeKind) (hk : k.supersedes) (hq : (q.filter (fun e => decide (e.kind = k))).length ≤ 1) :
      ((placedQueue m q).filter (fun e => decide (e.kind = k))).length ≤ 1 := by
    rw [filter_length_of_perm (placedQueue_perm m q), List.filter_cons]
    split
    · next hm =>
      obtain rfl : m.kind = k := of_decide_eq_true hm
      rw [List.filter_eq_nil_iff.2 fun e he => by simp [hno hk e he]]
      exact Nat.le_refl _
    · exact hq
  exact ⟨(placedQueue_perm m q).length_eq.le.trans (by simpa using hlen), one _ (.inl rfl) h.nextStop,
    one _ (.inr rfl) h.arriving⟩

theorem mem_withoutKind {k : NoticeKind} (hk : k.supersedes) {q : List Notice} {e : Notice}
    (he : e ∈ withoutKind k q) : e.kind ≠ k := by
  have hk' : k = .nextStop ∨ k = .arriving := hk
  unfold withoutKind at he
  rw [if_pos hk'] at he
  simpa using (List.mem_filter.1 he).2

/-- Offering a notice keeps the queue lawful. -/
theorem QueueLawful.offer (h : QueueLawful r.queue) (m : Notice) : QueueLawful (r.offer m).queue := by
  have hw : QueueLawful (withoutKind m.kind r.queue) := h.sublist (withoutKind_sublist _ _)
  have hq : (if m.kind = .nextStop ∨ m.kind = .arriving then
      ({ r with queue := r.queue.filter (fun e => decide (e.kind ≠ m.kind)) } : QueueRun) else r).queue =
      withoutKind m.kind r.queue := by
    unfold withoutKind
    split <;> rfl
  rw [QueueRun.offer_eq]
  dsimp only
  generalize (if m.kind = .nextStop ∨ m.kind = .arriving then
      ({ r with queue := r.queue.filter (fun e => decide (e.kind ≠ m.kind)) } : QueueRun) else r) = p at hq ⊢
  split
  · next hlt =>
    rw [QueueRun.place_eq, hq]
    exact hw.place _ (hq ▸ hlt) fun hk e he => mem_withoutKind hk he
  · unfold QueueRun.displaceBy
    dsimp only
    rw [hq]
    split
    · next x hp hx =>
      rw [QueueRun.place_eq]
      dsimp only
      cases hc : withoutKind m.kind r.queue with
      | nil =>
        rw [hc] at hx
        cases hx
      | cons e w =>
        rw [hc] at hx hw
        simp only [List.tail_cons] at hx
        have hperm : (e :: w).Perm (x :: e :: (w.filter (fun e => decide (e.priority = .urgent)) ++
            (w.filter (fun e => decide (e.priority = .normal))).dropLast)) := by
          have hn : (fun e : Notice => decide (e.priority = .normal)) =
              fun e => !decide (e.priority = .urgent) := by
            funext e
            cases e.priority <;> rfl
          have hsplit := List.filter_append_perm (fun e : Notice => decide (e.priority = .urgent)) w
          rw [← hn, ← List.dropLast_append_getLast? x hx, ← List.append_assoc] at hsplit
          exact ((hsplit.symm.trans (List.perm_append_singleton _ _)).cons e).trans (.swap _ _ _)
        have hsub : QueueLawful (e :: (w.filter (fun e => decide (e.priority = .urgent)) ++
            (w.filter (fun e => decide (e.priority = .normal))).dropLast)) :=
          (hw.perm hperm.symm).sublist (List.sublist_cons_self _ _)
        refine hsub.place _ ?_ fun hk e' he' => ?_
        · have := hperm.length_eq
          have := hw.length
          simp only [List.length_cons] at *
          omega
        · have hin : e' ∈ withoutKind m.kind r.queue := by
            rw [hc]
            exact hperm.symm.subset (List.mem_cons_of_mem _ he')
          exact mem_withoutKind hk hin
    · rw [show (p.lose 0 m).queue = p.queue from rfl, hq]
      exact hw

end Sys2Proof.Machine
end

section
/-! Proofs for the panels and the Raster Engine: what every operation on them keeps, the laws of both among it. -/

namespace Sys2Proof.Machine


open Sys2Proof

/-! ## One panel -/

/-- What operations on a panel keep: the law, a composition under way, canonical pages, and no pending flip. -/
structure Panel.Sound (x y : Panel) : Prop where
  law : x.Law → y.Law
  composing : x.composer = some .composing → y.composer = some .composing
  pages : x.shown.pixels.wf = true ∧ x.back.pixels.wf = true → y.shown.pixels.wf = true ∧ y.back.pixels.wf = true
  flip : x.flipPending = false → y.flipPending = false

/-- The same, and the fields that the service lock freezes. -/
structure Panel.Kept (x y : Panel) : Prop extends Panel.Sound x y where
  locked : y.config.lockedFields = x.config.lockedFields

theorem Panel.Sound.trans {x y z : Panel} (h : x.Sound y) (k : y.Sound z) : x.Sound z where
  law := fun hl => k.law (h.law hl)
  composing := fun hc => k.composing (h.composing hc)
  pages := fun hp => k.pages (h.pages hp)
  flip := fun hf => k.flip (h.flip hf)

theorem Panel.Kept.refl (x : Panel) : x.Kept x := ⟨⟨id, id, id, id⟩, rfl⟩

theorem Panel.Kept.trans {x y z : Panel} (h : x.Kept y) (k : y.Kept z) : x.Kept z :=
  ⟨h.toSound.trans k.toSound, k.locked.trans h.locked⟩

/-- The law reads no more of a panel than this. -/
theorem Panel.Law.congr {x y : Panel} (h : x.Law) (hc : y.config.lockedFields = x.config.lockedFields)
    (he : y.config.enable = x.config.enable) (hr : y.refresh.isSome = x.refresh.isSome)
    (hf : y.flipPending = true → x.flipPending = true) (hk : y.composer.isSome = x.composer.isSome)
    (hp : y.palette.length = x.palette.length) : y.Law := by
  simp only [PanelConfig.lockedFields, Prod.mk.injEq] at hc
  obtain ⟨hrole, hw, hh, -, -⟩ := hc
  have hen : y.enabled = x.enabled := by simp only [Panel.enabled, he, hrole]
  obtain ⟨h1, h2, h3, h4, h5, h6, h7, h8, h9⟩ := h
  unfold Panel.Law
  rw [hr, hen, hk, hrole, hw, hh, hp]
  refine ⟨h1, fun hoff => ?_, h3, h4, h5, h6, h7, h8, h9⟩
  have := h2 hoff
  cases hy : y.flipPending
  · rfl
  · rw [hf hy] at this
    cases this

/-- A change of what neither the law nor a page reads. -/
theorem Panel.Kept.of_fields {x y : Panel} (hc : y.config.lockedFields = x.config.lockedFields)
    (he : y.config.enable = x.config.enable) (hr : y.refresh.isSome = x.refresh.isSome)
    (hf : y.flipPending = x.flipPending) (hk : y.composer = x.composer)
    (hp : y.palette.length = x.palette.length) (hs : y.shown.pixels = x.shown.pixels)
    (hb : y.back.pixels = x.back.pixels) : x.Kept y where
  locked := hc
  law := fun h => h.congr hc he hr (fun hy => hf ▸ hy) (by rw [hk]) hp
  composing := fun h => hk.trans h
  pages := fun h => by rwa [hs, hb]
  flip := fun h => hf.trans h

/-- Another composer state, of a panel that has one, and never out of COMPOSING. -/
theorem Panel.Kept.setComposer {x : Panel} {k : Option ComposerState} {b : Bool} (hs : k.isSome = x.composer.isSome)
    (hk : x.composer = some .composing → k = some .composing) : x.Kept { x with composer := k, redo := b } :=
  ⟨⟨fun h => h.congr rfl rfl rfl id hs rfl, hk, id, id⟩, rfl⟩

theorem Panel.Kept.markDirty (x : Panel) : x.Kept x.markDirty := by
  unfold Panel.markDirty
  split
  · exact .refl x
  · next h => exact .setComposer (by simp [h]) (by simp [h])
  · exact .refl x
  · next h => exact .setComposer (by simp [h]) (by simp [h])
  · next h => exact .setComposer (by simp [h]) (by simp [h])

theorem Panel.Kept.markRole (r : Role) (x : Panel) : x.Kept (x.markRole r) := by
  unfold Panel.markRole
  split
  · exact .markDirty x
  · exact .refl x

theorem Panel.Kept.exchange (x : Panel) : x.Kept x.exchange where
  locked := rfl
  law := fun h => h.congr rfl rfl rfl (fun hf => by cases hf) rfl rfl
  composing := id
  pages := fun h => ⟨h.2, h.1⟩
  flip := fun _ => rfl

theorem Panel.Kept.flipComposer (x : Panel) : x.Kept x.flipComposer := by
  unfold Panel.flipComposer
  split
  · next h =>
    split
    · exact .setComposer (by simp [h]) (by simp [h])
    · exact .setComposer (by simp [h]) (by simp [h])
  · exact .refl x

/-! ## Painting -/

/-- Only pixels of the back page have changed, and a canonical page stays so. -/
def Panel.Painted (x y : Panel) : Prop :=
  ∃ m : Store, y = { x with back := { x.back with pixels := m } } ∧ (x.back.pixels.wf = true → m.wf = true)

theorem Panel.Painted.refl (x : Panel) : x.Painted x := ⟨x.back.pixels, rfl, id⟩

theorem Panel.Painted.ite {c : Prop} [Decidable c] {x y : Panel} (h : x.Painted y) :
    x.Painted (if c then y else x) := by
  split
  · exact h
  · exact .refl x

theorem Panel.Painted.trans {x y z : Panel} (h : x.Painted y) (k : y.Painted z) : x.Painted z := by
  obtain ⟨m, rfl, hm⟩ := h
  obtain ⟨n, rfl, hn⟩ := k
  exact ⟨n, rfl, fun h => hn (hm h)⟩

theorem Panel.Painted.kept {x y : Panel} (h : x.Painted y) : x.Kept y := by
  obtain ⟨m, rfl, hm⟩ := h
  exact {
    locked := rfl
    law := fun h => h.congr rfl rfl rfl id rfl rfl
    composing := id
    pages := fun h => ⟨h.1, hm h.2⟩
    flip := id }

theorem Panel.Painted.plot (r : Record) (c : Pixel) (px py : Int) (x : Panel) : x.Painted (x.plot r c px py) :=
  Panel.plot_eq r c px py x

theorem Panel.Painted.consider (r : Record) (l : LineRun) (x : Panel) : x.Painted (x.consider r l) := by
  unfold Panel.consider
  dsimp only
  split
  · exact Panel.write_eq _ _ _ _ x
  · exact .refl x

/-- Every pixel job of a list paints only. -/
def PaintsOnly (jobs : List (Panel → Panel)) : Prop := ∀ f ∈ jobs, ∀ x : Panel, x.Painted (f x)

theorem PaintsOnly.nil : PaintsOnly [] := fun _ h => nomatch h

theorem PaintsOnly.map {α : Type} {l : List α} {f : α → Panel → Panel} (h : ∀ a x, Panel.Painted x (f a x)) :
    PaintsOnly (l.map f) := fun g hg x => by
  obtain ⟨a, -, rfl⟩ := List.mem_map.1 hg
  exact h a x

theorem paintsOnly_glyphJobs (r : Record) (f : Font) (code : Byte) (ox oy : Int) (fg bg : Byte) (tr : Bool) :
    PaintsOnly (glyphJobs r f code ox oy fg bg tr) := fun g hg x => by
  obtain ⟨j, -, hg⟩ := List.mem_flatMap.1 hg
  refine PaintsOnly.map (fun i x => ?_) g hg x
  split
  · exact .plot _ _ _ _ x
  · split
    · exact .refl x
    · exact .plot _ _ _ _ x

theorem paintsOnly_rowJobs (r : Record) (x : Panel) (done : Nat) : PaintsOnly (rowJobs r x done) := by
  unfold rowJobs
  split
  · exact .map fun i x => .plot _ _ _ _ x
  · refine .map fun i x => ?_
    split
    · exact .plot _ _ _ _ x
    · exact .refl x
  · exact .map fun i x => .ite (.plot _ _ _ _ x)
  · exact .nil

theorem paintsOnly_unitJobs (cell : Option Font) (r : Record) (x : Panel) (w : Work) :
    PaintsOnly (unitJobs cell r x w) := by
  unfold unitJobs
  split
  · exact paintsOnly_rowJobs _ _ _
  · intro f hf x
    rw [List.mem_singleton.1 hf]
    exact .consider _ _ x
  · split
    · split
      · exact paintsOnly_glyphJobs _ _ _ _ _ _ _ _
      · exact .nil
    · exact .nil
  · exact .nil
  · split
    · split
      · exact paintsOnly_glyphJobs _ _ _ _ _ _ _ _
      · exact .nil
    · exact .nil

theorem Panel.Painted.applyJobs {jobs : List (Panel → Panel)} (h : PaintsOnly jobs) (x : Panel) :
    x.Painted (applyJobs jobs x) := by
  induction jobs generalizing x with
  | nil => exact .refl x
  | cons f fs ih => exact (h f (by simp) x).trans (ih (fun g hg => h g (by simp [hg])) (f x))

theorem PaintsOnly.drop {jobs : List (Panel → Panel)} (h : PaintsOnly jobs) (n : Nat) : PaintsOnly (jobs.drop n) :=
  fun f hf => h f (List.mem_of_mem_drop hf)

theorem PaintsOnly.take {jobs : List (Panel → Panel)} (h : PaintsOnly jobs) (n : Nat) : PaintsOnly (jobs.take n) :=
  fun f hf => h f (List.mem_of_mem_take hf)

theorem Panel.Painted.runUnits (fonts : List (Option Font)) (r : Record) : (n part : Nat) → (held : Option Font) →
    (x : Panel) → (w : Work) → x.Painted (runUnits fonts r n part held x w).1
  | 0, _, _, x, _ => .refl x
  | n + 1, part, held, x, w => by
    unfold Machine.runUnits
    split
    · exact .refl x
    · exact (Panel.Painted.applyJobs ((paintsOnly_unitJobs _ _ _ _).drop part) x).trans (.runUnits fonts r n 0 none _ _)

theorem Panel.Painted.runPart (fonts : List (Option Font)) (r : Record) : (n k part : Nat) → (held : Option Font) →
    (x : Panel) → (w : Work) → x.Painted (runPart fonts r n k part held x w).panel
  | 0, k, part, held, x, w => by
    unfold Machine.runPart
    split
    · exact .refl x
    · exact .applyJobs (((paintsOnly_unitJobs _ _ _ _).drop part).take _) x
  | n + 1, k, part, held, x, w => by
    unfold Machine.runPart
    split
    · exact .refl x
    · dsimp only
      split
      · exact .refl x
      · exact (Panel.Painted.applyJobs ((paintsOnly_unitJobs _ _ _ _).drop part) x).trans
          (.runPart fonts r n k 0 none _ _)

/-! ## The laws of panels, pages and engine together -/

theorem mem_allPanels (p : PanelId) : p ∈ allPanels := by cases p <;> decide

theorem noticeLaw_of_notices {s t : State} (h : t.notices = s.notices) (hs : NoticeLaw s) : NoticeLaw t := by
  unfold NoticeLaw
  rw [h]
  exact hs

/-- What the Notice Unit is told does not touch its law. -/
theorem noticeLaw_told {s t : State} (h : ∃ b, t.notices = { s.notices with fromPanels := b }) (hs : NoticeLaw s) :
    NoticeLaw t := by
  obtain ⟨b, hb⟩ := h
  unfold NoticeLaw
  rw [hb]
  exact hs

/-- The service lock is set and the settings load over. -/
def State.Held (s : State) : Prop := s.mgmt.locked = true ∧ s.mgmt.loading = false

/-- Once set, the lock stays set, the load over, and the stored identity the same. -/
def StoreKept (s t : State) : Prop :=
  s.Held → t.Held ∧ t.mgmt.storedId = s.mgmt.storedId ∧ t.mgmt.storedLabel = s.mgmt.storedLabel

theorem StoreKept.of_mgmt {s t : State} (hl : t.mgmt.locked = s.mgmt.locked) (ho : t.mgmt.loading = s.mgmt.loading)
    (hi : t.mgmt.storedId = s.mgmt.storedId) (hb : t.mgmt.storedLabel = s.mgmt.storedLabel) : StoreKept s t :=
  fun h => ⟨⟨hl.trans h.1, ho.trans h.2⟩, hi, hb⟩

theorem StoreKept.of_same {s t : State} (h : t.mgmt = s.mgmt) : StoreKept s t :=
  .of_mgmt (by rw [h]) (by rw [h]) (by rw [h]) (by rw [h])

theorem StoreKept.trans {s t u : State} (h : StoreKept s t) (k : StoreKept t u) : StoreKept s u := fun hs => by
  obtain ⟨h1, h2, h3⟩ := h hs
  obtain ⟨k1, k2, k3⟩ := k h1
  exact ⟨k1, k2.trans h2, k3.trans h3⟩

/-- What an operation keeps of the Notice Unit, the panels, their pages and the engine; and of what the service lock
freezes, the store and the panel fields. -/
structure DrawingKept (s t : State) : Prop where
  notices : NoticeLaw s → NoticeLaw t
  store : StoreKept s t
  locked : s.Held → ∀ p, (t.panel p).config.lockedFields = (s.panel p).config.lockedFields
  law : PanelsLaw s → PanelsLaw t
  pages : PagesLaw s → PagesLaw t
  engine : EngineLaw s → EngineLaw t

theorem DrawingKept.refl (s : State) : DrawingKept s s := ⟨id, .of_same rfl, fun _ _ => rfl, id, id, id⟩

theorem DrawingKept.trans {s t u : State} (h : DrawingKept s t) (k : DrawingKept t u) : DrawingKept s u where
  notices := fun hn => k.notices (h.notices hn)
  store := h.store.trans k.store
  locked := fun hs p => (k.locked (h.store hs).1 p).trans (h.locked hs p)
  law := fun hl => k.law (h.law hl)
  pages := fun hp => k.pages (h.pages hp)
  engine := fun he => k.engine (h.engine he)

/-- The engine's law where no flip has fallen due. -/
theorem EngineLaw.of_flips {s t : State} (h : EngineLaw s) (he : t.engine = s.engine)
    (hf : ∀ p, (s.panel p).flipPending = false → (t.panel p).flipPending = false) : EngineLaw t := by
  obtain ⟨h1, h2, h3, h4, h5⟩ := h
  unfold EngineLaw
  rw [he]
  refine ⟨h1, h2, h3, h4, fun u hu => ?_⟩
  obtain ⟨p, hp, hfree⟩ := h5 u hu
  exact ⟨p, hp, hf p hfree⟩

/-- The engine's law with no record running. -/
theorem EngineLaw.of_idle {t : State} (hr : t.engine.running = none) (hc : t.engine.composerQ.length ≤ 16)
    (hb : t.engine.inBandQ.length ≤ 16)
    (hs : ∀ u ∈ t.engine.suspended, u.source = .inBand ∧ u.record.target.isSome = true) : EngineLaw t := by
  have hno (u : Running) : u ∉ t.engine.running := by
    rw [hr]
    exact fun h => nomatch h
  exact ⟨hc, hb, hs, fun u hu => absurd hu (hno u), fun u hu => absurd hu (hno u)⟩

/-- Panels that are each kept, the locked fields where the lock holds, with the same engine and composition. -/
theorem DrawingKept.of_sound {s t : State} (hp : ∀ p, (s.panel p).Sound (t.panel p))
    (hf : s.Held → ∀ p, (t.panel p).config.lockedFields = (s.panel p).config.lockedFields)
    (hc : t.panels.composing = s.panels.composing) (he : t.engine = s.engine)
    (hl : StoreKept s t) (hn : NoticeLaw s → NoticeLaw t) : DrawingKept s t where
  notices := hn
  store := hl
  locked := hf
  law := fun ⟨h1, h2⟩ => by
    refine ⟨fun p hm => (hp p).law (h1 p hm), fun k hk => ?_⟩
    rw [hc] at hk
    exact (hp k.panel).composing (h2 k hk)
  pages := fun h p hm => (hp p).pages (h p hm)
  engine := fun h => h.of_flips he fun p => (hp p).flip

theorem DrawingKept.of_panels {s t : State} (hp : ∀ p, (s.panel p).Kept (t.panel p))
    (hc : t.panels.composing = s.panels.composing) (he : t.engine = s.engine)
    (hl : StoreKept s t) (hn : NoticeLaw s → NoticeLaw t) : DrawingKept s t :=
  .of_sound (fun p => (hp p).toSound) (fun _ p => (hp p).locked) hc he hl hn

/-- Nothing that the relation reads has changed. -/
theorem DrawingKept.of_same {s t : State} (hp : t.panels = s.panels) (he : t.engine = s.engine)
    (hl : StoreKept s t) (hn : t.notices = s.notices) : DrawingKept s t :=
  .of_panels (fun p => by simp only [State.panel, hp]; exact .refl _) (by rw [hp]) he hl (noticeLaw_of_notices hn)

theorem DrawingKept.of_unchanged {ps : List Part} {s t : State} (h : UnchangedBut ps s t)
    (hp : Part.panels ∉ ps := by decide) (he : Part.engine ∉ ps := by decide) (hm : Part.mgmt ∉ ps := by decide)
    (hn : Part.notices ∉ ps := by decide) : DrawingKept s t :=
  .of_same (h.panels hp) (h.engine he) (.of_same (h.mgmt hm)) (h.notices hn)

/-- One panel set to another, and a relation that the two satisfy. -/
theorem State.setPanel_related {R : Panel → Panel → Prop} (hr : ∀ x, R x x) {s : State} {p : PanelId} {y : Panel}
    (h : R (s.panel p) y) (q : PanelId) : R (s.panel q) ((s.setPanel p y).panel q) := by
  by_cases hq : q = p
  · subst hq
    rwa [State.panel_setPanel_same]
  · rw [State.panel_setPanel_ne s hq]
    exact hr _

theorem State.setPanel_kept {s : State} {p : PanelId} {y : Panel} (h : (s.panel p).Kept y) (q : PanelId) :
    (s.panel q).Kept ((s.setPanel p y).panel q) := State.setPanel_related Panel.Kept.refl h q

/-- A write that the service lock would refuse. -/
theorem DrawingKept.setPanel_unheld {s : State} {p : PanelId} {y : Panel} (hno : ¬ s.Held)
    (h : (s.panel p).Sound y) : DrawingKept s (s.setPanel p y) :=
  .of_sound (State.setPanel_related (fun x => (Panel.Kept.refl x).toSound) h) (fun hs => absurd hs hno) (by simp) rfl
    (.of_same rfl) id

theorem DrawingKept.setPanel {s : State} {p : PanelId} {y : Panel} (h : (s.panel p).Kept y) :
    DrawingKept s (s.setPanel p y) :=
  .of_panels (State.setPanel_kept h) (by simp) rfl (.of_same rfl) id

theorem markRole_panel (r : Role) (s : State) (p : PanelId) :
    (markRole r s).panel p = (s.panel p).markRole r := by cases p <;> rfl

theorem DrawingKept.markRole (r : Role) (s : State) : DrawingKept s (markRole r s) :=
  .of_panels (fun p => by rw [markRole_panel]; exact .markRole r _) rfl rfl (.of_same rfl) id

theorem DrawingKept.markPanel (p : PanelId) (s : State) : DrawingKept s (markPanel p s) :=
  .setPanel (.markDirty _)

theorem completeFlip_composing (p : PanelId) (s : State) :
    (completeFlip p s).panels.composing = s.panels.composing := by
  unfold completeFlip
  dsimp only
  split <;> simp

theorem completeFlip_told (p : PanelId) (s : State) :
    ∃ b, (completeFlip p s).notices = { s.notices with fromPanels := b } := by
  unfold completeFlip
  dsimp only
  split
  · exact ⟨_, rfl⟩
  · exact ⟨s.notices.fromPanels, rfl⟩

theorem completeFlip_kept (p : PanelId) (s : State) (q : PanelId) :
    (s.panel q).Kept ((completeFlip p s).panel q) := by
  by_cases hq : q = p
  · subst hq
    rw [completeFlip_same]
    exact (Panel.Kept.exchange _).trans (.flipComposer _)
  · rw [completeFlip_other hq]
    exact .refl _

theorem DrawingKept.completeFlip (p : PanelId) (s : State) : DrawingKept s (completeFlip p s) :=
  .of_panels (completeFlip_kept p s) (completeFlip_composing p s) (completeFlip_engine p s)
    (.of_same ((completeFlip_keeps (.refl [.panels, .notices] s)).mgmt (by decide))) 
    (noticeLaw_told (completeFlip_told p s))

/-! ## The engine arbiter -/

/-- A flip falls due only while nothing runs; on a panel that is not enabled it completes at once. -/
theorem DrawingKept.markFlip (p : PanelId) {s : State} (hrun : s.engine.running = none) :
    DrawingKept s (markFlip p s) := by
  have pending (x : Panel) : x.enabled = true → x.Law → Panel.Law { x with flipPending := true } := by
    rintro hen ⟨h1, -, h3⟩
    refine ⟨h1, fun hoff => ?_, h3⟩
    replace hoff : x.enabled = false := hoff
    rw [hen] at hoff
    cases hoff
  unfold Machine.markFlip
  dsimp only
  rw [State.panel_setPanel_same]
  split
  · next hen =>
    exact {
      notices := id
      store := .of_same rfl
      locked := fun _ q => by
        by_cases hq : q = p
        · subst hq
          rw [State.panel_setPanel_same]
        · rw [State.panel_setPanel_ne s hq]
      law := fun ⟨h1, h2⟩ => by
        refine ⟨fun q hm => ?_, fun k hk => ?_⟩
        · by_cases hq : q = p
          · subst hq
            rw [State.panel_setPanel_same]
            exact pending _ hen (h1 q hm)
          · rw [State.panel_setPanel_ne s hq]
            exact h1 q hm
        · rw [State.setPanel_panels, Panels.setPanel_composing] at hk
          have := h2 k hk
          by_cases hq : k.panel = p
          · rw [hq] at this ⊢
            rwa [State.panel_setPanel_same]
          · rwa [State.panel_setPanel_ne s hq]
      pages := fun h q hm => by
        have := h q hm
        by_cases hq : q = p
        · subst hq
          rwa [State.panel_setPanel_same]
        · rwa [State.panel_setPanel_ne s hq]
      engine := fun ⟨h1, h2, h3, _, _⟩ => .of_idle hrun h1 h2 h3 }
  · have hsame : Machine.completeFlip p (s.setPanel p { s.panel p with flipPending := true }) =
        Machine.completeFlip p s := by
      simp only [Machine.completeFlip, State.panel_setPanel_same, State.setPanel_setPanel]
      rfl
    rw [hsame]
    exact .completeFlip p s

theorem DrawingKept.reportDraw (src : DrawSource) (r : Record) (res : DrawResult) (s : State) :
    DrawingKept s (reportDraw src r res s) := .of_unchanged (reportDraw_keeps (.refl [.reports] s))

theorem DrawingKept.of_engine {s : State} {e : Engine} (h : EngineLaw s → EngineLaw { s with engine := e }) :
    DrawingKept s { s with engine := e } := ⟨id, .of_same rfl, fun _ _ => rfl, id, id, h⟩

/-- A record taken from its queue, its panel's flip not pending and, for an in-band one, the suspend slot empty. -/
theorem DrawingKept.startRecord {src : DrawSource} {r : Record} {s : State} (hrun : s.engine.running = none)
    (hfree : flipFree r s = true) (hslot : src = .inBand → s.engine.suspended = none) :
    DrawingKept s (startRecord src r s) := by
  unfold Machine.startRecord
  split
  · next hok =>
    split
    · exact .markFlip _ hrun
    · refine .of_engine fun ⟨h1, h2, h3, _, _⟩ => ⟨h1, h2, h3, ?_, ?_⟩
      · rintro u ⟨⟩ hsrc
        exact hslot hsrc
      · rintro u ⟨⟩
        obtain ⟨p, hp⟩ : ∃ p, r.target = some p := by
          simp only [startOk, Bool.and_eq_true] at hok
          have htarget := hok.1.1
          unfold Record.targetOk at htarget
          split at htarget
          · cases htarget
          · next p hp => exact ⟨p, hp⟩
        refine ⟨p, hp, ?_⟩
        show (s.panel p).flipPending = false
        simpa [flipFree, hp] using hfree
  · exact .reportDraw src r .refused s

theorem leavePattern_fields (e : Engine) (src : DrawSource) (w : Work) :
    (e.leavePattern src w).running = e.running ∧ (e.leavePattern src w).suspended = e.suspended ∧
      (e.leavePattern src w).composerQ = e.composerQ ∧ (e.leavePattern src w).inBandQ = e.inBandQ ∧
      (e.leavePattern src w).heldLine = e.heldLine := by
  unfold Engine.leavePattern
  split
  · cases src <;> exact ⟨rfl, rfl, rfl, rfl, rfl⟩
  · exact ⟨rfl, rfl, rfl, rfl, rfl⟩

theorem DrawingKept.resumeRecord {u : Running} {s : State} (hrun : s.engine.running = none)
    (hu : s.engine.suspended = some u) (hfree : flipFree u.record s = true) :
    DrawingKept s (resumeRecord u s) := by
  unfold Machine.resumeRecord
  split
  · refine .of_engine fun ⟨h1, h2, h3, _, _⟩ => ⟨h1, h2, ?_, fun _ _ _ => rfl, ?_⟩
    · rintro v ⟨⟩
    · rintro v ⟨⟩
      obtain ⟨p, hp⟩ := Option.isSome_iff_exists.1 (h3 u hu).2
      refine ⟨p, hp, ?_⟩
      show (s.panel p).flipPending = false
      simpa [flipFree, hp] using hfree
  · refine DrawingKept.trans ?_ (.reportDraw _ _ _ _)
    obtain ⟨e1, e2, e3, e4, -⟩ := leavePattern_fields { s.engine with suspended := none } u.source u.work
    refine .of_engine fun ⟨h1, h2, _, _, _⟩ => .of_idle (e1.trans hrun) ?_ ?_ ?_
    · exact e3 ▸ h1
    · exact e4 ▸ h2
    · rw [show Engine.suspended _ = none from e2]
      rintro v ⟨⟩

/-- A queue that has lost its head. -/
theorem DrawingKept.popComposer {s : State} {r : Record} {rest : List Record}
    (hq : s.engine.composerQ = r :: rest) :
    DrawingKept s { s with engine := { s.engine with composerQ := rest } } :=
  .of_engine fun ⟨h1, h2, h3, h4, h5⟩ => ⟨by rw [hq] at h1; exact Nat.le_of_succ_le h1, h2, h3, h4, h5⟩

theorem DrawingKept.popInBand {s : State} {r : Record} {rest : List Record} (hq : s.engine.inBandQ = r :: rest) :
    DrawingKept s { s with engine := { s.engine with inBandQ := rest } } :=
  .of_engine fun ⟨h1, h2, h3, h4, h5⟩ => ⟨h1, by rw [hq] at h2; exact Nat.le_of_succ_le h2, h3, h4, h5⟩

theorem DrawingKept.chooseOnce {s t : State} (h : chooseOnce s = some t) : DrawingKept s t := by
  obtain ⟨hrun, ⟨r, rest, hq, hfree, rfl⟩ | ⟨u, -, hu, hfree, rfl⟩ | ⟨r, rest, -, hslot, hq, hfree, rfl⟩⟩ :=
    chooseOnce_cases h
  · exact (DrawingKept.popComposer hq).trans (.startRecord hrun hfree (fun h => by cases h))
  · exact .resumeRecord hrun hu hfree
  · exact (DrawingKept.popInBand hq).trans (.startRecord hrun hfree (fun _ => hslot))

theorem DrawingKept.noteEngineIdle (s : State) : DrawingKept s (noteEngineIdle s) := by
  unfold Machine.noteEngineIdle
  split
  · exact .of_same rfl rfl (.of_mgmt rfl rfl rfl rfl) rfl
  · exact .refl s

theorem DrawingKept.noteNoBatch (s : State) : DrawingKept s (noteNoBatch s) := by
  unfold Machine.noteNoBatch
  split
  · exact .of_same rfl rfl (.of_mgmt rfl rfl rfl rfl) rfl
  · exact .refl s

theorem DrawingKept.runEngine (s : State) : DrawingKept s (runEngine s) :=
  runEngine_induct (P := DrawingKept s) (fun _ _ h hc => h.trans (.chooseOnce hc))
    (fun t h => h.trans (.noteEngineIdle t)) s (.refl s)

/-! ## The running record -/

theorem DrawingKept.endRecord (u : Running) (s : State) : DrawingKept s (endRecord u s) := by
  obtain ⟨e1, e2, e3, e4, -⟩ := leavePattern_fields
    { s.engine with running := none, heldLine := heldAfter u s.engine.heldLine } u.source u.work
  refine DrawingKept.trans (DrawingKept.trans ?_ (.reportDraw _ _ _ _)) (.runEngine _)
  refine .of_engine fun ⟨h1, h2, h3, _, _⟩ => .of_idle e1 ?_ ?_ ?_
  · exact e3 ▸ h1
  · exact e4 ▸ h2
  · exact e2 ▸ h3

theorem DrawingKept.workOn (n : Nat) (u : Running) (s : State) : DrawingKept s (workOn n u s).1 :=
  .setPanel (Panel.Painted.runUnits _ _ _ _ _ _ _).kept

theorem workOn_engine (n : Nat) (u : Running) (s : State) : (workOn n u s).1.engine = s.engine := rfl

/-- The running record with what it has done so far changed. -/
theorem EngineLaw.running_work {s : State} {u v : Running} (h : EngineLaw s) (hu : s.engine.running = some u)
    (hr : v.record = u.record) (hs : v.source = u.source) :
    EngineLaw { s with engine := { s.engine with running := some v } } := by
  obtain ⟨h1, h2, h3, h4, h5⟩ := h
  refine ⟨h1, h2, h3, ?_, ?_⟩
  · rintro w ⟨⟩ hsrc
    exact h4 u hu (hs ▸ hsrc)
  · rintro w ⟨⟩
    rw [hr]
    exact h5 u hu

theorem DrawingKept.meetRunning (s : State) : DrawingKept s (meetRunning s) := by
  unfold Machine.meetRunning
  split
  · exact .refl s
  · next u hu =>
    dsimp only
    have hpaint := Panel.Painted.runPart s.panels.fonts u.record (Config.unitsDone s.freeCount)
      (Config.pixelsDone s.freeCount) u.part u.cell (s.panel u.record.panelId) u.work
    refine (DrawingKept.setPanel hpaint.kept).trans ?_
    exact ⟨id, .of_same rfl, fun _ _ => rfl, id, id, fun h => EngineLaw.running_work h hu rfl rfl⟩

/-- The running in-band record set aside (R165). -/
theorem DrawingKept.suspend {s : State} {u : Running} (hu : s.engine.running = some u) (hsrc : u.source = .inBand)
    {v : Running} (hr : v.record = u.record) (hs : v.source = u.source) :
    DrawingKept s { s with engine := { s.engine with running := none, suspended := some v } } := by
  refine .of_engine fun ⟨h1, h2, _, _, h5⟩ => .of_idle rfl h1 h2 ?_
  rintro w ⟨⟩
  obtain ⟨p, hp, -⟩ := h5 u hu
  exact ⟨hs.trans hsrc, by rw [hr, Option.mem_def.1 hp]; rfl⟩

theorem drawingKept_drawRecordEnd (s : State) : Ends (DrawingKept s) (execDrawRecordEnd s) := by
  unfold execDrawRecordEnd
  split
  · exact .next (.refl s)
  · exact .next ((DrawingKept.workOn _ _ s).trans (.endRecord _ _))

theorem drawingKept_drawRecordSuspend (n : Nat) (s : State) :
    Ends (DrawingKept s) (execDrawRecordSuspend n s) := by
  unfold execDrawRecordSuspend
  split
  · exact .next (.refl s)
  · next u hu =>
    split
    · next hc =>
      dsimp only
      split
      · exact .next ((DrawingKept.workOn _ _ s).trans (.endRecord _ _))
      · refine .next (DrawingKept.trans ?_ (.runEngine _))
        refine (DrawingKept.workOn (max 1 n) u s).trans ?_
        exact .suspend (s := (Machine.workOn (max 1 n) u s).1) hu hc.1 rfl rfl
    · exact .next (.refl s)

/-- In-band drawing discarded: queue and slot empty, and no in-band record running (R168). -/
theorem DrawingKept.discardInBand (s : State) : DrawingKept s { s with engine := { s.engine with
    inBandQ := [], suspended := none, heldLine := none, inBandPattern := 15
    running := match s.engine.running with
      | some u => if u.source = DrawSource.inBand then none else some u
      | none => none } } := by
  refine .of_engine fun ⟨h1, _, _, _, h5⟩ => ⟨h1, Nat.zero_le _, ?_, fun _ _ _ => rfl, fun u hu => h5 u ?_⟩
  · rintro v ⟨⟩
  dsimp only at hu
  split at hu
  · next v hv =>
    split at hu
    · cases hu
    · cases hu
      exact hv
  · cases hu

theorem DrawingKept.abortDraw (s : State) : DrawingKept s (abortDraw s).1 := by
  unfold Machine.abortDraw
  split
  · exact .refl s
  · dsimp only
    refine DrawingKept.trans ?_ (.runEngine _)
    have hmet : DrawingKept s (match s.engine.running with
        | some u => if u.source = DrawSource.inBand then Machine.meetRunning s else s
        | none => s) := by
      split
      · split
        · exact .meetRunning s
        · exact .refl s
      · exact .refl s
    have hstop := hmet.trans (.discardInBand _)
    split
    · exact hstop.trans (.reportDraw _ _ _ _)
    · exact hstop

theorem DrawingKept.consumeDraw (f : Frame) (s : State) : DrawingKept s (consumeDraw f s) := by
  unfold Machine.consumeDraw
  split
  · exact .of_unchanged (raise_keeps (.refl [.reports] s))
  · split
    · exact .of_unchanged (raise_keeps (.refl [.reports] s))
    · next rs _ =>
      split
      · next hfit =>
        refine DrawingKept.trans (.of_engine (e := { s.engine with inBandQ := s.engine.inBandQ ++ rs })
          fun ⟨h1, h2, h3, h4, h5⟩ => ⟨h1, ?_, h3, h4, h5⟩) (.runEngine _)
        simpa using hfit
      · exact .of_unchanged (raiseOverflow_keeps (.refl [.reports] s))

end Sys2Proof.Machine
end

section
/-! Proofs for the notices, the panels and the engine at every step: their laws, and the pages'. -/

namespace Sys2Proof.Machine


open Sys2Proof

/-! ## The Notice Unit's operations -/

/-- What an operation on the notice queue keeps: the panels up to their dirty marks, and a timer only with a head. -/
structure QueueMoved (s t : State) : Prop where
  panel : ∀ p, (s.panel p).Kept (t.panel p)
  composing : t.panels.composing = s.panels.composing
  engine : t.engine = s.engine
  mgmt : t.mgmt = s.mgmt
  table : t.notices.table = s.notices.table
  dwell : (s.notices.dwell.isSome → s.notices.queue ≠ []) → t.notices.dwell.isSome → t.notices.queue ≠ []

theorem QueueMoved.refl (s : State) : QueueMoved s s := ⟨fun _ => .refl _, rfl, rfl, rfl, rfl, id⟩

theorem QueueMoved.trans {s t u : State} (h : QueueMoved s t) (k : QueueMoved t u) : QueueMoved s u where
  panel := fun p => (h.panel p).trans (k.panel p)
  composing := k.composing.trans h.composing
  engine := k.engine.trans h.engine
  mgmt := k.mgmt.trans h.mgmt
  table := k.table.trans h.table
  dwell := fun hd => k.dwell (h.dwell hd)

theorem QueueMoved.setQueue (q : List Notice) (s : State) : QueueMoved s (setQueue q s) := by
  obtain ⟨hh, he⟩ | ⟨-, he⟩ := setQueue_cases q s
  · rw [he]
    refine { QueueMoved.refl s with dwell := fun hd hsome hq => hd hsome ?_ }
    replace hq : q = [] := hq
    rw [hq] at hh
    cases hs : s.notices.queue with
    | nil => rfl
    | cons a as =>
      rw [hs] at hh
      cases hh
  · rw [he]
    have hk := markRole_keeps (r := .notice) (.refl [.panels] ({ s with notices := { s.notices with
      queue := q, dwell := if s.panels.anyNotice then none else q.head?.map (·.dwell) } } : State))
    have hn := hk.notices (by decide)
    refine ⟨fun p => ?_, rfl, hk.engine (by decide), hk.mgmt (by decide), by rw [hn], fun _ hsome => ?_⟩
    · rw [markRole_panel]
      exact .markRole _ _
    · rw [hn] at hsome ⊢
      replace hsome : (if s.panels.anyNotice then none else q.head?.map (·.dwell)).isSome = true := hsome
      rintro rfl
      simp at hsome

theorem QueueMoved.supersede (k : NoticeKind) (s : State) : QueueMoved s (supersede k s) := by
  by_cases hk : k.supersedes
  · rw [supersede_of hk]
    exact .setQueue _ s
  · rw [supersede_not hk]
    exact .refl s

theorem QueueMoved.placeNotice (n : Notice) (s : State) : QueueMoved s (placeNotice n s) := by
  rw [placeNotice_eq]
  refine QueueMoved.trans (t := { s with notices := { s.notices with count := s.notices.count + 1 } }) ?_ (.setQueue _ _)
  exact ⟨fun _ => .refl _, rfl, rfl, rfl, rfl, id⟩

theorem QueueMoved.noticeDropped (k : Nat) (n : Notice) (s : State) : QueueMoved s (noticeDropped k n s) :=
  ⟨fun _ => .refl _, rfl, rfl, rfl, rfl, id⟩

theorem QueueMoved.displace (n : Notice) (s : State) : QueueMoved s (displace n s) := by
  unfold Machine.displace
  split
  · split
    · exact ((QueueMoved.setQueue _ s).trans (.noticeDropped 1 _ _)).trans (.placeNotice n _)
    · exact .noticeDropped 0 n s
  · exact .noticeDropped 0 n s

theorem QueueMoved.offerNotice (n : Notice) (s : State) : QueueMoved s (offerNotice n s) := by
  unfold Machine.offerNotice
  dsimp only
  split
  · exact (QueueMoved.supersede _ s).trans (.placeNotice n _)
  · exact (QueueMoved.supersede _ s).trans (.displace n _)

theorem noticeLaw_iff {s : State} :
    NoticeLaw s ↔ QueueLawful s.notices.queue ∧ (s.notices.dwell.isSome → s.notices.queue ≠ []) ∧
      s.notices.table.length ≤ 128 :=
  ⟨fun ⟨a, b, c, d, e⟩ => ⟨⟨a, b, c⟩, d, e⟩, fun ⟨⟨a, b, c⟩, d, e⟩ => ⟨a, b, c, d, e⟩⟩

theorem QueueMoved.kept {s t : State} (h : QueueMoved s t)
    (hq : QueueLawful s.notices.queue → QueueLawful t.notices.queue) : DrawingKept s t :=
  .of_panels h.panel h.composing h.engine (.of_same h.mgmt) fun hn => by
    obtain ⟨h1, h2, h3⟩ := noticeLaw_iff.1 hn
    exact noticeLaw_iff.2 ⟨hq h1, h.dwell h2, h.table ▸ h3⟩

theorem DrawingKept.offerNotice (n : Notice) (s : State) : DrawingKept s (offerNotice n s) :=
  (QueueMoved.offerNotice n s).kept fun hq => by
    rw [← ((QueueRun.At.start s).offer n).queue]
    exact QueueLawful.offer (r := { queue := s.notices.queue, count := s.notices.count }) hq n

/-- A change of the Notice Unit alone. -/
theorem DrawingKept.of_noticeUnit {s : State} {u : NoticeUnit} (h : NoticeLaw s → NoticeLaw { s with notices := u }) :
    DrawingKept s { s with notices := u } :=
  .of_panels (fun _ => .refl _) rfl rfl (.of_same rfl) h

/-- A table of the same length. -/
theorem DrawingKept.setTable {s : State} {table : List TriggerEntry}
    (h : table.length = s.notices.table.length) :
    DrawingKept s { s with notices := { s.notices with table := table } } :=
  .of_noticeUnit fun ⟨h1, h2, h3, h4, h5⟩ => ⟨h1, h2, h3, h4, h.le.trans h5⟩

theorem DrawingKept.fireTrigger (k : Nat) (s : State) : DrawingKept s (fireTrigger k s) := by
  unfold Machine.fireTrigger
  split
  · exact .refl s
  · exact (DrawingKept.setTable (updAt_length _ _ _)).trans (.offerNotice _ _)

theorem DrawingKept.fireAll : (ks : List Nat) → (s : State) → DrawingKept s (fireAll ks s)
  | [], s => .refl s
  | k :: ks, s => (DrawingKept.fireTrigger k s).trans (DrawingKept.fireAll ks _)

theorem DrawingKept.fireEvent (ev : TriggerEvent) (a : Option Nat) (s : State) :
    DrawingKept s (fireEvent ev a s) := by
  unfold Machine.fireEvent
  split
  · exact .refl s
  · exact .fireAll _ s

theorem DrawingKept.actHandoff (h : Handoff) (s : State) : DrawingKept s (actHandoff h s) :=
  (((DrawingKept.fireEvent .departure h.departed s).trans (.fireEvent .arrival h.arrived _)).trans
    (.setTable (List.length_map _))).trans (.fireAll _ _)

theorem DrawingKept.actJourneyReset (s : State) : DrawingKept s (actJourneyReset s) := by
  unfold Machine.actJourneyReset
  refine DrawingKept.trans (t := { s with notices := { s.notices with table := [], dwell := none } }) ?_ ?_
  · exact .of_noticeUnit fun ⟨h1, h2, h3, _, _⟩ => ⟨h1, h2, h3, fun h => (nomatch h), Nat.zero_le _⟩
  · refine (QueueMoved.setQueue [] _).kept fun _ => ?_
    rw [setQueue_queue]
    exact ⟨Nat.zero_le _, Nat.zero_le _, Nat.zero_le _⟩

theorem DrawingKept.actTracker (m : TrackerMsg) (s : State) : DrawingKept s (actTracker m s) := by
  cases m
  · exact .actHandoff _ s
  · exact .actJourneyReset s

theorem DrawingKept.actTrackers : (ms : List TrackerMsg) → (s : State) →
    DrawingKept s (ms.foldl (fun s m => Machine.actTracker m s) s)
  | [], s => .refl s
  | m :: ms, s => (DrawingKept.actTracker m s).trans (DrawingKept.actTrackers ms _)

theorem DrawingKept.setFromTracker (q : List TrackerMsg) (s : State) : DrawingKept s (setFromTracker q s) :=
  .of_noticeUnit id

theorem DrawingKept.setFromPanels (q : List PanelMsg) (s : State) : DrawingKept s (setFromPanels q s) :=
  .of_noticeUnit id

theorem DrawingKept.startDwell (s : State) : DrawingKept s { s with notices := startDwell s.notices } := by
  obtain ⟨h, w, hq, -, he⟩ | ⟨-, he⟩ := startDwell_cases s.notices
  · rw [he]
    exact .of_noticeUnit fun ⟨h1, h2, h3, _, h5⟩ =>
      ⟨h1, h2, h3, fun _ hnil => List.cons_ne_nil h w (hq.symm.trans hnil), h5⟩
  · rw [he]
    exact .refl s

theorem DrawingKept.catchUp (k : LoadClass) (s : State) : DrawingKept s (catchUp k s) := by
  cases k
  · exact .refl s
  · show DrawingKept s (catchUpNotices s)
    unfold catchUpNotices
    split
    · exact .refl s
    · exact (DrawingKept.setFromTracker _ s).trans (.actTrackers _ _)
  · exact .of_unchanged (catchUpResv_keeps (.refl [.resv] s))
  · exact .refl s

/-! ## What the Journey Tracker tells -/

theorem DrawingKept.markHandoff (before s : State) : DrawingKept s (markHandoff before s) := by
  unfold Machine.markHandoff
  dsimp only
  split
  · split
    · exact (DrawingKept.markRole .map s).trans (.markRole .notice _)
    · exact .markRole .notice s
  · split
    · exact .markRole .map s
    · exact .refl s

theorem DrawingKept.handOn (before : State) (stops : List Stop) (h : Handling) (s : State) :
    DrawingKept s (handOn before stops h s) := by
  unfold Machine.handOn
  dsimp only
  refine DrawingKept.trans (DrawingKept.trans ?_ (.markHandoff before _))
    (.of_unchanged (reportSkipped_keeps (tellAdvance_keeps (.refl [.resv, .reports] _))))
  exact .of_panels (fun _ => .refl _) rfl rfl (.of_same rfl) id

theorem DrawingKept.setTracker (s : State) (t : Tracker) : DrawingKept s { s with tracker := t } :=
  .of_same rfl rfl (.of_same rfl) rfl

theorem DrawingKept.judgeEdge (d : DoorId) (b : Bool) (s : State) : DrawingKept s (judgeEdge d b s) := by
  have unexpected (s : State) : DrawingKept s (doorUnexpected d b s) := .of_same rfl rfl (.of_same rfl) rfl
  have arrival (stops : List Stop) (s : State) : DrawingKept s (doorArrival stops s) :=
    (DrawingKept.setTracker s { s.tracker with motion := .stationary, v := 0 }).trans
      (DrawingKept.handOn s stops (Handling.arrive stops { state := s.tracker.state, c := s.tracker.c }) _)
  unfold Machine.judgeEdge
  split
  · exact .refl s
  · split
    · exact .refl s
    · exact .refl s
    · exact unexpected s
    · split
      · exact unexpected s
      · split
        · exact (unexpected s).trans (arrival _ _)
        · exact arrival _ _

theorem DrawingKept.tellJourney (m : ResvMsg) (s : State) : DrawingKept s (tellJourney m s) := by
  unfold Machine.tellJourney markAll
  refine DrawingKept.trans (DrawingKept.trans ?_ (.markRole .map _)) (.markRole .notice _)
  exact .of_panels (fun _ => .refl _) rfl rfl (.of_same rfl) id

/-! ## Loads -/

/-- A trigger table that passes its checks has at most 128 entries (R101). -/
theorem triggersFault_count {v : List Byte} {j : Option Journey} (h : triggersFault v j = none) :
    (triggerRecords v).length ≤ 128 := by
  unfold triggersFault at h
  split at h
  · cases h
  · split at h
    · cases h
    · next hle => simpa [triggerRecords] using hle

theorem DrawingKept.judge {k : LoadClass} {e : TrainEnd} {b : Byte} {v : List Byte} {s t : State}
    (h : judge k e b v s = .committed t) : DrawingKept s t := by
  cases k with
  | journey =>
    change loadJourney v s = .committed t at h
    unfold loadJourney at h
    split at h
    · cases h
    · dsimp only at h
      split at h
      · cases h
        exact (DrawingKept.setTracker s _).trans (.tellJourney _ _)
      · cases h
        exact (DrawingKept.setTracker s _).trans (.tellJourney _ _)
  | triggers =>
    change loadTriggers v s = .committed t at h
    unfold loadTriggers at h
    split at h
    · cases h
    · next hf =>
      cases h
      refine .of_noticeUnit fun ⟨h1, h2, h3, h4, _⟩ => ⟨h1, h2, h3, h4, ?_⟩
      simpa using triggersFault_count hf
  | reservations => exact .of_unchanged (loadReservations_keeps (.refl [.resv, .reports] s) h)
  | glyphs =>
    change loadGlyphs v s = .committed t at h
    unfold loadGlyphs at h
    split at h
    · cases h
    · dsimp only at h
      split at h
      · cases h
      · split at h
        · cases h
        · cases h
          refine DrawingKept.trans ((DrawingKept.meetRunning s).trans ?_) (.markRole .notice _)
          exact .of_panels (fun p => by cases p <;> exact .refl _) rfl rfl (.of_same rfl) id

theorem DrawingKept.handover (k : LoadClass) (f : Frame) (n : Nat) (v : List Byte) (s : State) :
    DrawingKept s (handover k f n v s) := by
  obtain ⟨t, hj, hk⟩ | hk := handover_cases k f n v s
  · exact ((DrawingKept.catchUp k s).trans (.judge hj)).trans (.of_unchanged hk)
  · exact (DrawingKept.catchUp k s).trans (.of_unchanged hk)

/-! ## Enable and role (R171, R177, R186) -/

/-- The law of a panel, with whether it refreshes given apart. -/
def Panel.LawWith (on : Bool) (x : Panel) : Prop :=
  (x.refresh.isSome ↔ on = true) ∧ (on = false → x.flipPending = false) ∧
  (x.composer.isSome ↔ x.config.role = .map ∨ x.config.role = .notice) ∧
  16 ≤ x.config.width ∧ x.config.width ≤ 512 ∧ 8 ∣ x.config.width ∧
  8 ≤ x.config.height ∧ x.config.height ≤ 128 ∧ x.palette.length = 16

theorem Panel.lawWith_enabled {x : Panel} : x.LawWith x.enabled ↔ x.Law := Iff.rfl

/-- The panel after the effects of a change in whether it is enabled. -/
def Panel.settled (was : Bool) (x : Panel) : Panel :=
  if x.enabled = was then x
  else if was then
    let y := { x.adoptTiming with refresh := none }
    if x.flipPending then y.exchange.flipComposer else y
  else { x with refresh := some {} }

theorem flipComposer_fields (x : Panel) :
    x.flipComposer = { x with composer := x.flipComposer.composer, redo := x.flipComposer.redo } ∧
      x.flipComposer.composer.isSome = x.composer.isSome := by
  unfold Panel.flipComposer
  split
  · next h => split <;> exact ⟨rfl, by simp [h]⟩
  · exact ⟨rfl, rfl⟩

/-- A panel that stops refreshing. -/
theorem stopped_law {x : Panel} (h : x.LawWith true) (hoff : x.enabled = false) :
    (if x.flipPending then Panel.flipComposer (Panel.exchange { x.adoptTiming with refresh := none })
      else { x.adoptTiming with refresh := none }).Law := by
  obtain ⟨-, -, h3, hrest⟩ := h
  split
  · have hx := (flipComposer_fields (Panel.exchange { x.adoptTiming with refresh := none }))
    rw [hx.1]
    have hoff' : x.enabled ≠ true := by simp [hoff]
    exact ⟨iff_of_false (by exact Bool.false_ne_true) hoff', fun _ => rfl, (iff_of_eq (congrArg (· = true) hx.2)).trans h3, hrest⟩
  · next hf =>
    have hoff' : x.enabled ≠ true := by simp [hoff]
    exact ⟨iff_of_false (by exact Bool.false_ne_true) hoff', fun _ => Bool.eq_false_of_not_eq_true hf, h3, hrest⟩

theorem Panel.settled_law {was : Bool} {x : Panel} (h : x.LawWith was) : (x.settled was).Law := by
  unfold Panel.settled
  split
  · next he => exact Panel.lawWith_enabled.1 (he ▸ h)
  · next he =>
    split
    · next hw =>
      subst hw
      exact stopped_law h (by simpa using he)
    · next hw =>
      obtain ⟨-, -, h3⟩ := h
      have hon : x.enabled = true := by
        cases hx : x.enabled
        · exact absurd (by simp [hx, hw]) he
        · rfl
      exact ⟨iff_of_true rfl hon, fun hoff => absurd (hon.symm.trans hoff) (by decide), h3⟩

theorem adoptTiming_kept (x : Panel) : x.Kept x.adoptTiming := .of_fields rfl rfl rfl rfl rfl rfl rfl rfl

/-- What a settling keeps of the panel, its law apart. -/
theorem Panel.settled_rest (was : Bool) (x : Panel) :
    (x.settled was).config = x.config ∧
      (x.composer = some .composing → (x.settled was).composer = some .composing) ∧
      (x.shown.pixels.wf = true ∧ x.back.pixels.wf = true →
        (x.settled was).shown.pixels.wf = true ∧ (x.settled was).back.pixels.wf = true) ∧
      (x.flipPending = false → (x.settled was).flipPending = false) := by
  unfold Panel.settled
  split
  · exact ⟨rfl, id, id, id⟩
  · split
    · dsimp only
      split
      · have hk := (Panel.Kept.exchange { x.adoptTiming with refresh := none }).trans (.flipComposer _)
        have hc := (flipComposer_fields (Panel.exchange { x.adoptTiming with refresh := none })).1
        exact ⟨by rw [hc]; rfl, fun h => hk.composing h, fun h => hk.pages h, fun h => hk.flip h⟩
      · exact ⟨rfl, id, id, id⟩
    · exact ⟨rfl, id, id, id⟩

theorem noteEnableChange_told (was : Bool) (p : PanelId) (s : State) :
    ∃ b, noteEnableChange was p s = { s with notices := { s.notices with fromPanels := b } } := by
  unfold noteEnableChange
  split
  · exact ⟨s.notices.fromPanels, rfl⟩
  · exact ⟨_, rfl⟩

/-- The effects of a change in whether a panel is enabled reach that panel, and the Notice Unit is told. -/
theorem settleEnabled_spec (was wasNotice : Bool) (p : PanelId) (s : State) :
    ∃ b, settleEnabled was wasNotice p s =
      { s.setPanel p ((s.panel p).settled was) with notices := { s.notices with fromPanels := b } } := by
  obtain ⟨b, hb⟩ := noteEnableChange_told wasNotice p s
  unfold settleEnabled Panel.settled
  dsimp only
  split
  · refine ⟨b, ?_⟩
    rw [hb, State.setPanel_panel]
  · rw [hb]
    split
    · unfold stopRefresh
      dsimp only
      rw [State.panel_setPanel_same]
      split
      · next hf =>
        rw [if_pos (by exact hf)]
        unfold completeFlip
        dsimp only
        rw [State.panel_setPanel_same, State.setPanel_setPanel]
        split
        · exact ⟨_, rfl⟩
        · exact ⟨b, rfl⟩
      · next hf =>
        rw [if_neg (by exact hf)]
        exact ⟨b, rfl⟩
    · exact ⟨b, rfl⟩

/-- A panel written so that only its refresh has yet to follow: what the write keeps. -/
structure ReadyToSettle (was : Bool) (p : PanelId) (s u : State) : Prop where
  notices : u.notices = s.notices
  store : StoreKept s u
  locked : s.Held → ∀ q, (u.panel q).config.lockedFields = (s.panel q).config.lockedFields
  other : PanelsLaw s → ∀ q, q ≠ p → (u.panel q).Law
  this : PanelsLaw s → (u.panel p).LawWith was
  composing : PanelsLaw s → ∀ k ∈ u.panels.composing, (u.panel k.panel).composer = some .composing
  pages : PagesLaw s → PagesLaw u
  engine : EngineLaw s → EngineLaw u

theorem ReadyToSettle.settle {was : Bool} {p : PanelId} {s u : State} (h : ReadyToSettle was p s u)
    (wasNotice : Bool) : DrawingKept s (settleEnabled was wasNotice p u) := by
  obtain ⟨b, hb⟩ := settleEnabled_spec was wasNotice p u
  obtain ⟨hcfg, hcomp, hpages, hflip⟩ := (u.panel p).settled_rest was
  have hthis : (settleEnabled was wasNotice p u).panel p = (u.panel p).settled was := by
    rw [hb]
    exact State.panel_setPanel_same u p _
  have hother {q : PanelId} (hq : q ≠ p) : (settleEnabled was wasNotice p u).panel q = u.panel q := by
    rw [hb]
    exact State.panel_setPanel_ne u hq _
  have split {R : Panel → Panel → Prop} (hp : R (u.panel p) ((u.panel p).settled was)) (hr : ∀ x, R x x)
      (q : PanelId) : R (u.panel q) ((settleEnabled was wasNotice p u).panel q) := by
    by_cases hq : q = p
    · subst hq
      rwa [hthis]
    · rw [hother hq]
      exact hr _
  exact {
    notices := noticeLaw_told ⟨b, by rw [hb, h.notices]⟩
    store := h.store.trans (.of_same (by rw [hb]; rfl))
    locked := fun hs q => by
      rw [← h.locked hs q]
      exact split (R := fun x y => y.config.lockedFields = x.config.lockedFields) (by rw [hcfg]) (fun _ => rfl) q
    law := fun hl => by
      refine ⟨fun q _ => ?_, fun k hk => ?_⟩
      · by_cases hq : q = p
        · subst hq
          rw [hthis]
          exact Panel.settled_law (h.this hl)
        · rw [hother hq]
          exact h.other hl q hq
      · refine split (R := fun x y => x.composer = some .composing → y.composer = some .composing) hcomp
          (fun _ => id) k.panel (h.composing hl k ?_)
        rw [hb] at hk
        exact (Panels.setPanel_composing u.panels p _) ▸ hk
    pages := fun hs q hm => split (R := fun x y => x.shown.pixels.wf = true ∧ x.back.pixels.wf = true →
      y.shown.pixels.wf = true ∧ y.back.pixels.wf = true) hpages (fun _ => id) q (h.pages hs q hm)
    engine := fun he => (h.engine he).of_flips (by rw [hb]; rfl)
      (split (R := fun x y => x.flipPending = false → y.flipPending = false) hflip (fun _ => id)) }

theorem Panel.Law.enable {x : Panel} (h : x.Law) (b : Bool) :
    Panel.LawWith x.enabled { x with config := { x.config with enable := b } } := h

theorem readyToSettle_enable (p : PanelId) (b : Bool) (s : State) :
    ReadyToSettle (s.panel p).enabled p s
      (s.setPanel p { s.panel p with config := { (s.panel p).config with enable := b } }) where
  notices := rfl
  store := .of_same rfl
  locked := fun _ => State.setPanel_related (R := fun x y => y.config.lockedFields = x.config.lockedFields)
    (fun _ => rfl) (by rfl)
  other := fun h q hq => by
    rw [State.panel_setPanel_ne s hq]
    exact h.1 q (mem_allPanels q)
  this := fun h => by
    rw [State.panel_setPanel_same]
    exact (h.1 p (mem_allPanels p)).enable b
  composing := fun h k hk => by
    rw [State.setPanel_panels, Panels.setPanel_composing] at hk
    exact State.setPanel_related (R := fun x y => x.composer = some .composing → y.composer = some .composing)
      (fun _ => id) (by exact id) k.panel (h.2 k hk)
  pages := fun h q hm => State.setPanel_related (R := fun x y => x.shown.pixels.wf = true ∧ x.back.pixels.wf = true →
    y.shown.pixels.wf = true ∧ y.back.pixels.wf = true) (fun _ => id) (by exact id) q (h q hm)
  engine := fun h => h.of_flips rfl (State.setPanel_related
    (R := fun x y => x.flipPending = false → y.flipPending = false) (fun _ => id) (by exact id))

theorem DrawingKept.writePanelEnable (p : PanelId) (v : List Byte) (s : State) :
    DrawingKept s (writePanelEnable p v s).1 := by
  unfold Machine.writePanelEnable
  split
  · exact .refl s
  · dsimp only
    split
    · exact .refl s
    · refine DrawingKept.trans ?_ (.runEngine _)
      split
      · exact ((readyToSettle_enable p _ s).settle _).trans (.markPanel p _)
      · exact (readyToSettle_enable p _ s).settle _

theorem role_composer_isSome (r : Role) : r.composer.isSome = true ↔ r = .map ∨ r = .notice := by
  cases r <;> decide

theorem EngineLaw.markRoleChange {s : State} (h : EngineLaw s) (p : PanelId) :
    EngineLaw { s with engine := s.engine.markRoleChange p } := by
  obtain ⟨h1, h2, h3, h4, h5⟩ := h
  refine ⟨h1, h2, ?_, fun u hu hsrc => ?_, h5⟩
  · intro u hu
    obtain ⟨v, hv, hvu⟩ := Option.map_eq_some_iff.1 hu
    have := h3 v hv
    split at hvu <;> subst hvu <;> exact this
  · show (s.engine.suspended.map _) = none
    rw [h4 u hu hsrc]
    rfl

theorem mem_dropComposition {p : PanelId} {c : Option Composition} {k : Composition}
    (h : k ∈ dropComposition p c) : k ∈ c ∧ k.panel ≠ p := by
  unfold dropComposition at h
  split at h
  · split at h
    · cases h
    · next hne =>
      cases h
      exact ⟨rfl, hne⟩
  · cases h

/-- The panel, engine and composition as a role is written. -/
def withRole (p : PanelId) (r : Role) (s : State) : State :=
  let t := s.setPanel p { s.panel p with
    config := { (s.panel p).config with role := r }, composer := r.composer, redo := false }
  { t with engine := t.engine.markRoleChange p
           panels := { t.panels with composing := dropComposition p t.panels.composing } }

theorem withRole_panel_same (p : PanelId) (r : Role) (s : State) :
    (withRole p r s).panel p = { s.panel p with
      config := { (s.panel p).config with role := r }, composer := r.composer, redo := false } := by
  cases p <;> rfl

theorem withRole_panel_other {p q : PanelId} (h : q ≠ p) (r : Role) (s : State) :
    (withRole p r s).panel q = s.panel q := by
  cases p <;> cases q <;> first | rfl | exact absurd rfl h

theorem readyToSettle_role (p : PanelId) (r : Role) {s : State} (hno : ¬ s.Held) :
    ReadyToSettle (s.panel p).enabled p s (withRole p r s) where
  notices := rfl
  store := .of_same rfl
  locked := fun hs => absurd hs hno
  other := fun h q hq => by
    rw [withRole_panel_other hq]
    exact h.1 q (mem_allPanels q)
  this := fun h => by
    obtain ⟨h1, h2, -, hrest⟩ := h.1 p (mem_allPanels p)
    rw [withRole_panel_same]
    exact ⟨h1, h2, role_composer_isSome r, hrest⟩
  composing := fun h k hk => by
    have hk' : k ∈ dropComposition p (s.setPanel p { s.panel p with
      config := { (s.panel p).config with role := r }, composer := r.composer, redo := false }).panels.composing := hk
    obtain ⟨hin, hne⟩ := mem_dropComposition hk'
    rw [withRole_panel_other hne]
    rw [State.setPanel_panels, Panels.setPanel_composing] at hin
    exact h.2 k hin
  pages := fun h q hm => by
    have := h q hm
    by_cases hq : q = p
    · subst hq
      rwa [withRole_panel_same]
    · rwa [withRole_panel_other hq]
  engine := fun h => by
    refine EngineLaw.of_flips (h.markRoleChange p) rfl fun q hf => ?_
    by_cases hq : q = p
    · subst hq
      rw [withRole_panel_same]
      exact hf
    · rw [withRole_panel_other hq]
      exact hf

theorem not_held_of_unlocked {s : State} (h : ¬ s.mgmt.locked = true) : ¬ s.Held := fun hs => h hs.1

theorem DrawingKept.writePanelRole (p : PanelId) (v : List Byte) (s : State) :
    DrawingKept s (writePanelRole p v s).1 := by
  unfold Machine.writePanelRole
  split
  · exact .refl s
  · next hl =>
    split
    · exact .refl s
    · dsimp only
      split
      · exact .refl s
      · exact ((readyToSettle_role p _ (not_held_of_unlocked hl)).settle _).trans (.runEngine _)

/-! ## Geometry, timing and the other fields -/

theorem clampTo_ge {lo hi : Nat} (h : lo ≤ hi) (n : Nat) : lo ≤ clampTo lo hi n := (clampTo_between h n).1

theorem clampTo_le {lo hi : Nat} (h : lo ≤ hi) (n : Nat) : clampTo lo hi n ≤ hi := (clampTo_between h n).2

/-- The geometry a write stores is in range (R171). -/
theorem geometryStored_range (f : GeometryField) (n : Nat) (c : PanelConfig)
    (h : 16 ≤ c.width ∧ c.width ≤ 512 ∧ 8 ∣ c.width ∧ 8 ≤ c.height ∧ c.height ≤ 128) :
    let d := c.setGeometry f (geometryStored f n)
    16 ≤ d.width ∧ d.width ≤ 512 ∧ 8 ∣ d.width ∧ 8 ≤ d.height ∧ d.height ≤ 128 := by
  obtain ⟨h1, h2, h3, h4, h5⟩ := h
  cases f
  · have := clampTo_between (lo := 16) (hi := 512) (by decide) n
    refine ⟨?_, ?_, ?_, h4, h5⟩
    · show 16 ≤ clampTo 16 512 n / 8 * 8
      omega
    · show clampTo 16 512 n / 8 * 8 ≤ 512
      omega
    · exact Nat.dvd_mul_left 8 _
  · have := clampTo_between (lo := 8) (hi := 128) (by decide) n
    exact ⟨h1, h2, h3, this.1, this.2⟩

theorem setGeometry_role (c : PanelConfig) (f : GeometryField) (n : Nat) :
    (c.setGeometry f n).role = c.role ∧ (c.setGeometry f n).enable = c.enable := by cases f <;> exact ⟨rfl, rfl⟩

theorem Panel.Sound.regeometry (x : Panel) (f : GeometryField) (n : Nat) :
    x.Sound (x.regeometry (x.config.setGeometry f (geometryStored f n))) := by
  refine Panel.Sound.trans (y := { x with
    config := x.config.setGeometry f (geometryStored f n), shown := {}, back := {}
    refresh := x.refresh.map fun (f : Refresh) => { latched := f.latched } }) ?_ (Panel.Kept.markDirty _).toSound
  obtain ⟨hrole, hen⟩ := setGeometry_role x.config f (geometryStored f n)
  have henabled : Panel.enabled { x with
      config := x.config.setGeometry f (geometryStored f n), shown := {}, back := {}
      refresh := x.refresh.map fun (f : Refresh) => { latched := f.latched } } = x.enabled := by
    simp only [Panel.enabled, hrole, hen]
  refine ⟨fun ⟨h1, h2, h3, h4, h5, h6, h7, h8, h9⟩ => ?_, id, fun _ => ⟨rfl, rfl⟩, id⟩
  obtain ⟨g1, g2, g3, g4, g5⟩ := geometryStored_range f n x.config ⟨h4, h5, h6, h7, h8⟩
  refine ⟨?_, fun hoff => h2 (henabled ▸ hoff), ?_, g1, g2, g3, g4, g5, h9⟩
  · rw [henabled]
    simpa using h1
  · simpa only [hrole] using h3

theorem DrawingKept.writePanelGeometry (p : PanelId) (f : GeometryField) (v : List Byte) (s : State) :
    DrawingKept s (writePanelGeometry p f v s).1 := by
  unfold Machine.writePanelGeometry
  split
  · exact .refl s
  · next hl =>
    split
    · exact .refl s
    · dsimp only
      split
      · exact .refl s
      · have hm : (Machine.meetRunning s).mgmt = s.mgmt :=
          (meetRunning_keeps (.refl [.engine, .panels, .freeCount] s)).mgmt (by decide)
        refine (DrawingKept.meetRunning s).trans (.setPanel_unheld (not_held_of_unlocked ?_) (.regeometry _ f _))
        rwa [hm]

theorem Panel.Sound.timing (x : Panel) (f : TimingField) (n : Nat) :
    x.Sound { x with config := x.config.setTiming f n } := by
  have hc : (x.config.setTiming f n).role = x.config.role ∧ (x.config.setTiming f n).enable = x.config.enable ∧
      (x.config.setTiming f n).width = x.config.width ∧ (x.config.setTiming f n).height = x.config.height := by
    cases f <;> exact ⟨rfl, rfl, rfl, rfl⟩
  obtain ⟨hrole, hen, hw, hh⟩ := hc
  refine ⟨fun h => ?_, id, id, id⟩
  unfold Panel.Law Panel.enabled at h ⊢
  simp only [hrole, hen, hw, hh]
  exact h

theorem DrawingKept.writePanelTiming (p : PanelId) (f : TimingField) (v : List Byte) (s : State) :
    DrawingKept s (writePanelTiming p f v s).1 := by
  unfold Machine.writePanelTiming
  split
  · exact .refl s
  · next hl =>
    split
    · exact .refl s
    · refine .setPanel_unheld (not_held_of_unlocked hl) ?_
      split
      · exact .timing _ f _
      · exact (Panel.Sound.timing _ f _).trans (adoptTiming_kept _).toSound

/-- A refreshing panel's frame moved on. -/
theorem Panel.Kept.setRefresh {x : Panel} {f g : Refresh} (h : x.refresh = some f) :
    x.Kept { x with refresh := some g } :=
  .of_fields rfl rfl (by simp [h]) rfl rfl rfl rfl rfl

theorem DrawingKept.keepShifted (p : PanelId) (s : State) : DrawingKept s (keepShifted p s) := by
  unfold Machine.keepShifted
  dsimp only
  split
  · exact .refl s
  · next hf =>
    split
    · exact .refl s
    · exact .of_panels (State.setPanel_kept (.setRefresh hf)) (by simp) rfl (.of_same rfl) id

theorem Panel.Kept.setConfig {x : Panel} {c : PanelConfig} (hl : c.lockedFields = x.config.lockedFields)
    (he : c.enable = x.config.enable) : x.Kept { x with config := c } :=
  .of_fields hl he rfl rfl rfl rfl rfl rfl

theorem DrawingKept.setConfig {p : PanelId} {r : Role} {c : PanelConfig} {s : State}
    (hl : c.lockedFields = (s.panel p).config.lockedFields) (he : c.enable = (s.panel p).config.enable) :
    DrawingKept s (setConfig p r c s) := by
  unfold Machine.setConfig
  dsimp only
  split
  · exact .refl s
  · exact .setPanel ((Panel.Kept.setConfig hl he).trans (.markRole r _))

theorem setColour_fields (c : PanelConfig) (field : Nat) (v : Pixel) :
    (c.setColour field v).lockedFields = c.lockedFields ∧ (c.setColour field v).enable = c.enable := by
  unfold PanelConfig.setColour
  split <;> exact ⟨rfl, rfl⟩

theorem DrawingKept.writeClamped {p : PanelId} {r : Role} {hi : Nat} {v : List Byte}
    {set : Nat → PanelConfig → PanelConfig}
    (h : ∀ n c, (set n c).lockedFields = c.lockedFields ∧ (set n c).enable = c.enable) (s : State) :
    DrawingKept s (writeClamped p r hi v set s).1 := by
  unfold Machine.writeClamped
  split
  · exact .refl s
  · exact .setConfig (h _ _).1 (h _ _).2

theorem DrawingKept.writePanelField (p : PanelId) (field : Nat) (v : List Byte) (s : State) :
    DrawingKept s (writePanelField p field v s).1 := by
  unfold Machine.writePanelField
  split
  case h_1 =>
    unfold writeForceBlank
    split
    · exact .refl s
    · split
      · exact .refl s
      · exact (DrawingKept.keepShifted p s).trans (.setPanel (.setConfig rfl rfl))
  case h_3 =>
    unfold writePrefix
    split
    · exact .refl s
    · exact .setConfig rfl rfl
  case h_10 => exact .refl s
  case h_2 => exact .writeClamped (set := fun n c => { c with font := n }) (fun _ _ => ⟨rfl, rfl⟩) s
  case h_9 =>
    exact .writeClamped (set := fun n c => { c with pattern := BitVec.ofNat 16 n }) (fun _ _ => ⟨rfl, rfl⟩) s
  all_goals exact .writeClamped (fun n c => setColour_fields c _ (BitVec.ofNat 4 n)) s

theorem DrawingKept.writePanels (i : Nat) (v : List Byte) (s : State) : DrawingKept s (writePanels i v s).1 := by
  unfold Machine.writePanels
  split
  · exact .refl s
  · split
    · exact .writePanelRole _ v s
    · exact .writePanelGeometry _ _ v s
    · exact .writePanelGeometry _ _ v s
    · exact .writePanelTiming _ _ v s
    · exact .writePanelTiming _ _ v s
    · exact .writePanelEnable _ v s
    · exact .writePanelField _ _ v s

theorem DrawingKept.writePalettes (i : Nat) (v : List Byte) (s : State) :
    DrawingKept s (writePalettes i v s).1 := by
  unfold Machine.writePalettes
  split
  · exact .refl s
  · next p _ =>
    split
    · exact .refl s
    · exact (DrawingKept.keepShifted p s).trans
        (.setPanel (.of_fields rfl rfl rfl rfl rfl (updAt_length _ _ _) rfl rfl))

theorem DrawingKept.writeSideglyphs (i : Nat) (v : List Byte) (s : State) :
    DrawingKept s (writeSideglyphs i v s).1 := by
  unfold Machine.writeSideglyphs
  split
  · exact .refl s
  · split
    · exact .refl s
    · next n _ =>
      split
      · exact .refl s
      · dsimp only
        generalize (if n = 255 then none else some (byteOf n)) = code
        split
        · exact .refl s
        · refine DrawingKept.trans ?_ (.markRole .notice _)
          refine .of_panels (fun p => ?_) ?_ rfl (.of_same rfl) id
          · unfold State.panel Panels.setSide
            dsimp only
            split <;> (cases p <;> exact .refl _)
          · unfold Panels.setSide
            dsimp only
            split <;> rfl

/-! ## Refresh and composition -/

theorem drawingKept_panelRowEnd (p : PanelId) (s : State) : Ends (DrawingKept s) (execPanelRowEnd p s) := by
  unfold execPanelRowEnd
  split
  · exact .next (.refl s)
  · next hf =>
    split
    · exact .next (.refl s)
    · exact .next (.setPanel (.setRefresh hf))

theorem drawingKept_frameBoundary (p : PanelId) (s : State) : Ends (DrawingKept s) (execFrameBoundary p s) := by
  unfold execFrameBoundary
  split
  · exact .next (.refl s)
  · next f hf =>
    split
    · have hset : (s.panel p).Kept { (s.panel p).adoptTiming with refresh := some { f with boundaryDue := false } } :=
        (adoptTiming_kept _).trans (.setRefresh (by exact hf))
      dsimp only
      exact .ite (fun _ => ((DrawingKept.setPanel hset).trans (.completeFlip p _)).trans (.runEngine _))
        fun _ => .setPanel hset
    · exact .next (.refl s)

/-- A page begins for a DIRTY panel (R181). -/
theorem DrawingKept.beginPage {p : PanelId} {s : State}
    (hd : (s.panel p).composer = some .dirty) : DrawingKept s (beginPage p s) := by
  have hsame : (Machine.beginPage p s).panel p = { s.panel p with
      composer := some .composing
      back := if (s.panel p).config.role = .notice then { (s.panel p).back with tag := pageTag s }
        else (s.panel p).back } := by cases p <;> rfl
  have hother {q : PanelId} (hq : q ≠ p) : (Machine.beginPage p s).panel q = s.panel q := by
    cases p <;> cases q <;> first | rfl | exact absurd rfl hq
  have hback : (if (s.panel p).config.role = .notice then { (s.panel p).back with tag := pageTag s }
      else (s.panel p).back).pixels = (s.panel p).back.pixels := by split <;> rfl
  have hkept (q : PanelId) : (s.panel q).Kept ((Machine.beginPage p s).panel q) := by
    by_cases hq : q = p
    · subst hq
      rw [hsame]
      exact ⟨⟨fun h => h.congr rfl rfl rfl id (by simp [hd]) rfl, fun _ => rfl,
        fun h => ⟨h.1, by rw [hback]; exact h.2⟩, id⟩, rfl⟩
    · rw [hother hq]
      exact .refl _
  exact {
    notices := id
    store := .of_same rfl
    locked := fun _ q => (hkept q).locked
    law := fun h => by
      refine ⟨fun q hm => (hkept q).law (h.1 q hm), ?_⟩
      rintro k ⟨⟩
      rw [hsame]
    pages := fun h q hm => (hkept q).pages (h q hm)
    engine := fun h => h.of_flips rfl fun q => (hkept q).flip }

/-- The composition is complete: its panel waits for the flip (R181). -/
def awaitFlip (c : Composition) (s : State) : State :=
  let k : Panels := { s.panels with composing := none }
  { s with panels := k.setPanel c.panel { s.panel c.panel with composer := some .flipWait } }

theorem awaitFlip_panel (c : Composition) (s : State) (q : PanelId) :
    (awaitFlip c s).panel q =
      if q = c.panel then { s.panel c.panel with composer := some .flipWait } else s.panel q := by
  unfold State.panel awaitFlip
  cases q <;> cases c.panel <;> rfl

theorem awaitFlip_related {R : Panel → Panel → Prop} (hr : ∀ x, R x x) {c : Composition} {s : State}
    (hp : R (s.panel c.panel) { s.panel c.panel with composer := some .flipWait }) (q : PanelId) :
    R (s.panel q) ((awaitFlip c s).panel q) := by
  rw [awaitFlip_panel]
  split
  · next hq =>
    subst hq
    exact hp
  · exact hr _

theorem DrawingKept.awaitFlip {s : State} {c : Composition} (hc : s.panels.composing = some c) :
    DrawingKept s (awaitFlip c s) where
  notices := id
  store := .of_same rfl
  locked := fun _ =>
    awaitFlip_related (R := fun x y => y.config.lockedFields = x.config.lockedFields) (fun _ => rfl) (by rfl)
  law := fun h => by
    refine ⟨fun q hm => ?_, fun k hk => ?_⟩
    · refine awaitFlip_related (R := fun x y => x.Law → y.Law) (fun _ => id) (fun hq => ?_) q (h.1 q hm)
      exact hq.congr rfl rfl rfl id (congrArg Option.isSome (h.2 c hc)).symm rfl
    · simp [Machine.awaitFlip] at hk
  pages := fun h q hm => awaitFlip_related (R := fun x y => x.shown.pixels.wf = true ∧ x.back.pixels.wf = true →
    y.shown.pixels.wf = true ∧ y.back.pixels.wf = true) (fun _ => id) (by exact id) q (h q hm)
  engine := fun h => h.of_flips rfl
    (awaitFlip_related (R := fun x y => x.flipPending = false → y.flipPending = false) (fun _ => id) (by exact id))

/-- The composition goes on with the records that are left. -/
theorem DrawingKept.keepRest {s : State} {c : Composition} (hc : s.panels.composing = some c) (rest : List Record) :
    DrawingKept s { s with panels := { s.panels with composing := some { c with records := rest } } } where
  notices := id
  store := .of_same rfl
  locked := fun _ _ => rfl
  law := fun h => by
    refine ⟨h.1, ?_⟩
    rintro k ⟨⟩
    exact h.2 c hc
  pages := id
  engine := id

/-- Records placed in the composer queue, as many as have room; with the last the panel waits for its flip. -/
theorem DrawingKept.placeRecords {k : Nat} {s : State}
    (hk : EngineLaw s → s.engine.composerQ.length + k ≤ 16) : DrawingKept s (placeRecords k s) := by
  unfold Machine.placeRecords
  split
  · exact .refl s
  · next c hc =>
    have hplace : DrawingKept s { s with engine := { s.engine with
        composerQ := s.engine.composerQ ++ c.records.take k } } :=
      .of_engine fun h => by
        have hroom := hk h
        obtain ⟨h1, h2, h3, h4, h5⟩ := h
        refine ⟨?_, h2, h3, h4, h5⟩
        have := List.length_take_le k c.records
        simp only [List.length_append]
        omega
    refine hplace.trans ?_
    dsimp only
    split
    · exact DrawingKept.awaitFlip (by exact hc)
    · exact DrawingKept.keepRest (by exact hc) _

theorem turnOf_some {s : State} {p : PanelId} (h : turnOf s = some p) :
    s.panels.composing = none ∧ (s.panel p).enabled = true ∧ (s.panel p).flipPending = false ∧
      (s.panel p).composer = some .dirty := by
  unfold turnOf at h
  split at h
  · cases h
  · next hc =>
    have := List.find?_some h
    simp only [Panel.qualifies, Bool.and_eq_true, Bool.not_eq_true', decide_eq_true_eq] at this
    exact ⟨hc, this.1.1, this.1.2, this.2⟩

theorem drawingKept_composeTurn (s : State) : Ends (DrawingKept s) (execComposeTurn s) := by
  unfold execComposeTurn
  split
  · exact .next (.refl s)
  · next p hp =>
    obtain ⟨-, -, -, hd⟩ := turnOf_some hp
    refine .next (((DrawingKept.beginPage hd).trans (.placeRecords fun h => ?_)).trans (.runEngine _))
    have hle : s.engine.composerQ.length ≤ 16 := h.1
    show s.engine.composerQ.length + _ ≤ 16
    omega

theorem drawingKept_composerPlaceRecord (s : State) : Ends (DrawingKept s) (execComposerPlaceRecord s) := by
  unfold execComposerPlaceRecord
  split
  · next h => exact .next ((DrawingKept.placeRecords fun _ => h.2).trans (.runEngine _))
  · exact .next (.refl s)

/-! ## Management -/

theorem DrawingKept.of_mgmt {s : State} {m : Mgmt} (h : StoreKept s { s with mgmt := m }) :
    DrawingKept s { s with mgmt := m } := .of_same rfl rfl h rfl

theorem DrawingKept.recorded (r : ItemResult) (s : State) : DrawingKept s (s.recorded r) :=
  .of_mgmt (.of_mgmt rfl rfl rfl rfl)

theorem DrawingKept.answered {s : State} {a : State × ItemResult} (h : DrawingKept s a.1) :
    Ends (DrawingKept s) (answered a) := .next (h.trans (.recorded a.2 a.1))

/-- The stored identity is not written while the lock holds. -/
theorem DrawingKept.of_unheld_mgmt {s : State} {m : Mgmt} (h : ¬ s.mgmt.locked = true) :
    DrawingKept s { s with mgmt := m } := .of_mgmt fun hs => absurd hs (not_held_of_unlocked h)

theorem DrawingKept.setting {s t : State} {v : List Byte} (h : SettingWritten v s t) : DrawingKept s t := by
  cases h with
  | ports i => exact .of_unchanged (writePortSettings_keeps (.refl [.link, .reports] s))
  | scannerEnable => exact .of_unchanged (writeScannerEnable_keeps (.refl [.scanner] s))
  | store x n hl => exact .of_unheld_mgmt (by rw [hl]; exact Bool.false_ne_true)
  | nothing | pauseQuanta | tracker | scanner | reports => exact .of_same rfl rfl (.of_same rfl) rfl

theorem DrawingKept.serviceLock (s : State) : DrawingKept s (serviceLock s).1 :=
  .of_mgmt fun h => ⟨⟨rfl, h.2⟩, rfl, rfl⟩

theorem DrawingKept.softReset (s : State) : DrawingKept s (softReset s).1 := by
  unfold Machine.softReset
  split
  · exact .refl s
  · refine DrawingKept.trans (DrawingKept.trans ?_ (.noteEngineIdle _)) (.noteNoBatch _)
    exact .of_mgmt (.of_mgmt rfl rfl rfl rfl)

theorem DrawingKept.saveSettings (s : State) : DrawingKept s (saveSettings s).1 := by
  unfold Machine.saveSettings
  split
  · exact .refl s
  · exact .of_mgmt (.of_mgmt rfl rfl rfl rfl)

theorem DrawingKept.writeActions (i : Nat) (v : List Byte) (s : State) : DrawingKept s (writeActions i v s).1 := by
  unfold Machine.writeActions
  split
  · exact .serviceLock s
  · exact .softReset s
  · exact .saveSettings s
  · exact .of_unchanged (clearReports_keeps (.refl [.reports] s))
  · exact .of_unchanged (scanner_keeps (.refl [.scanner] s))
  · exact .abortDraw s
  · exact .refl s

theorem DrawingKept.applyWrite (i : WriteItem) (s : State) : DrawingKept s (applyWrite i s).1 := by
  unfold Machine.applyWrite
  split
  · exact .setting (writeSettings_written _ _ s)
  · exact .of_unchanged (writeClassify_keeps (.refl [.classifier] s))
  · exact .of_unchanged (writeGroups_keeps (.refl [.classifier] s))
  · exact .of_unchanged (writeSeatmap_keeps (.refl [.resv] s))
  · exact .writePanels _ _ s
  · exact .writePalettes _ _ s
  · exact .of_unchanged (writeLines_keeps (.refl [.scanner] s))
  · exact .of_unchanged (writeDoors_keeps (.refl [.tracker] s))
  · exact .of_unchanged (writeReports_keeps (.refl [.reports] s))
  · exact .writeSideglyphs _ _ s
  · exact .refl s
  · exact .writeActions _ _ s
  · exact .refl s

theorem DrawingKept.offerReply (p : PortId) (f : Frame) (s : State) : DrawingKept s (offerReply p f s) := by
  unfold Machine.offerReply
  split
  · refine DrawingKept.trans ?_ (.of_unchanged (placeLtx_keeps (.refl [.link] _)))
    exact .of_mgmt (.of_mgmt rfl rfl rfl rfl)
  · exact .of_mgmt (.of_mgmt rfl rfl rfl rfl)

theorem DrawingKept.endSave (k : Nat) (s : State) : DrawingKept s (endSave k s) :=
  DrawingKept.trans (t := { s with mgmt := { s.mgmt with save := none, bus := none } })
    (.of_mgmt (.of_mgmt rfl rfl rfl rfl)) (.of_unchanged (raise_keeps (.refl [.reports] _)))

theorem DrawingKept.setSave (x : Save) (b : Option Transaction) (s : State) : DrawingKept s (setSave x b s) :=
  .of_mgmt (.of_mgmt rfl rfl rfl rfl)

theorem drawingKept_transactionDone (data : List Byte) (s : State) :
    Ends (DrawingKept s) (execSettingsTransactionDone data s) := by
  unfold execSettingsTransactionDone
  split
  · exact .next (.refl s)
  · split
    · exact .next (.setSave _ _ s)
    · exact .next (.setSave _ _ s)
    · exact .next (.refl s)
    · split
      · exact .next (.setSave _ _ s)
      · exact .next (.setSave _ _ s)
    · exact .next (.endSave _ s)

theorem drawingKept_saveStatusPoll (s : State) : Ends (DrawingKept s) (execSaveStatusPoll s) := by
  unfold execSaveStatusPoll
  split
  · exact .next (.refl s)
  · split
    · exact .next (.setSave _ _ s)
    · exact .next (.refl s)

theorem drawingKept_saveTimeout (s : State) : Ends (DrawingKept s) (execSaveTimeout s) := by
  unfold execSaveTimeout
  split
  · exact .next (.refl s)
  · split
    · exact .next (.endSave _ s)
    · exact .next (.endSave _ s)
    · exact .next (.refl s)

theorem drawingKept_mgmtReadItem (job : ReadJob) (s : State) : Ends (DrawingKept s) (execMgmtReadItem job s) := by
  unfold execMgmtReadItem
  split
  · exact .next (.of_mgmt (.of_mgmt rfl rfl rfl rfl))
  · split
    · exact .next (.refl s)
    · next c t hh =>
      have ht : DrawingKept s t := .of_unchanged (mgmtHead_keeps (ps := [.classifier]) hh (by decide))
      split
      · split
        · exact .next ht
        · exact .next (ht.trans (.offerReply _ _ t))
      · exact .next ht

/-! ## Resets -/

theorem Panel.softReset_law {x : Panel} (h : x.Law) : x.softReset.Law := by
  obtain ⟨h1, h2, -, hrest⟩ := h
  exact ⟨h1, h2, role_composer_isSome _, hrest⟩

theorem softReset_panel (k : Panels) (p : PanelId) : k.softReset.panel p = (k.panel p).softReset := by
  cases p <;> rfl

theorem DrawingKept.applySoftReset (s : State) : DrawingKept s (applySoftReset s) where
  notices := fun _ => ⟨Nat.zero_le _, Nat.zero_le _, Nat.zero_le _, fun h => (nomatch h), Nat.zero_le _⟩
  store := .of_mgmt rfl rfl rfl rfl
  locked := fun _ p => by
    show ((s.panels.softReset.panel p).config).lockedFields = _
    rw [softReset_panel]
    rfl
  law := fun h => by
    refine ⟨fun p hm => ?_, fun _ h => (nomatch h)⟩
    show (s.panels.softReset.panel p).Law
    rw [softReset_panel]
    exact Panel.softReset_law (h.1 p hm)
  pages := fun h p hm => by
    show (s.panels.softReset.panel p).shown.pixels.wf = true ∧ (s.panels.softReset.panel p).back.pixels.wf = true
    rw [softReset_panel]
    exact h p hm
  engine := fun _ => .of_idle rfl (Nat.zero_le _) (Nat.zero_le _) fun _ h => (nomatch h)

theorem DrawingKept.reofferReply (s : State) : DrawingKept s (reofferReply s) := by
  unfold Machine.reofferReply
  split
  · exact .refl s
  · exact .offerReply _ _ s

theorem DrawingKept.settingsLoadEnd (answer : List Byte) (s : State) :
    Ends (DrawingKept s) (execSettingsLoadEnd answer s) := by
  unfold execSettingsLoadEnd
  split
  · next hl =>
    have start (t : State) (p : PortId) : DrawingKept t (startPort p t) :=
      .of_unchanged (startPort_keeps (.refl [.link, .reports] t))
    have values (i : UnitId) (l q : Nat) (a b : PortSettings) : DrawingKept s (loadValues i l q a b s) :=
      .of_same rfl rfl (fun hs => absurd (hs.2.symm.trans hl) (by decide)) rfl
    refine .next (DrawingKept.trans (DrawingKept.trans ?_ (start _ .A)) (start _ .B))
    split
    · exact values _ _ _ _ _
    · exact (values _ _ _ _ _).trans (.of_unchanged (raise_keeps (.refl [.reports] _)))
  · exact .next (.refl s)

/-! ## Frames and rolls -/

theorem DrawingKept.consumed {c : Copy} {s t : State} (h : CopyConsumed c s t) : DrawingKept s t := by
  cases h with
  | overflow => exact .of_unchanged (raiseOverflow_keeps (.refl [.reports] s))
  | draw => exact .consumeDraw _ s
  | nothing | position | consist | batch | notice | mgmt => exact .of_same rfl rfl (.of_same rfl) rfl

theorem drawingKept_classifyFrame (p : PortId) (s : State) : Ends (DrawingKept s) (execClassifyFrame p s) := by
  unfold execClassifyFrame
  split
  · exact .next (.refl s)
  · next f rest _ =>
    dsimp only
    have h1 : DrawingKept s (takeRxq p rest s) := .of_unchanged (takeRxq_keeps (.refl [.link] s))
    have h2 : DrawingKept s (if (classify (takeRxq p rest s) f).consume
        then consumeCopy { frame := f, port := p } (takeRxq p rest s) else takeRxq p rest s) := by
      split
      · exact h1.trans (.consumed (consumeCopy_consumed _ _))
      · exact h1
    exact .ite (fun _ => h2.trans (.of_unchanged (forwardCopy_keeps (.refl [.link, .reports] _)))) fun _ => h2

theorem DrawingKept.setFacing (p : PortId) (s : State) : DrawingKept s (setFacing p s) := by
  unfold Machine.setFacing
  dsimp only
  split
  · exact .of_same rfl rfl (.of_same rfl) rfl
  · refine DrawingKept.trans ?_ (.markRole .notice _)
    exact .of_same rfl rfl (.of_same rfl) rfl

/-- The parts that rolls reach, the panels apart. -/
abbrev rollParts : List Part := [.link, .classifier, .consist, .resv, .reports]

theorem DrawingKept.newRoll (c : Copy) (r : Roll) (s : State) : DrawingKept s (newRoll c r s) := by
  refine (DrawingKept.setFacing (facingOf c.port c.frame.origin) s).trans (.of_unchanged (ps := rollParts) ?_)
  unfold Machine.newRoll
  dsimp only
  split
  · exact offerFtx_keeps (consistChanged_keeps (consist_keeps (.refl rollParts _)))
  · exact offerReturn_keeps (raiseConsist_keeps (checkRoll_keeps (consist_keeps (.refl rollParts _))))

theorem drawingKept_takeRoll (s : State) : Ends (DrawingKept s) (execTakeRoll s) := by
  have intake (q : List Copy) : DrawingKept s (setConsistIntake q s) := .of_same rfl rfl (.of_same rfl) rfl
  unfold execTakeRoll
  split
  · exact .next (.refl s)
  · dsimp only
    split
    · exact .next (intake _)
    · split
      · exact .next (intake _)
      · exact .next ((intake _).trans (.newRoll _ _ _))

theorem drawingKept_takeRollReturn (s : State) : Ends (DrawingKept s) (execTakeRollReturn s) := by
  unfold execTakeRollReturn
  split
  · exact .next (.refl s)
  · dsimp only
    have intake := setConsistIntake_keeps (q := ‹List Copy›) (.refl rollParts s)
    split
    · exact .next (.of_unchanged intake)
    · split
      · exact .next (.of_unchanged (returnOnward_keeps intake))
      · exact .next (.of_unchanged (consistChanged_keeps (checkRoll_keeps (returnOnward_keeps intake))))

/-! ## Every command -/

theorem drawingKept_takeNotice (s : State) : Ends (DrawingKept s) (execTakeNotice s) := by
  unfold execTakeNotice
  split
  · exact .next (.refl s)
  · next c rest _ =>
    have taken : DrawingKept s { s with classifier := { s.classifier with notice := rest } } :=
      .of_same rfl rfl (.of_same rfl) rfl
    dsimp only
    split
    · exact .next taken
    · exact .next (taken.trans (.offerNotice _ _))

theorem drawingKept_dwellExpiry (s : State) : Ends (DrawingKept s) (execDwellExpiry s) := by
  unfold execDwellExpiry
  split
  · exact .next (.refl s)
  · refine .next ((QueueMoved.setQueue _ s).kept fun hq => ?_)
    rw [setQueue_queue]
    exact hq.sublist (List.tail_sublist _)

theorem drawingKept_noticeFlipReport (s : State) : Ends (DrawingKept s) (execNoticeFlipReport s) := by
  unfold execNoticeFlipReport
  split
  · exact .ite (fun _ => (DrawingKept.setFromPanels _ s).trans (.startDwell _)) fun _ => .setFromPanels _ s
  · exact .next (.refl s)

theorem drawingKept_noticeEnableChange (s : State) : Ends (DrawingKept s) (execNoticeEnableChange s) := by
  unfold execNoticeEnableChange
  split
  · exact .ite (fun _ => (DrawingKept.setFromPanels _ s).trans (.startDwell _)) fun _ => .setFromPanels _ s
  · exact .next (.refl s)

theorem drawingKept_debounce (d : DoorId) (s : State) : Ends (DrawingKept s) (execDebounceExpiry d s) := by
  unfold execDebounceExpiry
  dsimp only
  split
  · exact .ite (fun _ => (DrawingKept.setTracker s _).trans (.judgeEdge d _ _)) fun _ => .setTracker s _
  · exact .next (.refl s)

theorem drawingKept_takePosition (s : State) : Ends (DrawingKept s) (execTakePosition s) := by
  unfold execTakePosition
  split
  · exact .next (.refl s)
  · dsimp only
    split
    · exact .next (.of_same rfl rfl (.of_same rfl) rfl)
    · split
      · refine .next (DrawingKept.trans ?_ (.handOn _ _ _ _))
        exact .of_same rfl rfl (.of_same rfl) rfl
      · exact .next (.of_same rfl rfl (.of_same rfl) rfl)

theorem drawingKept_tick (s : State) : Ends (DrawingKept s) (execTick s) := by
  unfold execTick
  split
  · exact .next (.refl s)
  · dsimp only
    split
    · exact .next ((DrawingKept.setTracker s _).trans (.handOn _ _ _ _))
    · exact .next (.refl s)

theorem drawingKept_staleness (s : State) : Ends (DrawingKept s) (execStalenessExpiry s) := by
  unfold execStalenessExpiry
  split
  · exact .next (.refl s)
  · exact .next (((DrawingKept.setTracker s _).trans (.markHandoff s _)).trans
      (.of_unchanged (raise_keeps (.refl [.reports] _))))

theorem drawingKept_batchSingle (s : State) : Ends (DrawingKept s) (execBatchSingle s) :=
  execBatchSingle_induct (P := DrawingKept s) (.refl s)
    (fun _ t h => h.trans (.of_unchanged (setBatchIntake_keeps (.refl [.classifier] t))))
    (fun _ _ _ t h => h.trans (.of_unchanged (refusePart_keeps (.refl [.reports] t))))
    (fun _ t _ _ h hc => h.trans (.of_unchanged (claimSlot_keeps (.refl [.slots, .reports] t) hc)))
    (fun k f n v t h => h.trans (.handover k f n v t)) (fun t h => h.trans (.noteNoBatch t))

theorem DrawingKept.abandonBatch (i : SlotId) (b : Batch) (w : BatchReason) (n : Nat) (s : State) :
    DrawingKept s (abandonBatch i b w n s) := by
  unfold Machine.abandonBatch
  refine DrawingKept.trans ?_ (.noteNoBatch _)
  exact .of_unchanged (batchRejected_keeps (setSlot_keeps (.refl [.slots, .reports] s)))

theorem drawingKept_batchEnd (s : State) : Ends (DrawingKept s) (execBatchEnd s) :=
  execBatchEnd_induct (P := DrawingKept s) (.refl s)
    (fun _ t h => h.trans (.of_unchanged (setBatchIntake_keeps (.refl [.classifier] t))))
    (fun i b w n t h => h.trans (.abandonBatch i b w n t))
    (fun _ t h => h.trans (.of_unchanged (setSlot_keeps (.refl [.slots] t))))
    (fun k f n v t h => h.trans (.handover k f n v t)) (fun t h => h.trans (.noteNoBatch t))

theorem drawingKept_batchMiddle (s : State) : Ends (DrawingKept s) (execBatchMiddle s) := by
  unfold execBatchMiddle
  split
  · exact .next (.refl s)
  · next rest _ =>
    have taken : DrawingKept s (setBatchIntake rest s) :=
      .of_unchanged (setBatchIntake_keeps (.refl [.classifier] s))
    dsimp only
    split
    · exact .next taken
    · split
      · exact .next taken
      · split
        · exact .next (taken.trans (.abandonBatch _ _ _ _ _))
        · exact .next (taken.trans (.of_unchanged (setSlot_keeps (.refl [.slots] _))))

theorem drawingKept_batchTimeout (i : SlotId) (s : State) : Ends (DrawingKept s) (execBatchTimeout i s) := by
  unfold execBatchTimeout
  split
  · exact .next (.refl s)
  · exact .next (.abandonBatch _ _ _ _ s)

/-- Every command but PIN_RESET keeps the laws of notices, panels, pages and engine, and what the lock freezes of
them. -/
theorem exec_drawingKept {c : Instr} (hc : c ≠ .pinReset) (s : State) : Ends (DrawingKept s) (exec c s) := by
  by_cases htouch : (touched c).any [Part.panels, .engine, .mgmt, .notices].contains
  case neg =>
    have hnot {q : Part} (hq : q ∈ [Part.panels, .engine, .mgmt, .notices]) : q ∉ touched c := fun hm =>
      htouch (List.any_eq_true.2 ⟨q, hm, List.contains_iff_mem.2 hq⟩)
    exact (exec_ends c s).mono fun t hu =>
      .of_unchanged hu (hnot (by decide)) (hnot (by decide)) (hnot (by decide)) (hnot (by decide))
  · cases c with
    | pinReset => exact absurd rfl hc
    | settingsLoadEnd answer => exact DrawingKept.settingsLoadEnd answer s
    | classifyFrame p => exact drawingKept_classifyFrame p s
    | takeRoll => exact drawingKept_takeRoll s
    | takeRollReturn => exact drawingKept_takeRollReturn s
    | batchSingle => exact drawingKept_batchSingle s
    | batchEnd => exact drawingKept_batchEnd s
    | batchMiddle => exact drawingKept_batchMiddle s
    | batchTimeout i => exact drawingKept_batchTimeout i s
    | takePosition => exact drawingKept_takePosition s
    | tick => exact drawingKept_tick s
    | debounceExpiry d => exact drawingKept_debounce d s
    | stalenessExpiry => exact drawingKept_staleness s
    | noticeJourneyReset =>
      show Ends (DrawingKept s) (execNoticeJourneyReset s)
      unfold execNoticeJourneyReset
      split
      · exact .next ((DrawingKept.setFromTracker _ s).trans (.actJourneyReset _))
      · exact .next (.refl s)
    | noticeHandoff =>
      show Ends (DrawingKept s) (execNoticeHandoff s)
      unfold execNoticeHandoff
      split
      · exact .next ((DrawingKept.setFromTracker _ s).trans (.actHandoff _ _))
      · exact .next (.refl s)
    | takeNotice => exact drawingKept_takeNotice s
    | dwellExpiry => exact drawingKept_dwellExpiry s
    | noticeFlipReport => exact drawingKept_noticeFlipReport s
    | noticeEnableChange => exact drawingKept_noticeEnableChange s
    | drawRecordEnd => exact drawingKept_drawRecordEnd s
    | drawRecordSuspend units => exact drawingKept_drawRecordSuspend units s
    | composeTurn => exact drawingKept_composeTurn s
    | composerPlaceRecord => exact drawingKept_composerPlaceRecord s
    | panelRowEnd panel => exact drawingKept_panelRowEnd panel s
    | frameBoundary panel => exact drawingKept_frameBoundary panel s
    | mgmtReadItem job => exact drawingKept_mgmtReadItem job s
    | mgmtWriteItem job =>
      exact execMgmtWriteItem_induct (P := DrawingKept s) (.refl s)
        (fun _ _ hh => .of_unchanged (mgmtHead_keeps (ps := [.classifier]) hh (by decide)))
        (fun i t h => h.trans (.applyWrite i t)) (fun _ _ t h => h.trans (.offerReply _ _ t))
        (fun r t h => h.trans (.recorded r t)) job
    | portSettingsWrite index value =>
      exact DrawingKept.answered (.of_unchanged (writePortSettings_keeps (.refl [.link, .reports] s)))
    | scannerEnableWrite value => exact DrawingKept.answered (.of_unchanged (writeScannerEnable_keeps (.refl [.scanner] s)))
    | linesWrite index value => exact DrawingKept.answered (.of_unchanged (writeLines_keeps (.refl [.scanner] s)))
    | clearLampFaults => exact DrawingKept.answered (.of_unchanged (scanner_keeps (.refl [.scanner] s)))
    | classifyWrite index value => exact DrawingKept.answered (.of_unchanged (writeClassify_keeps (.refl [.classifier] s)))
    | groupsWrite index value => exact DrawingKept.answered (.of_unchanged (writeGroups_keeps (.refl [.classifier] s)))
    | seatmapWrite index value => exact DrawingKept.answered (.of_unchanged (writeSeatmap_keeps (.refl [.resv] s)))
    | panelRoleWrite panel value => exact DrawingKept.answered (.writePanelRole panel value s)
    | panelEnableWrite panel value => exact DrawingKept.answered (.writePanelEnable panel value s)
    | panelGeometryWrite panel field value => exact DrawingKept.answered (.writePanelGeometry panel field value s)
    | panelTimingWrite panel field value => exact DrawingKept.answered (.writePanelTiming panel field value s)
    | panelFieldWrite panel field value => exact DrawingKept.answered (.writePanelField panel _ value s)
    | palettesWrite index value => exact DrawingKept.answered (.writePalettes _ value s)
    | sideglyphsWrite index value => exact DrawingKept.answered (.writeSideglyphs _ value s)
    | doorsWrite index value => exact DrawingKept.answered (.of_unchanged (writeDoors_keeps (.refl [.tracker] s)))
    | reportsWrite index value => exact DrawingKept.answered (.of_unchanged (writeReports_keeps (.refl [.reports] s)))
    | clearReports value => exact DrawingKept.answered (.of_unchanged (clearReports_keeps (.refl [.reports] s)))
    | serviceLock => exact DrawingKept.answered (.serviceLock s)
    | softReset => exact DrawingKept.answered (.softReset s)
    | saveSettings => exact DrawingKept.answered (.saveSettings s)
    | abortDraw => exact DrawingKept.answered (.abortDraw s)
    | drainTimeout => exact .next (.of_mgmt (.of_mgmt rfl rfl rfl rfl))
    | saveStatusPoll => exact drawingKept_saveStatusPoll s
    | saveTimeout => exact drawingKept_saveTimeout s
    | settingsTransactionDone data => exact drawingKept_transactionDone data s
    | softResetEffects =>
      show Ends (DrawingKept s) (execSoftResetEffects s)
      unfold execSoftResetEffects
      exact .ite (fun _ => ((DrawingKept.meetRunning s).trans (.applySoftReset _)).trans (.reofferReply _))
        fun _ => .refl s
    | replyRetry =>
      show Ends (DrawingKept s) (execReplyRetry s)
      unfold execReplyRetry
      split
      · exact .next (.refl s)
      · exact .ite (fun _ => .refl s) fun _ => .offerReply _ _ s
    | _ => exact Bool.noConfusion htouch

theorem noticeLaw_readsOnly : ReadsOnly [.notices] NoticeLaw := fun hq h =>
  noticeLaw_of_notices (h.notices (hq _ (by decide)))

theorem panelsLaw_readsOnly : ReadsOnly [.panels] PanelsLaw := fun hq h hs => by
  unfold PanelsLaw State.panel
  rw [h.panels (hq _ (by decide))]
  exact hs

theorem pagesLaw_readsOnly : ReadsOnly [.panels] PagesLaw := fun hq h hs => by
  unfold PagesLaw State.panel
  rw [h.panels (hq _ (by decide))]
  exact hs

theorem engineLaw_readsOnly : ReadsOnly [.engine, .panels] EngineLaw := fun hq h hs =>
  hs.of_flips (h.engine (hq _ (by decide))) fun p hf => by
    rw [State.panel, h.panels (hq _ (by decide))]
    exact hf

theorem noticeLaw_reset : NoticeLaw State.reset := by simp [NoticeLaw, State.reset]

theorem reset_panel (p : PanelId) : State.reset.panel p = {} := by cases p <;> rfl

theorem panelsLaw_reset : PanelsLaw State.reset := by
  refine ⟨fun p _ => ?_, fun _ h => nomatch h⟩
  rw [reset_panel]
  simp [Panel.Law, Panel.enabled]

theorem pagesLaw_reset : PagesLaw State.reset := fun p _ => by
  rw [reset_panel]
  exact ⟨rfl, rfl⟩

theorem engineLaw_reset : EngineLaw State.reset :=
  .of_idle rfl (Nat.zero_le _) (Nat.zero_le _) fun _ h => nomatch h

/-- A law that `DrawingKept` keeps and a pin reset restores holds after every command. -/
theorem ends_of_drawingKept {P : State → Prop} (hreset : ∀ s, Ends P (execPinReset s))
    (hk : ∀ s t, DrawingKept s t → P s → P t) (c : Instr) (s : State) (h : P s) : Ends P (exec c s) := by
  by_cases hc : c = .pinReset
  · subst hc
    exact hreset s
  · exact (exec_drawingKept hc s).mono fun t k => hk s t k h

end Sys2Proof.Machine

namespace Sys2Proof

open Sys2Proof.Machine

/-- Settles O9: every operation on the notices, from offering one to a load of triggers, keeps the law. -/
theorem noticeLawIsKept : Obligations.NoticeLawIsKept := fun _ _ h hs =>
  noticeLaw_readsOnly.step (by decide)
    (fun c s _ => ends_of_drawingKept (fun _ => .next noticeLaw_reset) (fun _ _ k => k.notices) c s) h hs

/-- Settles O12: a record runs only where no flip is pending, and a flip falls due only while none runs. -/
theorem engineLawIsKept : Obligations.EngineLawIsKept := fun _ _ h hs =>
  engineLaw_readsOnly.step (by decide)
    (fun c s _ => ends_of_drawingKept (fun _ => .next engineLaw_reset) (fun _ _ k => k.engine) c s) h hs

/-- Settles O13: every write of role or enable settles refresh, flip and composer state with it. -/
theorem panelsLawIsKept : Obligations.PanelsLawIsKept := fun _ _ h hs =>
  panelsLaw_readsOnly.step (by decide)
    (fun c s _ => ends_of_drawingKept (fun _ => .next panelsLaw_reset) (fun _ _ k => k.law) c s) h hs

end Sys2Proof
end

section
/-! Proofs for the seat table, the lamp image and the scanner at every step. -/

namespace Sys2Proof.Machine


open Sys2Proof

/-! ## The law of a seat table (sections 7.1 and 7.2) -/

/-- The law of the seat table, of a table and the journey facts it stands under. -/
def SeatTableLaw (j : Option ResvJourney) (seats : List Seat) : Prop :=
  seats.length = 96 ∧ ((seats.map (·.number)).filter (fun n => decide (n ≠ 0))).Nodup ∧
    inUse seats ≤ 384 ∧ ∀ x ∈ seats, SeatLaw j x

theorem seatsLaw_iff {s : State} : SeatsLaw s ↔ SeatTableLaw s.resv.journey s.resv.seats := Iff.rfl

/-- A list from which segments have gone is lawful still. -/
theorem SeatLaw.sublist {j : Option ResvJourney} {x y : Seat} (h : SeatLaw j x)
    (hs : y.segments.Sublist x.segments) : SeatLaw j y := by
  obtain ⟨hp, hj⟩ := h
  refine ⟨hp.sublist hs, ?_⟩
  cases j with
  | none =>
    replace hj : x.segments = [] := hj
    rw [hj] at hs
    exact List.sublist_nil.1 hs
  | some j => exact fun g hg => hj g (hs.subset hg)

theorem seatLaw_empty (j : Option ResvJourney) {x : Seat} (h : x.segments = []) : SeatLaw j x := by
  unfold SeatLaw
  rw [h]
  exact ⟨.nil, by cases j <;> simp⟩

/-- The segments left by a new c lie beyond it. -/
theorem SeatLaw.purged {j : Option ResvJourney} {x : Seat} (h : SeatLaw j x) (c n : Nat) :
    SeatLaw (j.map fun j => { j with c := c, n := n })
      { x with segments := x.segments.filter (fun g => decide (c < g.toStop)) } := by
  obtain ⟨hp, hl⟩ := h.sublist (y := { x with segments := x.segments.filter (fun g => decide (c < g.toStop)) })
    List.filter_sublist
  refine ⟨hp, ?_⟩
  cases j with
  | none => exact hl
  | some j =>
    intro g hg
    obtain ⟨hlt, hf, ht, -⟩ := hl g hg
    exact ⟨hlt, hf, ht, of_decide_eq_true (List.mem_filter.1 hg).2⟩

/-! ## The segments in use -/

theorem inUse_cons (x : Seat) (l : List Seat) : inUse (x :: l) = x.segments.length + inUse l := by simp [inUse]

theorem inUse_map_le {g : Seat → Seat} (hg : ∀ x, (g x).segments.length ≤ x.segments.length) :
    (l : List Seat) → inUse (l.map g) ≤ inUse l
  | [] => Nat.le_refl _
  | x :: l => by
    have := inUse_map_le hg l
    have := hg x
    simp only [List.map_cons, inUse_cons]
    omega

theorem inUse_updAt_le {g : Seat → Seat} {n : Nat} (hg : ∀ x, (g x).segments.length ≤ x.segments.length + n) :
    (i : Nat) → (l : List Seat) → inUse (updAt i g l) ≤ inUse l + n
  | i, [] => by simp [inUse]
  | 0, x :: l => by
    have := hg x
    simp only [updAt, inUse_cons]
    omega
  | i + 1, x :: l => by
    have := inUse_updAt_le hg i l
    simp only [updAt, inUse_cons]
    omega

theorem map_updAt_same {α β : Type} {f : α → α} {k : α → β} (hf : ∀ x, k (f x) = k x) :
    (i : Nat) → (l : List α) → (updAt i f l).map k = l.map k
  | i, [] => by simp
  | 0, x :: l => by simp [updAt, hf]
  | i + 1, x :: l => by simp [updAt, map_updAt_same hf i l]

theorem map_updAt {α β : Type} {f : α → α} {k : α → β} {v : β} (hf : ∀ x, k (f x) = v) :
    (i : Nat) → (l : List α) → (updAt i f l).map k = updAt i (fun _ => v) (l.map k)
  | i, [] => by simp
  | 0, x :: l => by simp [updAt, hf]
  | i + 1, x :: l => by simp [updAt, map_updAt hf i l]

/-! ## What an operation on the seat table keeps -/

/-- The seat numbers are the same, and the law is kept, from the facts of one journey to those of another. -/
structure SeatsKept (j j' : Option ResvJourney) (a b : List Seat) : Prop where
  numbers : b.map (·.number) = a.map (·.number)
  law : SeatTableLaw j a → SeatTableLaw j' b

theorem SeatsKept.refl (j : Option ResvJourney) (a : List Seat) : SeatsKept j j a a := ⟨rfl, id⟩

theorem SeatsKept.trans {j j' j'' : Option ResvJourney} {a b c : List Seat} (h : SeatsKept j j' a b)
    (k : SeatsKept j' j'' b c) : SeatsKept j j'' a c :=
  ⟨k.numbers.trans h.numbers, fun hl => k.law (h.law hl)⟩

/-- A change of every position that keeps its number and adds no segment. -/
theorem SeatsKept.map {j j' : Option ResvJourney} {g : Seat → Seat} (hn : ∀ x, (g x).number = x.number)
    (hlen : ∀ x, (g x).segments.length ≤ x.segments.length) (hg : ∀ x, SeatLaw j x → SeatLaw j' (g x))
    (a : List Seat) : SeatsKept j j' a (a.map g) where
  numbers := by simp [Function.comp_def, hn]
  law := fun ⟨h96, hnum, hpool, hall⟩ => by
    refine ⟨by simpa using h96, ?_, (inUse_map_le hlen a).trans hpool, fun x hx => ?_⟩
    · simpa [Function.comp_def, hn] using hnum
    · obtain ⟨y, hy, rfl⟩ := List.mem_map.1 hx
      exact hg y (hall y hy)

/-- A change of one position that keeps its number, with room in the pool for the segments it adds. -/
theorem SeatsKept.updAt {j : Option ResvJourney} {g : Seat → Seat} {i n : Nat} {a : List Seat}
    (hn : ∀ x, (g x).number = x.number) (hlen : ∀ x, (g x).segments.length ≤ x.segments.length + n)
    (hroom : inUse a ≤ 384 → inUse a + n ≤ 384) (hg : ∀ x, a[i]? = some x → SeatLaw j x → SeatLaw j (g x)) :
    SeatsKept j j a (updAt i g a) where
  numbers := map_updAt_same hn i a
  law := fun ⟨h96, hnum, hpool, hall⟩ => by
    refine ⟨by simpa using h96, by rwa [map_updAt_same hn], ?_, fun x hx => ?_⟩
    · exact (inUse_updAt_le hlen i a).trans (hroom hpool)
    · obtain hx | ⟨y, hy, rfl⟩ := mem_updAt hx
      · exact hall x hx
      · exact hg y hy (hall y (List.mem_of_getElem? hy))

/-- One position that loses segments. -/
theorem SeatsKept.shrink {j : Option ResvJourney} {g : Seat → Seat} (hn : ∀ x, (g x).number = x.number)
    (hs : ∀ x, (g x).segments.Sublist x.segments) (i : Nat) (a : List Seat) :
    SeatsKept j j a (Machine.updAt i g a) :=
  .updAt (n := 0) hn (fun x => (hs x).length_le) id fun x _ h => h.sublist (hs x)

/-! ## Operations (section 7.3.1) -/

theorem insertSegment_perm (g : Segment) : (l : List Segment) → (insertSegment g l).Perm (g :: l)
  | [] => .refl _
  | h :: l => by
    rw [insertSegment]
    split
    · exact .refl _
    · exact (List.Perm.cons h (insertSegment_perm g l)).trans (.swap g h l)

/-- A segment that overlaps none of an ascending list keeps it so. -/
theorem insertSegment_pairwise {g : Segment} (hg : g.fromStop < g.toStop) : {l : List Segment} →
    l.Pairwise (fun a b => a.toStop ≤ b.fromStop) → (∀ h ∈ l, h.fromStop < h.toStop) →
    (∀ h ∈ l, h.toStop ≤ g.fromStop ∨ g.toStop ≤ h.fromStop) →
    (insertSegment g l).Pairwise (fun a b => a.toStop ≤ b.fromStop)
  | [], _, _, _ => List.pairwise_singleton _ _
  | h :: l, hp, hlt, hno => by
    obtain ⟨hhead, htail⟩ := List.pairwise_cons.1 hp
    have hh := hlt h List.mem_cons_self
    have hnh := hno h List.mem_cons_self
    rw [insertSegment]
    split
    · next hlow =>
      refine List.pairwise_cons.2 ⟨fun x hx => ?_, hp⟩
      obtain rfl | hx := List.mem_cons.1 hx
      · omega
      · have := hhead x hx
        omega
    · next hhigh =>
      refine List.pairwise_cons.2 ⟨fun x hx => ?_, insertSegment_pairwise hg htail
        (fun x hx => hlt x (List.mem_cons_of_mem _ hx)) fun x hx => hno x (List.mem_cons_of_mem _ hx)⟩
      obtain rfl | hx := List.mem_cons.1 ((insertSegment_perm g l).mem_iff.1 hx)
      · omega
      · exact hhead x hx

theorem overlapsAny_false {f t : Nat} {l : List Segment} (h : ¬ overlapsAny f t l = true) :
    ∀ g ∈ l, g.toStop ≤ f ∨ t ≤ g.fromStop := fun g hg => by
  have := mt (fun hb => List.any_eq_true.2 ⟨g, hg, hb⟩) h
  simp only [Bool.and_eq_true, decide_eq_true_eq] at this
  omega

/-- A stop within the list that is not PASS is a STOP. -/
theorem stop_of_getD_ne_pass {l : List StopKind} {i : Nat} (h : ¬ l.getD i .pass = .pass) :
    l[i]? = some .stop := by
  rw [List.getD_eq_getElem?_getD] at h
  cases hi : l[i]? with
  | none => exact absurd (by rw [hi]; rfl) h
  | some k =>
    cases k with
    | stop => rfl
    | pass => exact absurd (by rw [hi]; rfl) h

theorem SeatsKept.applyReserve (j : ResvJourney) (i f t : Nat) (tag : Option Nat) (a : List Seat) :
    SeatsKept (some j) (some j) a (applyReserve j i f t tag a).1 := by
  unfold Machine.applyReserve
  dsimp only
  split
  · exact .refl _ a
  · next hrange =>
    split
    · exact .refl _ a
    · next hstops =>
      split
      · exact .refl _ a
      · next hbeyond =>
        split
        · exact .refl _ a
        · next hfree =>
          split
          · exact .refl _ a
          · next hroom =>
            have hft : f < t := by omega
            have hno := overlapsAny_false hfree
            refine .updAt (n := 1) (fun _ => rfl) (fun x => (insertSegment_length _ _).le) (fun _ => by omega)
              fun x hx ⟨hp, hl⟩ => ?_
            rw [List.getD_eq_getElem?_getD, hx] at hno
            refine ⟨insertSegment_pairwise hft hp (fun h hh => (hl h hh).1) hno, fun g hg => ?_⟩
            obtain rfl | hg := List.mem_cons.1 ((insertSegment_perm _ _).mem_iff.1 hg)
            · obtain ⟨hf, ht⟩ := not_or.1 hstops
              exact ⟨hft, stop_of_getD_ne_pass hf, stop_of_getD_ne_pass ht, by show j.c < t; omega⟩
            · exact hl g hg

theorem SeatsKept.applyOp (j : ResvJourney) (op : ResvOp) (a : List Seat) :
    SeatsKept (some j) (some j) a (applyOp j op a).1 := by
  unfold Machine.applyOp
  cases op with
  | dropTag tag =>
    exact .map (g := fun x => { x with segments := x.segments.filter (fun g => decide (g.tag ≠ some tag)) })
      (fun _ => rfl) (fun x => List.length_filter_le _ _) (fun x h => h.sublist List.filter_sublist) a
  | reserve seat f t tag =>
    dsimp only
    split
    · exact .refl _ a
    · exact .applyReserve j _ f t tag a
  | release seat f =>
    dsimp only
    split
    · exact .refl _ a
    · split
      · exact .shrink (g := fun x => { x with segments := x.segments.filter (fun g => decide (g.fromStop ≠ f)) })
          (fun _ => rfl) (fun x => List.filter_sublist) _ a
      · exact .refl _ a
  | clearSeat seat =>
    dsimp only
    split
    · exact .refl _ a
    · exact .shrink (g := fun x => { x with segments := [], data := .known }) (fun _ => rfl)
        (fun x => List.nil_sublist _) _ a
  | seatService seat v =>
    dsimp only
    split
    · exact .refl _ a
    · exact .shrink (g := fun x => { x with service := v }) (fun _ => rfl) (fun x => .refl _) _ a

/-! ## Loads (sections 7.3.2 and 7.3.3) -/

theorem SeatsKept.applyEach (j : ResvJourney) : (ops : List ResvOp) → (k : Nat) → (a : List Seat) →
    (fs : Failures) → SeatsKept (some j) (some j) a (applyEach j k ops a fs).1
  | [], _, a, _ => .refl _ a
  | op :: ops, k, a, fs => by
    have hop := SeatsKept.applyOp j op a
    rw [Machine.applyEach]
    split
    · next seats he =>
      rw [he] at hop
      exact hop.trans (SeatsKept.applyEach j ops _ _ _)
    · exact SeatsKept.applyEach j ops _ a _

theorem SeatsKept.applyAll (j : ResvJourney) : (ops : List ResvOp) → (k : Nat) → (a b : List Seat) →
    applyAll j k ops a = .ok b → SeatsKept (some j) (some j) a b
  | [], _, a, b, h => by
    cases h
    exact .refl _ a
  | op :: ops, k, a, b, h => by
    have hop := SeatsKept.applyOp j op a
    rw [Machine.applyAll] at h
    split at h
    · next seats he =>
      rw [he] at hop
      exact hop.trans (SeatsKept.applyAll j ops _ _ b h)
    · cases h

theorem SeatsKept.emptied (j : Option ResvJourney) (a : List Seat) : SeatsKept j j a (emptied a) :=
  .map (g := fun x => { x with segments := [] }) (fun _ => rfl) (fun _ => Nat.zero_le _)
    (fun _ _ => seatLaw_empty j rfl) a

theorem SeatsKept.allKnown (j : Option ResvJourney) (a : List Seat) : SeatsKept j j a (allKnown a) := by
  refine .map (fun x => ?_) (fun x => ?_) (fun x h => h.sublist ?_) a <;> split
  · rfl
  · rfl
  · exact Nat.le_refl _
  · exact Nat.le_refl _
  · exact .refl _
  · exact .refl _

/-! ## The Reservation Unit -/

/-- The image of the Reservation Unit is that of its seats (R135). -/
def Resv.Imaged (r : Resv) : Prop := r.image = r.seats.map (lampOf r.journey)

/-- What an event at the Reservation Unit keeps: the seat numbers, the law of the seats, and the lamp image. -/
structure ResvKept (r u : Resv) : Prop where
  seats : SeatsKept r.journey u.journey r.seats u.seats
  image : r.Imaged → u.Imaged

theorem ResvKept.refl (r : Resv) : ResvKept r r := ⟨.refl _ _, id⟩

theorem ResvKept.trans {r u v : Resv} (h : ResvKept r u) (k : ResvKept u v) : ResvKept r v :=
  ⟨h.seats.trans k.seats, fun hi => k.image (h.image hi)⟩

/-- The lamp image is worked out from the seats as they stand. -/
theorem ResvKept.relamp {r u : Resv} (h : SeatsKept r.journey u.journey r.seats u.seats) : ResvKept r u.relamp :=
  ⟨h, fun _ => rfl⟩

theorem ResvKept.setInbox (r : Resv) (q : List ResvMsg) : ResvKept r { r with inbox := q } := ⟨.refl _ _, id⟩

theorem SeatsKept.flushed (j j' : Option ResvJourney) (a : List Seat) :
    SeatsKept j j' a (a.map fun x => { x with segments := [], data := .unknown }) :=
  .map (g := fun x => { x with segments := [], data := .unknown }) (fun _ => rfl) (fun _ => Nat.zero_le _)
    (fun _ _ => seatLaw_empty j' rfl) a

theorem ResvKept.actResv (m : ResvMsg) (r : Resv) : ResvKept r (actResv m r) := by
  cases m with
  | journey j => exact .relamp (.flushed _ _ _)
  | closed => exact .relamp (.flushed _ _ _)
  | labelChange => exact .relamp (.flushed _ _ _)
  | advance c n =>
    exact .relamp (.map (g := fun x => { x with segments := x.segments.filter (fun g => decide (c < g.toStop)) })
      (fun _ => rfl) (fun x => List.length_filter_le _ _) (fun x h => h.purged c n) _)

theorem ResvKept.softReset (r : Resv) : ResvKept r r.softReset := .relamp (.flushed _ _ _)

theorem ResvKept.catchUpResv (s : State) : ResvKept s.resv (catchUpResv s).resv := by
  unfold Machine.catchUpResv
  split
  · exact .refl _
  · next past rest _ =>
    exact List.foldlRecOn (motive := ResvKept s.resv) past _ (.setInbox _ rest)
      fun r hr m _ => hr.trans (.actResv m r)

theorem ResvKept.loadReservations {e : TrainEnd} {b : Byte} {v : List Byte} {s t : State}
    (h : loadReservations e b v s = .committed t) : ResvKept s.resv t.resv := by
  unfold Machine.loadReservations at h
  split at h
  · cases h
  · cases h
  · next j _ hj =>
    have hseats {u : List Seat} (hk : SeatsKept (some j) (some j) s.resv.seats u) :
        ResvKept s.resv (commitSeats u s).resv := by
      refine .relamp (u := { s.resv with seats := u }) ?_
      rwa [hj]
    split at h
    · cases h
    · next ops _ =>
      split at h
      · cases h
        have hr (fs : Failures) (u : State) : (reportFailures e b fs u).resv = u.resv :=
          (reportFailures_keeps (.refl [.reports] u)).resv (by decide)
        rw [hr]
        exact hseats (.applyEach j ops 1 _ _)
      · split at h
        · cases h
        · next seats hok =>
          cases h
          exact hseats (((SeatsKept.emptied _ _).trans (.applyAll j ops 1 _ _ hok)).trans (.allKnown _ _))

/-! ## The seat map (section 7.1) -/

/-- A number not in use, or 0, in one place: no number is twice in the list. -/
theorem nodup_filter_updAt {v : Nat} : {l : List Nat} → (i : Nat) → (v ≠ 0 → v ∉ l) →
    (l.filter (fun n => decide (n ≠ 0))).Nodup →
    ((updAt i (fun _ => v) l).filter (fun n => decide (n ≠ 0))).Nodup
  | [], i, _, _ => by simp
  | a :: l, 0, hv, h => by
    have htail : (l.filter (fun n => decide (n ≠ 0))).Nodup := h.sublist (List.Sublist.filter _ (List.sublist_cons_self a l))
    rw [updAt, List.filter_cons]
    split
    · next h0 =>
      exact List.nodup_cons.2 ⟨fun hm => hv (of_decide_eq_true h0) (List.mem_cons_of_mem _ (List.mem_filter.1 hm).1), htail⟩
    · exact htail
  | a :: l, i + 1, hv, h => by
    have hrest (hl : (l.filter (fun n => decide (n ≠ 0))).Nodup) :=
      nodup_filter_updAt (v := v) (l := l) i (fun h0 hm => hv h0 (List.mem_cons_of_mem _ hm)) hl
    rw [updAt, List.filter_cons]
    rw [List.filter_cons] at h
    split at h
    · next h0 =>
      obtain ⟨hnot, hl⟩ := List.nodup_cons.1 h
      rw [if_pos h0]
      refine List.nodup_cons.2 ⟨fun hm => ?_, hrest hl⟩
      obtain ⟨hmem, hne⟩ := List.mem_filter.1 hm
      obtain hmem | ⟨y, -, rfl⟩ := mem_updAt hmem
      · exact hnot (List.mem_filter.2 ⟨hmem, hne⟩)
      · exact hv (of_decide_eq_true hne) List.mem_cons_self
    · next h0 =>
      rw [if_neg h0]
      exact hrest h

/-- A position given a number that no position has, its list emptied. -/
theorem SeatTableLaw.renumber {j : Option ResvJourney} {a : List Seat} {v : Nat} (h : SeatTableLaw j a) (i : Nat)
    (hv : v ≠ 0 → ∀ x ∈ a, x.number ≠ v) :
    SeatTableLaw j (updAt i (fun x => { x with number := v, segments := [], data := .unknown }) a) := by
  obtain ⟨h96, hnum, hpool, hall⟩ := h
  refine ⟨by simpa using h96, ?_, ?_, fun x hx => ?_⟩
  · rw [map_updAt (v := v) (fun _ => rfl)]
    refine nodup_filter_updAt i (fun h0 hm => ?_) hnum
    obtain ⟨x, hx, he⟩ := List.mem_map.1 hm
    exact hv h0 x hx he
  · exact (inUse_updAt_le (n := 0) (fun _ => Nat.zero_le _) i a).trans hpool
  · obtain hx | ⟨y, -, rfl⟩ := mem_updAt hx
    · exact hall x hx
    · exact seatLaw_empty j rfl

/-- A seat number is written with the lock clear, into the table with the lamp image worked out anew. -/
theorem writeSeatmap_cases (i : Nat) (v : List Byte) (s : State) :
    (writeSeatmap i v s).1 = s ∨ s.mgmt.locked = false ∧ ∃ n, (n ≠ 0 → ∀ x ∈ s.resv.seats, x.number ≠ n) ∧
      (writeSeatmap i v s).1 = commitSeats
        (updAt i (fun x => { x with number := n, segments := [], data := .unknown }) s.resv.seats) s := by
  unfold writeSeatmap
  split
  · exact .inl rfl
  · split
    · exact .inl rfl
    · next hl =>
      split
      · exact .inl rfl
      · next n _ =>
        split
        · exact .inl rfl
        · split
          · exact .inl rfl
          · split
            · exact .inl rfl
            · next hfree =>
              refine .inr ⟨by simpa using hl, n, fun h0 x hx he => hfree ⟨h0, ?_⟩, rfl⟩
              exact List.any_eq_true.2 ⟨x, hx, decide_eq_true he⟩

/-! ## What other units tell the Reservation Unit -/

/-- The Reservation Unit is told no more than messages it has not yet taken. -/
def OnlyTold (s t : State) : Prop := ∃ q, t.resv = { s.resv with inbox := q }

theorem OnlyTold.refl (s : State) : OnlyTold s s := ⟨_, rfl⟩

theorem OnlyTold.trans {s t u : State} (h : OnlyTold s t) (k : OnlyTold t u) : OnlyTold s u := by
  obtain ⟨q, hq⟩ := h
  obtain ⟨r, hr⟩ := k
  exact ⟨r, by rw [hr, hq]⟩

theorem OnlyTold.of_unchanged {ps : List Part} {s t : State} (h : UnchangedBut ps s t)
    (hp : Part.resv ∉ ps := by decide) : OnlyTold s t := ⟨_, h.resv hp⟩

theorem OnlyTold.resvKept {s t : State} (h : OnlyTold s t) : ResvKept s.resv t.resv := by
  obtain ⟨q, hq⟩ := h
  rw [hq]
  exact .setInbox _ q

theorem OnlyTold.tellAdvance (c : Nat) (s : State) : OnlyTold s (tellAdvance c s) := by
  unfold Machine.tellAdvance
  split
  · exact .refl s
  · exact ⟨_, rfl⟩

theorem OnlyTold.tellJourney (m : ResvMsg) (s : State) : OnlyTold s (tellJourney m s) := by
  unfold Machine.tellJourney
  refine OnlyTold.trans ?_ (.of_unchanged (markAll_keeps (.refl [.panels] _)))
  exact ⟨_, rfl⟩

theorem OnlyTold.loadJourney {v : List Byte} {s t : State} (h : loadJourney v s = .committed t) : OnlyTold s t := by
  unfold Machine.loadJourney at h
  split at h
  · cases h
  · dsimp only at h
    split at h
    · cases h
      exact OnlyTold.trans (t := { s with tracker := s.tracker.close }) (.refl s) (.tellJourney _ _)
    · cases h
      exact OnlyTold.trans (t := { s with tracker := s.tracker.openAt (journeyOf v) }) (.refl s) (.tellJourney _ _)

theorem OnlyTold.handOn (before : State) (stops : List Stop) (h : Handling) (s : State) :
    OnlyTold s (handOn before stops h s) := by
  unfold Machine.handOn
  refine OnlyTold.trans (OnlyTold.trans (OnlyTold.trans ?_
    (.of_unchanged (markHandoff_keeps (.refl [.panels] _)))) (.tellAdvance _ _))
    (.of_unchanged (reportSkipped_keeps (.refl [.reports] _)))
  exact ⟨_, rfl⟩

theorem OnlyTold.setLabel (n : Nat) (s : State) : OnlyTold s (setLabel n s) := by
  unfold Machine.setLabel
  split
  · exact .refl s
  · exact ⟨_, rfl⟩

theorem OnlyTold.adoptRoll (r : Roll) (rr : RollRecord) (s : State) : OnlyTold s (adoptRoll r rr s) := by
  unfold Machine.adoptRoll
  refine OnlyTold.trans ?_ (.setLabel _ _)
  exact ⟨_, rfl⟩

/-! ## Every command at the Reservation Unit -/

theorem resvKept_readsOnly (s : State) : ReadsOnly [.resv] fun t => ResvKept s.resv t.resv := fun hq h hs => by
  show ResvKept _ _
  rwa [h.resv (hq _ (by decide))]

theorem ResvKept.handover (k : LoadClass) (f : Frame) (n : Nat) (v : List Byte) {s t : State}
    (h : ResvKept s.resv t.resv) : ResvKept s.resv (handover k f n v t).resv := by
  refine ReadsOnly.handover (resvKept_readsOnly s) (by decide) (fun k t ht => ?_) (fun k e b v t u ht hj => ?_) k f n v t h
  · cases k with
    | journey => exact ht
    | glyphs => exact ht
    | triggers => exact resvKept_readsOnly s (by decide) (catchUpNotices_keeps (.refl [.notices, .panels, .reports] t)) ht
    | reservations => exact ht.trans (.catchUpResv t)
  · cases k with
    | triggers => exact resvKept_readsOnly s (by decide) (loadTriggers_keeps (.refl [.notices] t) hj) ht
    | glyphs => exact resvKept_readsOnly s (by decide) (loadGlyphs_keeps (.refl [.engine, .panels, .freeCount] t) hj) ht
    | reservations => exact ht.trans (.loadReservations hj)
    | journey => exact ht.trans (OnlyTold.loadJourney hj).resvKept

theorem OnlyTold.checkRoll (r : Roll) (rr : RollRecord) (s : State) : OnlyTold s (checkRoll r rr s) := by
  unfold Machine.checkRoll
  split
  · exact .of_unchanged (failRoll_keeps (.refl [.consist, .reports] s))
  · exact .adoptRoll r rr s

theorem OnlyTold.newRoll (c : Copy) (r : Roll) (s : State) : OnlyTold s (newRoll c r s) := by
  have hface : OnlyTold s (setFacing (facingOf c.port c.frame.origin) s) :=
    .of_unchanged (setFacing_keeps (.refl [.consist, .panels] s))
  have hconsist (u : State) (k : Consist) : OnlyTold u { u with consist := k } := ⟨_, rfl⟩
  unfold Machine.newRoll
  dsimp only
  split
  · exact (hface.trans (hconsist _ _)).trans
      (.of_unchanged (offerFtx_keeps (consistChanged_keeps (.refl [.link, .reports] _))))
  · exact ((hface.trans (hconsist _ _)).trans (.checkRoll _ _ _)).trans
      (.of_unchanged (offerReturn_keeps (raiseConsist_keeps (.refl [.link, .consist, .reports] _))))

theorem onlyTold_takeRoll (s : State) : Ends (OnlyTold s) (execTakeRoll s) := by
  unfold execTakeRoll
  split
  · exact .next (.refl s)
  · next rest _ =>
    have taken : OnlyTold s (setConsistIntake rest s) := ⟨_, rfl⟩
    dsimp only
    split
    · exact .next taken
    · split
      · exact .next taken
      · exact .next (taken.trans (.newRoll _ _ _))

theorem onlyTold_takeRollReturn (s : State) : Ends (OnlyTold s) (execTakeRollReturn s) := by
  unfold execTakeRollReturn
  split
  · exact .next (.refl s)
  · next rest _ =>
    have taken : OnlyTold s (setConsistIntake rest s) := ⟨_, rfl⟩
    have onward (p : PortId) (f : Frame) (u : State) : OnlyTold u (returnOnward p f u) :=
      .of_unchanged (returnOnward_keeps (.refl [.link, .reports] u))
    dsimp only
    split
    · exact .next taken
    · split
      · exact .next (taken.trans (onward _ _ _))
      · exact .next (((taken.trans (onward _ _ _)).trans (.checkRoll _ _ _)).trans
          (.of_unchanged (consistChanged_keeps (.refl [.reports] _))))

theorem onlyTold_takeLabels (s : State) : Ends (OnlyTold s) (execTakeLabels s) := by
  unfold execTakeLabels
  split
  · exact .next (.refl s)
  · next rest _ =>
    dsimp only
    split
    · refine .next (OnlyTold.trans (OnlyTold.trans ?_ (.setLabel _ _))
        (.of_unchanged (consistChanged_keeps (.refl [.reports] _))))
      exact ⟨_, rfl⟩
    · exact .next ⟨_, rfl⟩

theorem onlyTold_takePosition (s : State) : Ends (OnlyTold s) (execTakePosition s) := by
  unfold execTakePosition
  split
  · exact .next (.refl s)
  · dsimp only
    split
    · exact .next ⟨_, rfl⟩
    · split
      · refine .next (OnlyTold.trans ?_ (.handOn _ _ _ _))
        exact ⟨_, rfl⟩
      · exact .next ⟨_, rfl⟩

theorem onlyTold_tick (s : State) : Ends (OnlyTold s) (execTick s) := by
  unfold execTick
  split
  · exact .next (.refl s)
  · dsimp only
    split
    · refine .next (OnlyTold.trans ?_ (.handOn _ _ _ _))
      exact ⟨_, rfl⟩
    · exact .next (.refl s)

theorem OnlyTold.judgeEdge (d : DoorId) (rising : Bool) (s : State) : OnlyTold s (judgeEdge d rising s) := by
  have hraise (u : State) : OnlyTold u (doorUnexpected d rising u) := ⟨_, rfl⟩
  have harrive (l : List Stop) (u : State) : OnlyTold u (doorArrival l u) := by
    unfold doorArrival
    refine OnlyTold.trans ?_ (.handOn _ _ _ _)
    exact ⟨_, rfl⟩
  unfold Machine.judgeEdge
  split
  · exact .refl s
  · split
    · exact .refl s
    · exact .refl s
    · exact hraise s
    · split
      · exact hraise s
      · refine OnlyTold.trans ?_ (harrive _ _)
        split
        · exact hraise s
        · exact .refl s

theorem onlyTold_debounce (d : DoorId) (s : State) : Ends (OnlyTold s) (execDebounceExpiry d s) := by
  have hset (x : Tracker) : OnlyTold s { s with tracker := x } := ⟨_, rfl⟩
  unfold execDebounceExpiry
  dsimp only
  split
  · exact .ite (fun _ => (hset _).trans (.judgeEdge _ _ _)) fun _ => hset _
  · exact .next (.refl s)

/-! ### The soft reset at one block -/

/-- The effects of a soft reset are those of every block, with what waits placed afterwards (R195). -/
theorem softResetEffects_eq {s : State} (h : s.mgmt.drained = true) :
    exec .softResetEffects s = .next (reofferReply (applySoftReset (meetRunning s))) :=
  congrArg Host.Outcome.next (if_pos h)

theorem softResetEffects_none {s : State} (h : ¬ s.mgmt.drained = true) : exec .softResetEffects s = .next s :=
  congrArg Host.Outcome.next (if_neg h)

theorem meetRunning_unchanged (s : State) : UnchangedBut [.engine, .panels, .freeCount] s (meetRunning s) :=
  meetRunning_keeps (.refl [.engine, .panels, .freeCount] s)

theorem reofferReply_unchanged (s : State) : UnchangedBut [.link, .mgmt] s (reofferReply s) := by
  unfold reofferReply
  split
  · exact .refl _ s
  · exact offerReply_keeps (.refl [.link, .mgmt] s)

theorem softReset_resv (s : State) :
    (reofferReply (applySoftReset (meetRunning s))).resv = s.resv.softReset := by
  rw [(reofferReply_unchanged _).resv (by decide), ← (meetRunning_unchanged s).resv (by decide)]
  rfl

theorem softReset_scanner (s : State) :
    (reofferReply (applySoftReset (meetRunning s))).scanner = s.scanner.clearFaults := by
  rw [(reofferReply_unchanged _).scanner (by decide), ← (meetRunning_unchanged s).scanner (by decide)]
  rfl

/-- The commands that may write a seat number. -/
inductive WritesSeats : Instr → Prop
  | pinReset : WritesSeats .pinReset
  | seatmapWrite (index value) : WritesSeats (.seatmapWrite index value)
  | mgmtWriteItem (job) : WritesSeats (.mgmtWriteItem job)

/-- Every other command keeps the seat numbers, the seats' law and the lamp image. -/
theorem exec_resvKept {c : Instr} (hc : ¬ WritesSeats c) (s : State) :
    Ends (fun t => ResvKept s.resv t.resv) (exec c s) := by
  have told {o : Out} (h : Ends (OnlyTold s) o) : Ends (fun t => ResvKept s.resv t.resv) o :=
    h.mono fun t k => k.resvKept
  by_cases htouch : (touched c).contains .resv
  · cases atResv_of_touched htouch with
    | pinReset | seatmapWrite | mgmtWriteItem => exact absurd (by constructor) hc
    | takeRoll => exact told (onlyTold_takeRoll s)
    | takeRollReturn => exact told (onlyTold_takeRollReturn s)
    | takeLabels => exact told (onlyTold_takeLabels s)
    | takePosition => exact told (onlyTold_takePosition s)
    | tick => exact told (onlyTold_tick s)
    | debounceExpiry d => exact told (onlyTold_debounce d s)
    | batchSingle =>
      exact ReadsOnly.batchSingle (resvKept_readsOnly s) (by decide) (.refl _) fun k f n v _ h => h.handover k f n v
    | batchEnd =>
      exact ReadsOnly.batchEnd (resvKept_readsOnly s) (by decide) (.refl _) fun k f n v _ h => h.handover k f n v
    | flush =>
      show Ends _ (execFlush s)
      unfold execFlush
      split
      · exact .next (ResvKept.trans (.setInbox _ _) (ResvKept.actResv (.journey _) { s.resv with inbox := _ }))
      · exact .next (ResvKept.trans (.setInbox _ _) (ResvKept.actResv .closed { s.resv with inbox := _ }))
      · exact .next (ResvKept.trans (.setInbox _ _) (ResvKept.actResv .labelChange { s.resv with inbox := _ }))
      · exact .next (.refl _)
    | purge =>
      show Ends _ (execPurge s)
      unfold execPurge
      split
      · exact .next (ResvKept.trans (.setInbox _ _) (ResvKept.actResv (.advance _ _) { s.resv with inbox := _ }))
      · exact .next (.refl _)
    | softResetEffects =>
      by_cases hd : s.mgmt.drained = true
      · rw [softResetEffects_eq hd]
        refine .next ?_
        rw [softReset_resv]
        exact .softReset _
      · rw [softResetEffects_none hd]
        exact .next (.refl _)
  · refine (exec_ends c s).mono fun t hu => ?_
    rw [hu.resv (mt List.contains_iff_mem.2 htouch)]
    exact .refl _

theorem seatsLaw_readsOnly : ReadsOnly [.resv] SeatsLaw := fun hq h hs => by
  unfold SeatsLaw
  rwa [h.resv (hq _ (by decide))]

theorem imageLaw_readsOnly : ReadsOnly [.resv] ImageLaw := fun hq h hs => by
  unfold ImageLaw
  rwa [h.resv (hq _ (by decide))]

theorem SeatsLaw.writeSeatmap {s : State} (h : SeatsLaw s) (i : Nat) (v : List Byte) :
    SeatsLaw (writeSeatmap i v s).1 := by
  obtain he | ⟨-, n, hn, he⟩ := writeSeatmap_cases i v s
  · rwa [he]
  · rw [he]
    exact SeatTableLaw.renumber h i hn

theorem ImageLaw.writeSeatmap {s : State} (h : ImageLaw s) (i : Nat) (v : List Byte) :
    ImageLaw (writeSeatmap i v s).1 := by
  obtain he | ⟨-, n, -, he⟩ := writeSeatmap_cases i v s
  · rwa [he]
  · rw [he]
    rfl

/-- A law of the Reservation Unit is kept by an item when a SEATMAP item keeps it. -/
theorem ReadsOnly.applyWrite_resv {P : State → Prop} (hr : ReadsOnly [.resv] P)
    (hw : ∀ (i : Nat) (v : List Byte) (s : State), P s → P (writeSeatmap i v s).1) (i : WriteItem) (s : State)
    (h : P s) : P (applyWrite i s).1 := by
  by_cases h3 : i.table.toNat = 3
  · rw [applyWrite_seatmap h3]
    exact hw _ _ s h
  · refine hr (fun q hq => ?_) (applyWrite_parts i s) h
    rw [List.mem_singleton.1 hq]
    unfold tableParts
    split <;> first | exact absurd ‹_› h3 | decide

theorem seatsLaw_reset : SeatsLaw State.reset := by
  have hn : (State.reset.resv.seats.map (·.number)).filter (fun n => decide (n ≠ 0)) = [] := by decide
  refine ⟨rfl, hn ▸ .nil, by decide, fun x hx => ?_⟩
  rw [List.eq_of_mem_replicate hx]
  exact seatLaw_empty _ rfl

theorem imageLaw_reset : ImageLaw State.reset := rfl

/-- A law of the Reservation Unit that its events and SEATMAP items keep is kept by every command. -/
theorem exec_keeps_resvLaw {P : State → Prop} (hr : ReadsOnly [.resv] P)
    (hreset : ∀ s, Ends P (execPinReset s)) (hk : ∀ s t : State, ResvKept s.resv t.resv → P s → P t)
    (hw : ∀ (i : Nat) (v : List Byte) (s : State), P s → P (writeSeatmap i v s).1) (c : Instr) (s : State)
    (h : P s) : Ends P (exec c s) := by
  by_cases hc : WritesSeats c
  · cases hc with
    | pinReset => exact hreset s
    | seatmapWrite index value => exact hr.answered (by decide) (hw _ _ s h)
    | mgmtWriteItem job => exact hr.mgmtWriteItem (by decide) h (hr.applyWrite_resv hw) job
  · exact (exec_resvKept hc s).mono fun t k => hk s t k h

end Sys2Proof.Machine
end

section
/-! Proofs for the scanner at every step, and for the service lock. -/

namespace Sys2Proof.Machine


open Sys2Proof

/-! ## The scanner (chapter 8) -/

/-- The miss counts and fault marks of the 96 positions (R144, R145). -/
def MissesLaw (misses : List Nat) (faults : List Bool) : Prop :=
  misses.length = 96 ∧ faults.length = 96 ∧
    ∀ i ∈ List.range 96, misses.getD i 0 ≤ 2 ∧ (faults.getD i false = true → misses.getD i 0 = 0)

/-- The law of the scanner. -/
structure Scanner.Lawful (x : Scanner) : Prop where
  disabled : x.enable = false → x.plan = none ∧ x.sunk = none ∧ x.red = List.replicate 12 .released ∧
    x.green = List.replicate 12 .released
  scanning : x.enable = true → ∃ p ∈ x.plan, x.sunk = p.rows.head?
  misses : MissesLaw x.misses x.faults

theorem scannerLaw_iff {s : State} : ScannerLaw s ↔ s.scanner.Lawful :=
  ⟨fun ⟨h1, h2, h3⟩ => ⟨h1, h2, h3⟩, fun ⟨h1, h2, h3⟩ => ⟨h1, h2, h3⟩⟩

theorem getD_updAt_same {α : Type} (i : Nat) (v d : α) (l : List α) (h : i < l.length) :
    (updAt i (fun _ => v) l).getD i d = v := by
  rw [List.getD_eq_getElem?_getD, getElem?_updAt_same, List.getElem?_eq_getElem h]
  rfl

theorem getD_updAt_ne {α : Type} {i j : Nat} (h : j ≠ i) (f : α → α) (d : α) (l : List α) :
    (updAt i f l).getD j d = l.getD j d := by
  simp [List.getD_eq_getElem?_getD, getElem?_updAt_ne h]

/-- A count of a position that is not FAULTY. -/
theorem MissesLaw.set {misses : List Nat} {faults : List Bool} (h : MissesLaw misses faults) {i n : Nat} (hn : n ≤ 2)
    (hi : i < 96) (hf : faults.getD i false = true → n = 0) : MissesLaw (updAt i (fun _ => n) misses) faults := by
  obtain ⟨hm, hl, hall⟩ := h
  refine ⟨by simpa using hm, hl, fun j hj => ?_⟩
  by_cases hji : j = i
  · subst hji
    rw [getD_updAt_same j n 0 misses (hm ▸ hi)]
    exact ⟨hn, hf⟩
  · rw [getD_updAt_ne hji]
    exact hall j hj

/-- A position marked FAULTY has the count 0. -/
theorem MissesLaw.mark {misses : List Nat} {faults : List Bool} (h : MissesLaw misses faults) {i : Nat}
    (hi : misses.getD i 0 = 0) : MissesLaw misses (updAt i (fun _ => true) faults) := by
  obtain ⟨hm, hl, hall⟩ := h
  refine ⟨hm, by simpa using hl, fun j hj => ?_⟩
  by_cases hji : j = i
  · subst hji
    exact ⟨(hall j hj).1, fun _ => hi⟩
  · rw [getD_updAt_ne hji]
    exact hall j hj

/-- What the scanner keeps: its law and the line configuration. -/
structure ScannerKept (x y : Scanner) : Prop where
  law : x.Lawful → y.Lawful
  lines : y.lines = x.lines

theorem ScannerKept.refl (x : Scanner) : ScannerKept x x := ⟨id, rfl⟩

theorem ScannerKept.trans {x y z : Scanner} (h : ScannerKept x y) (k : ScannerKept y z) : ScannerKept x z :=
  ⟨fun hl => k.law (h.law hl), k.lines.trans h.lines⟩

/-- A frame begun by a scanner that is enabled. -/
theorem Scanner.Lawful.startFrame {x : Scanner} (he : x.enable = true) (hm : MissesLaw x.misses x.faults)
    (image : List LampState) : (x.startFrame image).Lawful where
  disabled := fun h => absurd (he.symm.trans h) (by decide)
  scanning := fun _ => ⟨_, rfl, rfl⟩
  misses := hm

theorem Scanner.Lawful.driveRow {x : Scanner} (h : x.Lawful) (he : x.enable = true) (p : FramePlan) :
    (x.driveRow p).Lawful where
  disabled := fun hd => absurd (he.symm.trans hd) (by decide)
  scanning := fun _ => ⟨_, rfl, rfl⟩
  misses := h.misses

/-- A scanner with a frame is enabled. -/
theorem Scanner.Lawful.enabled {x : Scanner} (h : x.Lawful) {p : FramePlan} (hp : x.plan = some p) :
    x.enable = true := by
  by_contra hd
  have hnone := (h.disabled (by simpa using hd)).1
  rw [hp] at hnone
  cases hnone

theorem Scanner.stop_lawful (x : Scanner) (h : x.faults.length = 96) : x.stop.Lawful where
  disabled := fun _ => ⟨rfl, rfl, rfl, rfl⟩
  scanning := fun h => nomatch h
  misses := by
    refine ⟨rfl, h, fun i _ => ?_⟩
    have h0 : (List.replicate 96 0).getD i 0 = 0 := by
      rw [List.getD_eq_getElem?_getD, List.getElem?_replicate]
      split <;> rfl
    show (List.replicate 96 0).getD i 0 ≤ 2 ∧ (_ → (List.replicate 96 0).getD i 0 = 0)
    rw [h0]
    exact ⟨Nat.zero_le _, fun _ => rfl⟩

theorem missesLaw_clear : MissesLaw (List.replicate 96 0) (List.replicate 96 false) :=
  ⟨rfl, rfl, fun i hi => by
    rw [List.getD_replicate (y := 0) (x := 0) (List.mem_range.1 hi)]
    exact ⟨Nat.zero_le 2, fun _ => rfl⟩⟩

theorem ScannerKept.clearFaults (x : Scanner) : ScannerKept x x.clearFaults :=
  ⟨fun h => ⟨h.disabled, h.scanning, missesLaw_clear⟩, rfl⟩

/-! ### Frames judged -/

/-- What judging a position keeps of a state whose miss counts are lawful: all but counts, marks and reports. -/
structure Judged.Kept (s t : State) : Prop where
  scanner : ∃ m f, t.scanner = { s.scanner with misses := m, faults := f }
  misses : MissesLaw s.scanner.misses s.scanner.faults → MissesLaw t.scanner.misses t.scanner.faults

theorem Judged.Kept.refl (s : State) : Judged.Kept s s := ⟨⟨_, _, rfl⟩, id⟩

theorem Judged.Kept.trans {s t u : State} (h : Judged.Kept s t) (k : Judged.Kept t u) : Judged.Kept s u := by
  obtain ⟨m, f, he⟩ := h.scanner
  obtain ⟨m', f', he'⟩ := k.scanner
  exact ⟨⟨m', f', by rw [he', he]⟩, fun hm => k.misses (h.misses hm)⟩

theorem Judged.Kept.judgePosition {i : Nat} (hi : i < 96) (s : State) : Judged.Kept s (judgePosition i s) := by
  unfold Machine.judgePosition
  split
  · exact .refl s
  · next hf =>
    split
    · exact .refl s
    · exact ⟨⟨_, _, rfl⟩, fun h => h.set (Nat.zero_le 2) hi fun _ => rfl⟩
    · dsimp only
      split
      · refine ⟨⟨_, _, rfl⟩, fun h => ?_⟩
        exact (h.set (Nat.zero_le 2) hi fun _ => rfl).mark (getD_updAt_same i 0 0 _ (h.1 ▸ hi))
      · exact ⟨⟨_, _, rfl⟩, fun h => h.set (by omega) hi fun h => absurd h hf⟩

theorem Judged.Kept.judgeFrame (s : State) : Judged.Kept s (judgeFrame s) :=
  List.foldlRecOn (motive := Judged.Kept s) (List.range 96) _ (.refl s)
    fun _ h _ hi => h.trans (.judgePosition (List.mem_range.1 hi) _)

theorem scannerKept_lampRowPeriodEnd (s : State) :
    Ends (fun t => ScannerKept s.scanner t.scanner) (execLampRowPeriodEnd s) := by
  unfold execLampRowPeriodEnd
  split
  · exact .next (.refl _)
  · next p hp =>
    split
    · exact .next ⟨fun h => h.driveRow (h.enabled hp) _, rfl⟩
    · have hj := Judged.Kept.judgeFrame s
      dsimp only
      generalize judgeFrame s = u at hj ⊢
      obtain ⟨m, f, he⟩ := hj.scanner
      have hblink (x : Scanner) : ∃ n b, x.advanceBlink = { x with blinkCount := n, phaseOn := b } := by
        unfold Scanner.advanceBlink
        split <;> exact ⟨_, _, rfl⟩
      obtain ⟨n, b, hb⟩ := hblink u.scanner
      refine .next ⟨fun h => ?_, ?_⟩
      · refine .startFrame ?_ ?_ _
        · rw [hb, he]
          exact h.enabled hp
        · rw [hb]
          exact hj.misses h.misses
      · show u.scanner.advanceBlink.lines = _
        rw [hb, he]

theorem scannerKept_senseSample (red green : BitVec 12) (s : State) :
    Ends (fun t => ScannerKept s.scanner t.scanner) (execSenseSample red green s) := by
  unfold execSenseSample
  split
  · exact .next (.refl _)
  · split
    · exact .next (.refl _)
    · exact .next ⟨fun h => ⟨h.disabled, h.scanning, h.misses⟩, rfl⟩

/-! ### Items that the scanner takes -/

theorem ScannerKept.writeScannerEnable (v : List Byte) (s : State) :
    ScannerKept s.scanner (writeScannerEnable v s).1.scanner := by
  unfold Machine.writeScannerEnable
  split
  · exact .refl _
  · split
    · exact .refl _
    · split
      · exact ⟨fun h => Scanner.Lawful.startFrame
          (x := { s.scanner with enable := true, phaseOn := true, blinkCount := 0 }) rfl h.misses _, rfl⟩
      · exact ⟨fun h => s.scanner.stop_lawful h.misses.2.1, rfl⟩

theorem writePortSettings_unchanged (i : Nat) (v : List Byte) (s : State) :
    UnchangedBut [.link, .reports] s (writePortSettings i v s).1 :=
  writePortSettings_keeps (.refl [.link, .reports] s)

/-- A number of the scanner's settings, or a write elsewhere. -/
theorem ScannerKept.setting {s t : State} {v : List Byte} (h : SettingWritten v s t) :
    ScannerKept s.scanner t.scanner := by
  cases h with
  | ports i =>
    rw [(writePortSettings_unchanged i v s).scanner (by decide)]
    exact .refl _
  | scannerEnable => exact .writeScannerEnable v s
  | scanner => exact ⟨fun h => ⟨h.disabled, h.scanning, h.misses⟩, rfl⟩
  | nothing | pauseQuanta | tracker | reports | store => exact .refl _

/-- A line's configuration is written with the lock clear, for the frames to come. -/
theorem writeLines_cases (i : Nat) (v : List Byte) (s : State) :
    (writeLines i v s).1 = s ∨ s.mgmt.locked = false ∧ ∃ n,
      (writeLines i v s).1 = { s with scanner := { s.scanner with lines := s.scanner.lines.setLine i n } } := by
  unfold writeLines
  split
  · exact .inl rfl
  · split
    · exact .inl rfl
    · next hl =>
      split
      · exact .inl rfl
      · next n _ =>
        have hl : s.mgmt.locked = false := by simpa using hl
        generalize (if i < 8 then 1 else 7) = top
        split
        · exact .inl rfl
        · exact .inr ⟨hl, n, rfl⟩

theorem ScannerLaw.writeLines {s : State} (h : ScannerLaw s) (i : Nat) (v : List Byte) :
    ScannerLaw (writeLines i v s).1 := by
  obtain he | ⟨-, n, he⟩ := writeLines_cases i v s
  · rwa [he]
  · rw [he]
    exact h

theorem ScannerKept.writeActions (i : Nat) (v : List Byte) (s : State) :
    ScannerKept s.scanner (writeActions i v s).1.scanner := by
  have hsame {ps : List Part} {a : State × ItemResult} (h : UnchangedBut ps s a.1) (hp : Part.scanner ∉ ps) :
      ScannerKept s.scanner a.1.scanner := by
    rw [h.scanner hp]
    exact .refl _
  unfold Machine.writeActions
  split
  · exact hsame (mgmt_keeps (.refl [.mgmt] s)) (by decide)
  · exact hsame (softReset_keeps (.refl [.mgmt] s)) (by decide)
  · exact hsame (saveSettings_keeps (.refl [.mgmt] s)) (by decide)
  · exact hsame (clearReports_keeps (.refl [.reports] s)) (by decide)
  · exact .clearFaults _
  · exact hsame (abortDraw_keeps (.refl [.engine, .panels, .notices, .mgmt, .reports, .freeCount] s)) (by decide)
  · exact .refl _

/-- An item of any table but LINES keeps the scanner's law and the line configuration. -/
theorem ScannerKept.applyWrite {i : WriteItem} (h : i.table.toNat ≠ 6) (s : State) :
    ScannerKept s.scanner (applyWrite i s).1.scanner := by
  by_cases h0 : i.table.toNat = 0
  · rw [applyWrite_settings h0]
    exact .setting (writeSettings_written _ _ s)
  by_cases h11 : i.table.toNat = 11
  · rw [applyWrite_actions h11]
    exact .writeActions _ _ s
  have hp : Part.scanner ∉ tableParts i.table.toNat := by
    unfold tableParts
    split <;> first | exact absurd ‹_› h0 | exact absurd ‹_› h | exact absurd ‹_› h11 | decide
  rw [(applyWrite_parts i s).scanner hp]
  exact .refl _

/-! ### Every command at the scanner -/

theorem scannerLaw_readsOnly : ReadsOnly [.scanner] ScannerLaw := fun hq h hs => by
  unfold ScannerLaw
  rwa [h.scanner (hq _ (by decide))]

theorem scannerKept_readsOnly (s : State) : ReadsOnly [.scanner] fun t => ScannerKept s.scanner t.scanner :=
  fun hq h hs => by
    show ScannerKept _ _
    rwa [h.scanner (hq _ (by decide))]

theorem scannerLaw_reset : ScannerLaw State.reset :=
  ⟨fun _ => ⟨rfl, rfl, rfl, rfl⟩, fun h => (by cases h), missesLaw_clear⟩

/-- The commands that may write the line configuration. -/
inductive WritesLines : Instr → Prop
  | pinReset : WritesLines .pinReset
  | linesWrite (index value) : WritesLines (.linesWrite index value)
  | mgmtWriteItem (job) : WritesLines (.mgmtWriteItem job)

/-- Every other command keeps the scanner's law and the line configuration. -/
theorem exec_scannerKept {c : Instr} (hc : ¬ WritesLines c) (s : State) :
    Ends (fun t => ScannerKept s.scanner t.scanner) (exec c s) := by
  by_cases htouch : (touched c).contains .scanner
  · cases atScanner_of_touched htouch with
    | pinReset | linesWrite | mgmtWriteItem => exact absurd (by constructor) hc
    | lampRowPeriodEnd => exact scannerKept_lampRowPeriodEnd s
    | senseSample red green => exact scannerKept_senseSample red green s
    | scannerEnableWrite v =>
      exact ReadsOnly.answered (scannerKept_readsOnly s) (by decide) (.writeScannerEnable v s)
    | clearLampFaults => exact ReadsOnly.answered (scannerKept_readsOnly s) (by decide) (.clearFaults _)
    | softResetEffects =>
      by_cases hd : s.mgmt.drained = true
      · rw [softResetEffects_eq hd]
        refine .next ?_
        rw [softReset_scanner]
        exact .clearFaults _
      · rw [softResetEffects_none hd]
        exact .next (.refl _)
  · refine (exec_ends c s).mono fun t hu => ?_
    rw [hu.scanner (mt List.contains_iff_mem.2 htouch)]
    exact .refl _

theorem ScannerLaw.applyWrite (i : WriteItem) (s : State) (h : ScannerLaw s) : ScannerLaw (applyWrite i s).1 := by
  by_cases h6 : i.table.toNat = 6
  · rw [applyWrite_lines h6]
    exact h.writeLines _ _
  · exact scannerLaw_iff.2 ((ScannerKept.applyWrite h6 s).law (scannerLaw_iff.1 h))

theorem exec_keeps_scannerLaw (c : Instr) (s : State) (h : ScannerLaw s) : Ends ScannerLaw (exec c s) := by
  by_cases hc : WritesLines c
  · cases hc with
    | pinReset => exact .next scannerLaw_reset
    | linesWrite index value => exact scannerLaw_readsOnly.answered (by decide) (h.writeLines _ _)
    | mgmtWriteItem job => exact scannerLaw_readsOnly.mgmtWriteItem (by decide) h ScannerLaw.applyWrite job
  · exact (exec_scannerKept hc s).mono fun t k => scannerLaw_iff.2 (k.law (scannerLaw_iff.1 h))

/-! ## The service lock (sections 11.1.2 and 11.2) -/

/-- The lock is set and the load over, and nothing that the lock freezes has changed since `s`. -/
def LockedSince (s t : State) : Prop := t.Held ∧ LockedSame s t

theorem LockedSame.refl (s : State) : LockedSame s s := ⟨rfl, rfl, rfl, rfl, rfl, rfl, rfl, rfl, rfl, fun _ _ => rfl⟩

theorem LockedSame.trans {s t u : State} (h : LockedSame s t) (k : LockedSame t u) : LockedSame s u := by
  obtain ⟨a1, a2, a3, a4, a5, a6, a7, a8, a9, a10⟩ := h
  obtain ⟨b1, b2, b3, b4, b5, b6, b7, b8, b9, b10⟩ := k
  exact ⟨b1.trans a1, b2.trans a2, b3.trans a3, b4.trans a4, b5.trans a5, b6.trans a6, b7.trans a7, b8.trans a8,
    b9.trans a9, fun p hp => (b10 p hp).trans (a10 p hp)⟩

/-- What every block keeps of a locked state. -/
theorem lockedSince_of {s t : State} (h : s.Held) (hd : DrawingKept s t)
    (hp : ∀ p, (t.port p).heldSettings = (s.port p).heldSettings) (he : t.classifier.entries = s.classifier.entries)
    (hn : t.resv.seats.map (·.number) = s.resv.seats.map (·.number)) (hl : t.scanner.lines = s.scanner.lines)
    (hL : t.tracker.doorL.mode = s.tracker.doorL.mode) (hR : t.tracker.doorR.mode = s.tracker.doorR.mode) :
    LockedSince s t := by
  obtain ⟨hheld, hid, hlab⟩ := hd.store h
  exact ⟨hheld, hp .A, hp .B, hid, hlab, he, hn, hl, hL, hR, fun p _ => hd.locked h p⟩

/-! ### Items under the lock -/

section Locked

variable {s : State} (h : s.Held)

include h

theorem writePortSettings_locked (i : Nat) (v : List Byte) : (writePortSettings i v s).1 = s := by
  unfold writePortSettings writePortItem
  rw [if_pos h.1, if_pos h.1, if_pos h.1, if_pos h.1]
  split <;> rfl

theorem writeClassify_locked (i : Nat) (v : List Byte) : (writeClassify i v s).1 = s := by
  unfold writeClassify
  rw [if_pos h.1]
  split <;> rfl

theorem writeSeatmap_locked (i : Nat) (v : List Byte) : (writeSeatmap i v s).1 = s := by
  unfold writeSeatmap
  rw [if_pos h.1]
  split <;> rfl

theorem writeLines_locked (i : Nat) (v : List Byte) : (writeLines i v s).1 = s := by
  unfold writeLines
  rw [if_pos h.1]
  split <;> rfl

theorem writeDoors_locked (i : Nat) (v : List Byte) : (writeDoors i v s).1 = s := by
  unfold writeDoors
  rw [if_pos h.1]
  split <;> rfl

/-- The ports' held settings under the lock. -/
theorem setting_held {t : State} {v : List Byte} (hw : SettingWritten v s t) (p : PortId) :
    (t.port p).heldSettings = (s.port p).heldSettings := by
  cases hw with
  | ports i => rw [writePortSettings_locked h]
  | scannerEnable => rw [State.port, (writeScannerEnable_keeps (.refl [.scanner] s)).link (by decide)]; rfl
  | pauseQuanta => cases p <;> rfl
  | nothing | tracker | scanner | reports | store => rfl

theorem applyWrite_heldSettings (i : WriteItem) (p : PortId) :
    ((applyWrite i s).1.port p).heldSettings = (s.port p).heldSettings := by
  by_cases h0 : i.table.toNat = 0
  · rw [applyWrite_settings h0]
    exact setting_held h (writeSettings_written _ _ s) p
  · have hp : Part.link ∉ tableParts i.table.toNat := by
      unfold tableParts
      split <;> first | exact absurd ‹_› h0 | decide
    unfold State.port
    rw [(applyWrite_parts i s).link hp]

theorem applyWrite_entries (i : WriteItem) : (applyWrite i s).1.classifier.entries = s.classifier.entries := by
  by_cases h1 : i.table.toNat = 1
  · rw [applyWrite_classify h1, writeClassify_locked h]
  by_cases h2 : i.table.toNat = 2
  · rw [applyWrite_groups h2]
    unfold writeGroups
    split
    · rfl
    · split <;> rfl
  have hp : Part.classifier ∉ tableParts i.table.toNat := by
    unfold tableParts
    split <;> first | exact absurd ‹_› h1 | exact absurd ‹_› h2 | decide
  rw [(applyWrite_parts i s).classifier hp]

theorem applyWrite_seats (i : WriteItem) : (applyWrite i s).1.resv = s.resv := by
  by_cases h3 : i.table.toNat = 3
  · rw [applyWrite_seatmap h3, writeSeatmap_locked h]
  · refine (applyWrite_parts i s).resv ?_
    unfold tableParts
    split <;> first | exact absurd ‹_› h3 | decide

theorem applyWrite_lines_locked (i : WriteItem) : (applyWrite i s).1.scanner.lines = s.scanner.lines := by
  by_cases h6 : i.table.toNat = 6
  · rw [applyWrite_lines h6, writeLines_locked h]
  · exact (ScannerKept.applyWrite h6 s).lines

/-- No item changes what the lock freezes. -/
theorem lockedSince_applyWrite (i : WriteItem) : LockedSince s (applyWrite i s).1 := by
  have hdoors : (applyWrite i s).1.tracker.doorL.mode = s.tracker.doorL.mode ∧
      (applyWrite i s).1.tracker.doorR.mode = s.tracker.doorR.mode := by
    by_cases h7 : i.table.toNat = 7
    · rw [applyWrite_doors h7, writeDoors_locked h]
      exact ⟨rfl, rfl⟩
    · have k := TrackerKept.applyWrite h7 s
      exact ⟨k.modeL, k.modeR⟩
  obtain ⟨hL, hR⟩ := hdoors
  exact lockedSince_of h (.applyWrite i s) (applyWrite_heldSettings h i) (applyWrite_entries h i)
    (by rw [applyWrite_seats h]) (applyWrite_lines_locked h i) hL hR

end Locked

theorem LockedSince.refl {s : State} (h : s.Held) : LockedSince s s := ⟨h, .refl s⟩

theorem LockedSince.trans {s t u : State} (h : LockedSince s t) (k : LockedSince t u) : LockedSince s u :=
  ⟨k.1, h.2.trans k.2⟩

/-- A change of parts that the lock does not reach. -/
theorem LockedSince.of_unchanged {ps : List Part} {s t : State} (h : s.Held) (hu : UnchangedBut ps s t)
    (hp : ∀ q ∈ [Part.link, .classifier, .tracker, .resv, .scanner, .panels, .mgmt], q ∉ ps) : LockedSince s t := by
  refine ⟨?_, ?_⟩
  · unfold State.Held
    rw [hu.mgmt (hp _ (by decide))]
    exact h
  · unfold LockedSame State.panel
    rw [hu.link (hp _ (by decide)), hu.classifier (hp _ (by decide)), hu.tracker (hp _ (by decide)),
      hu.resv (hp _ (by decide)), hu.scanner (hp _ (by decide)), hu.panels (hp _ (by decide)),
      hu.mgmt (hp _ (by decide))]
    exact LockedSame.refl s

theorem lockedSince_recorded {s : State} (h : s.Held) (r : ItemResult) : LockedSince s (s.recorded r) :=
  ⟨h, .refl s⟩

theorem lockedSince_mgmtWriteItem {s : State} (h : s.Held) (job : WriteJob) :
    Ends (LockedSince s) (execMgmtWriteItem job s) := by
  refine execMgmtWriteItem_induct (P := LockedSince s) (.refl h) (fun c t hh => ?_)
    (fun i t k => k.trans (lockedSince_applyWrite k.1 i)) (fun c as t k => k.trans ?_)
    (fun r t k => k.trans (lockedSince_recorded k.1 r)) job
  · have hu := mgmtHead_keeps (ps := [.classifier]) hh (by decide)
    have he : t.classifier.entries = s.classifier.entries := by
      unfold mgmtHead at hh
      repeat' split at hh
      all_goals cases hh
      rfl
    refine lockedSince_of h (.of_unchanged hu) (fun p => ?_) he ?_ ?_ ?_ ?_
    · rw [State.port, hu.link (by decide)]
      rfl
    · rw [hu.resv (by decide)]
    · rw [hu.scanner (by decide)]
    · rw [hu.tracker (by decide)]
    · rw [hu.tracker (by decide)]
  · have hu := reply_keeps (c := c) (as := as) (.refl [.link, .mgmt] t)
    refine lockedSince_of k.1 (.offerReply _ _ t) (fun p => ?_) ?_ ?_ ?_ ?_ ?_
    · exact (LinkKept.offerReply t _ _).held p
    · rw [hu.classifier (by decide)]
    · rw [hu.resv (by decide)]
    · rw [hu.scanner (by decide)]
    · rw [hu.tracker (by decide)]
    · rw [hu.tracker (by decide)]

/-! ### Door modes -/

/-- The door modes are those of `s`. -/
def SameModes (s t : State) : Prop :=
  t.tracker.doorL.mode = s.tracker.doorL.mode ∧ t.tracker.doorR.mode = s.tracker.doorR.mode

theorem sameModes_readsOnly (s : State) : ReadsOnly [.tracker] (SameModes s) := fun hq h hs => by
  unfold SameModes
  rw [h.tracker (hq _ (by decide))]
  exact hs

theorem SameModes.handover {s t : State} (k : LoadClass) (f : Frame) (n : Nat) (v : List Byte) (h : SameModes s t) :
    SameModes s (handover k f n v t) := by
  refine ReadsOnly.handover (sameModes_readsOnly s) (by decide) (fun k t ht => ?_) (fun k e b v t u ht hj => ?_) k f n v t h
  · exact sameModes_readsOnly s (by decide) (catchUp_keeps (.refl [.notices, .resv, .panels, .reports] t)) ht
  · unfold SameModes
    obtain he | he | ⟨j, -, he⟩ := judge_tracker hj
    · rw [he]
      exact ht
    · rw [he]
      exact ht
    · rw [he]
      exact ht

/-- Without a write of its own, a command leaves the door modes. -/
theorem exec_sameModes {c : Instr} (h1 : c ≠ .pinReset) (h2 : ∀ i v, c ≠ .doorsWrite i v)
    (h3 : ∀ j, c ≠ .mgmtWriteItem j) (s : State) : Ends (SameModes s) (exec c s) := by
  by_cases hc : WritesTracker c
  · cases hc with
    | pinReset => exact absurd rfl h1
    | doorsWrite i v => exact absurd rfl (h2 i v)
    | mgmtWriteItem j => exact absurd rfl (h3 j)
    | batchSingle => exact ReadsOnly.batchSingle (sameModes_readsOnly s) (by decide) ⟨rfl, rfl⟩ fun k f n v t h => h.handover k f n v
    | batchEnd => exact ReadsOnly.batchEnd (sameModes_readsOnly s) (by decide) ⟨rfl, rfl⟩ fun k f n v t h => h.handover k f n v
    | softResetEffects =>
      by_cases hd : s.mgmt.drained = true
      · obtain ⟨t, he, ht⟩ := softReset_tracker s hd
        refine ⟨t, he, ?_⟩
        unfold SameModes
        rw [ht]
        exact ⟨rfl, rfl⟩
      · exact ⟨s, softResetEffects_none hd, rfl, rfl⟩
  · exact (exec_trackerKept hc s).mono fun t k => ⟨k.modeL, k.modeR⟩

/-! ### Every command under the lock -/

theorem slotsLaw_reset : SlotsLaw State.reset := fun _ h => absurd h List.not_mem_nil

theorem exec_lockedSince {c : Instr} (hc : c ≠ .pinReset) {s : State} (h : s.Held) :
    Ends (LockedSince s) (exec c s) := by
  have answered_same {a : State × ItemResult} (ha : a.1 = s) : Ends (LockedSince s) (answered a) := by
    refine .next ?_
    rw [ha]
    exact lockedSince_recorded h _
  by_cases w1 : WritesHeld c
  · cases w1 with
    | pinReset => exact absurd rfl hc
    | settingsLoadEnd answer =>
      refine ⟨s, ?_, .refl h⟩
      show execSettingsLoadEnd answer s = .next s
      unfold execSettingsLoadEnd
      rw [if_neg (by simp [h.2])]
    | portSettingsWrite i v => exact answered_same (writePortSettings_locked h _ _)
    | mgmtWriteItem job => exact lockedSince_mgmtWriteItem h job
  by_cases w2 : WritesEntries c
  · cases w2 with
    | pinReset => exact absurd rfl hc
    | classifyWrite i v => exact answered_same (writeClassify_locked h _ _)
    | mgmtWriteItem job => exact lockedSince_mgmtWriteItem h job
  by_cases w3 : WritesSeats c
  · cases w3 with
    | pinReset => exact absurd rfl hc
    | seatmapWrite i v => exact answered_same (writeSeatmap_locked h _ _)
    | mgmtWriteItem job => exact lockedSince_mgmtWriteItem h job
  by_cases w4 : WritesLines c
  · cases w4 with
    | pinReset => exact absurd rfl hc
    | linesWrite i v => exact answered_same (writeLines_locked h _ _)
    | mgmtWriteItem job => exact lockedSince_mgmtWriteItem h job
  by_cases w5 : ∃ i v, c = .doorsWrite i v
  · obtain ⟨i, v, rfl⟩ := w5
    exact answered_same (writeDoors_locked h _ _)
  have w6 (j : WriteJob) : c ≠ .mgmtWriteItem j := by
    rintro rfl
    exact w1 (.mgmtWriteItem j)
  obtain ⟨t, ht, hd⟩ := exec_drawingKept hc s
  have hlink := (exec_linkKept w1 s).of_eq ht
  have hmodes := (exec_sameModes hc (fun i v he => w5 ⟨i, v, he⟩) w6 s).of_eq ht
  exact ⟨t, ht, lockedSince_of h hd hlink.held ((exec_intakesKept w2 s).of_eq ht).entries
    ((exec_resvKept w3 s).of_eq ht).seats.numbers ((exec_scannerKept w4 s).of_eq ht).lines hmodes.1 hmodes.2⟩

end Sys2Proof.Machine

namespace Sys2Proof

open Sys2Proof.Machine

/-- Settles O10: segments come in lawful and without overlap, and every other event only takes some away. -/
theorem seatsLawIsKept : Obligations.SeatsLawIsKept := fun _ _ h hs =>
  seatsLaw_readsOnly.step (by decide)
    (fun c s _ => exec_keeps_resvLaw seatsLaw_readsOnly (fun _ => .next seatsLaw_reset)
      (fun _ _ k => k.seats.law) (fun i v _ h => h.writeSeatmap i v) c s) h hs

/-- Settles O11: each event ends with the image worked out, the frame's row driven, and pixels in their order. -/
theorem imageScannerAndPagesKeepTheirLaws : Obligations.ImageScannerAndPagesKeepTheirLaws := by
  refine ⟨fun _ _ h hs => ?_, fun _ _ h hs => ?_, fun _ _ h hs => ?_⟩
  · exact imageLaw_readsOnly.step (by decide)
      (fun c s _ => exec_keeps_resvLaw imageLaw_readsOnly (fun _ => .next imageLaw_reset)
        (fun _ _ k => k.image) (fun i v _ h => h.writeSeatmap i v) c s) h hs
  · exact scannerLaw_readsOnly.step (by decide) (fun c s _ => exec_keeps_scannerLaw c s) h hs
  · exact pagesLaw_readsOnly.step (by decide)
      (fun c s _ => ends_of_drawingKept (fun _ => .next pagesLaw_reset) (fun _ _ k => k.pages) c s) h hs

/-- Settles O14: under the lock an item of a locked table leaves the state, and no other event writes one. -/
theorem serviceLockHolds : Obligations.ServiceLockHolds := fun _ _ _ hc hl ho ht => by
  obtain ⟨⟨h1, h2⟩, h3⟩ := (exec_lockedSince hc ⟨hl, ho⟩).of_eq ht
  exact ⟨h1, h2, h3⟩

/-- Settles O4: each block's law of its values after a pin reset. -/
theorem resetStateIsLawful : Obligations.ResetStateIsLawful :=
  ⟨linkFits_reset, intakesFit_reset, classifierLaw_reset, consistLaw_reset, slotsLaw_reset, trackerLaw_reset,
    noticeLaw_reset, seatsLaw_reset, imageLaw_reset, scannerLaw_reset, engineLaw_reset, panelsLaw_reset,
    pagesLaw_reset, reportsLaw_reset⟩

end Sys2Proof
end

section
/-! Proofs for the Reservation Unit's events, its operations, and the RESERVATIONS load. -/

namespace Sys2Proof.Machine


open Sys2Proof

/-! ## Flush (section 7.4) -/

/-- A position that is UNKNOWN shows its service state and number alone (rows 1 to 3 of R134). -/
theorem lampOf_flushed (j : Option ResvJourney) (x : Seat) :
    lampOf j { x with segments := [], data := .unknown } =
      if x.number = 0 then .dark else if x.service = .outOfService then .blocked else .unknown := by
  unfold lampOf
  split
  · rfl
  · split <;> rfl

theorem actResv_flushed (j : Option ResvJourney) (r : Resv) :
    ({ r.flush with journey := j } : Resv).relamp =
      { seats := r.seats.map (fun x => { x with segments := [], data := .unknown }), journey := j,
        image := r.seats.map (fun x =>
          if x.number = 0 then .dark else if x.service = .outOfService then .blocked else .unknown),
        inbox := r.inbox } := by
  simp only [Resv.relamp, Resv.flush, List.map_map, Function.comp_def, lampOf_flushed]

theorem actResv_advance (c n : Nat) (r : Resv) : actResv (.advance c n) r =
    let j := r.journey.map (fun k => { k with c := c, n := n })
    let seats := r.seats.map (fun x => { x with segments := x.segments.filter (fun g => decide (c < g.toStop)) })
    { seats := seats, journey := j, image := seats.map (lampOf j), inbox := r.inbox } := rfl

section Flush

variable {s : State} {rest : List ResvMsg}

theorem exec_flush_journey {j : ResvJourney} (h : s.resv.inbox = .journey j :: rest) :
    exec .flush s = .next { s with resv := actResv (.journey j) { s.resv with inbox := rest } } := by
  simp only [exec, execFlush, h]

theorem exec_flush_closed (h : s.resv.inbox = .closed :: rest) :
    exec .flush s = .next { s with resv := actResv .closed { s.resv with inbox := rest } } := by
  simp only [exec, execFlush, h]

theorem exec_flush_labelChange (h : s.resv.inbox = .labelChange :: rest) :
    exec .flush s = .next { s with resv := actResv .labelChange { s.resv with inbox := rest } } := by
  simp only [exec, execFlush, h]

theorem exec_purge {c n : Nat} (h : s.resv.inbox = .advance c n :: rest) :
    exec .purge s = .next { s with resv := actResv (.advance c n) { s.resv with inbox := rest } } := by
  simp only [exec, execPurge, h]

end Flush

/-! ## The seat that a number names (R122) -/

theorem updAt_eq_set {α : Type} {i : Nat} {l : List α} {x : α} (f : α → α) (h : l[i]? = some x) :
    updAt i f l = l.set i (f x) := by
  rw [updAt_eq_modify]
  exact List.modify_eq_set_getElem? ..|>.trans (by rw [h]; rfl)

theorem findSeat_none {seats : List Seat} {n : Nat} (h : n = 0 ∨ ∀ x ∈ seats, x.number ≠ n) :
    findSeat seats n = none := by
  unfold findSeat
  split
  · rfl
  · next h0 =>
    exact List.findIdx?_eq_none_iff.2 fun x hx => by simpa using (h.resolve_left h0) x hx

theorem findSeat_of_unique {seats : List Seat} {n i : Nat} {x : Seat} (h0 : n ≠ 0) (hx : seats[i]? = some x)
    (hn : x.number = n) (hu : ∀ i' x', seats[i']? = some x' → x'.number = n → i' = i) :
    findSeat seats n = some i := by
  cases hf : findSeat seats n with
  | some k =>
    obtain ⟨-, y, hy, hny⟩ := findSeat_some hf
    rw [hu k y hy hny]
  | none =>
    unfold findSeat at hf
    rw [if_neg h0] at hf
    have := List.findIdx?_eq_none_iff.1 hf x (List.mem_of_getElem? hx)
    simp [hn] at this

/-! ## Operations on the seat found -/

section Found

variable {seats : List Seat} {n i : Nat} {x : Seat} (j : ResvJourney) (hf : findSeat seats n = some i)
  (hx : seats[i]? = some x)

include hf hx

theorem applyOp_clearSeat : applyOp j (.clearSeat n) seats = (seats.set i { x with segments := [], data := .known }, .ok) := by
  simp only [applyOp, hf, updAt_eq_set _ hx]

theorem applyOp_seatService (v : ServiceState) :
    applyOp j (.seatService n v) seats = (seats.set i { x with service := v }, .ok) := by
  simp only [applyOp, hf, updAt_eq_set _ hx]

theorem applyOp_release (f : Nat) : applyOp j (.release n f) seats =
    if x.segments.any (fun g => decide (g.fromStop = f)) then
      (seats.set i { x with segments := x.segments.filter (fun g => decide (g.fromStop ≠ f)) }, .ok)
    else (seats, .notFound) := by
  simp only [applyOp, hf, updAt_eq_set _ hx, List.getD_eq_getElem?_getD, hx, Option.getD_some]

omit hx in
theorem applyOp_reserve (f t : Nat) (tag : Option Nat) :
    applyOp j (.reserve n f t tag) seats = applyReserve j i f t tag seats := by
  simp only [applyOp, hf]

end Found

theorem getD_pass_of_stop {l : List StopKind} {i : Nat} (h : l[i]? = some .stop) : l.getD i .pass ≠ .pass := by
  rw [List.getD_eq_getElem?_getD, h]
  decide

theorem overlapsAny_iff {f t : Nat} {l : List Segment} :
    overlapsAny f t l = true ↔ ∃ g ∈ l, f < g.toStop ∧ g.fromStop < t := by
  simp [overlapsAny]

section Reserve

variable {j : ResvJourney} {i f t : Nat} {tag : Option Nat} {seats : List Seat} {x : Seat}

theorem applyReserve_badRange (h : ¬ (f < t ∧ t < j.kinds.length)) :
    applyReserve j i f t tag seats = (seats, .badRange) := if_pos (by omega)

variable (hr : f < t ∧ t < j.kinds.length)

include hr

theorem applyReserve_passStop (h : ¬ (j.kinds[f]? = some .stop ∧ j.kinds[t]? = some .stop)) :
    applyReserve j i f t tag seats = (seats, .passStop) := by
  refine (if_neg (by omega)).trans (if_pos ?_)
  by_contra hn
  obtain ⟨hf, ht⟩ := not_or.1 hn
  exact h ⟨stop_of_getD_ne_pass hf, stop_of_getD_ne_pass ht⟩

variable (hf : j.kinds[f]? = some .stop) (ht : j.kinds[t]? = some .stop)

include hf ht

theorem applyReserve_stops : applyReserve j i f t tag seats =
    if t ≤ j.c then (seats, .stale)
    else if overlapsAny f t (seats.getD i {}).segments then (seats, .overlap)
    else if 384 ≤ inUse seats then (seats, .poolFull)
    else (updAt i (fun x => { x with
      segments := insertSegment { fromStop := f, toStop := t, tag := tag } x.segments }) seats, .ok) :=
  (if_neg (by omega)).trans (if_neg (not_or.2 ⟨getD_pass_of_stop hf, getD_pass_of_stop ht⟩))

theorem applyReserve_stale (h : t ≤ j.c) : applyReserve j i f t tag seats = (seats, .stale) := by
  rw [applyReserve_stops hr hf ht, if_pos h]

variable (hc : j.c < t) (hx : seats[i]? = some x)

include hc hx

theorem applyReserve_beyond : applyReserve j i f t tag seats =
    if overlapsAny f t x.segments then (seats, .overlap)
    else if 384 ≤ inUse seats then (seats, .poolFull)
    else (seats.set i { x with
      segments := insertSegment { fromStop := f, toStop := t, tag := tag } x.segments }, .ok) := by
  rw [applyReserve_stops hr hf ht, if_neg (by omega), updAt_eq_set _ hx, List.getD_eq_getElem?_getD, hx]
  rfl

end Reserve

end Sys2Proof.Machine

namespace Sys2Proof

open Sys2Proof.Machine

/-- Settles O40: what each message does to the unit, and each operation to the seat that its number names. -/
theorem segmentsAreFlushedPurgedAndChanged : Obligations.SegmentsAreFlushedPurgedAndChanged := by
  refine ⟨fun rest s => ⟨fun j h => ?_, fun h => ?_, fun h => ?_, fun c n h => ?_⟩, fun j seats => ⟨fun _ => rfl, fun seat => ⟨fun h => ?_, fun i x h0 hx hn hu => ?_⟩⟩⟩
  · rw [exec_flush_journey h, actResv, actResv_flushed]
  · rw [exec_flush_closed h, actResv, actResv_flushed]
  · rw [exec_flush_labelChange h]
    exact congrArg (fun r => Host.Outcome.next { s with resv := r }) (actResv_flushed s.resv.journey { s.resv with inbox := rest })
  · exact exec_purge h
  · have hf := findSeat_none h
    refine ⟨fun f t tag => ?_, fun f => ?_, ?_, fun v => ?_⟩ <;> simp only [applyOp, hf]
  · have hf := findSeat_of_unique h0 hx hn hu
    refine ⟨applyOp_clearSeat j hf hx, applyOp_seatService j hf hx, fun f => ⟨fun h => ?_, fun h => ?_⟩, fun f t tag => ?_⟩
    · rw [applyOp_release j hf hx, if_pos (by simpa using h)]
    · rw [applyOp_release j hf hx, if_neg (by simpa using h)]
    · dsimp only
      rw [applyOp_reserve j hf]
      refine ⟨applyReserve_badRange, applyReserve_passStop, applyReserve_stale, fun hr h1 h2 hc ho => ?_,
        fun hr h1 h2 hc ho hp => ?_, fun hr h1 h2 hc ho hp => ?_⟩
      · rw [applyReserve_beyond hr h1 h2 hc hx, if_pos (overlapsAny_iff.2 ho)]
      · rw [applyReserve_beyond hr h1 h2 hc hx, if_neg (mt overlapsAny_iff.1 ho),
          if_pos (show 384 ≤ inUse seats from hp)]
      · rw [applyReserve_beyond hr h1 h2 hc hx, if_neg (mt overlapsAny_iff.1 ho),
          if_neg (Nat.not_le.2 (show inUse seats < 384 from hp)), insertSegment_eq]

end Sys2Proof
end

section
/-! Proofs for the RESERVATIONS load (sections 7.3.2 and 7.3.3). -/

namespace Sys2Proof.Machine


open Sys2Proof

/-! ## The structural checks (R121) -/

/-- The tag field is a present tag of 1..65,535. -/
def tagged (bs : List Byte) : Prop := natAt bs 4 1 = 1 ∧ natAt bs 6 2 ≠ 0

theorem tagOf_of_tagged {bs : List Byte} (h : tagged bs) : tagOf bs = some (some (natAt bs 6 2)) := by
  obtain ⟨h1, h2⟩ := h
  simp [tagOf, h1, h2]

theorem tagOf_of_absent {bs : List Byte} (h : natAt bs 4 1 = 0) : tagOf bs = some none := by simp [tagOf, h]

theorem tagOf_none {bs : List Byte} (h0 : natAt bs 4 1 ≠ 0) (h : ¬ tagged bs) : tagOf bs = none := by
  exact (if_neg h0).trans (if_neg h)

/-- The bytes pass the structural checks of an operation. -/
def LawfulRecord (bs : List Byte) : Prop :=
  (natAt bs 0 1 = 0 ∧ (natAt bs 4 1 = 0 ∨ tagged bs)) ∨ natAt bs 0 1 = 1 ∨ natAt bs 0 1 = 2 ∨
    (natAt bs 0 1 = 3 ∧ tagged bs) ∨ (natAt bs 0 1 = 4 ∧ natAt bs 5 1 ≤ 1)

theorem opOf_isSome_iff {bs : List Byte} : (opOf bs).isSome = true ↔ LawfulRecord bs := by
  unfold opOf LawfulRecord
  split
  · next h =>
    rw [h]
    by_cases h0 : natAt bs 4 1 = 0
    · simp [tagOf_of_absent h0, h0]
    · by_cases ht : tagged bs
      · simp [tagOf_of_tagged ht, ht]
      · simp [tagOf_none h0 ht, ht, h0]
  · next h => simp [h]
  · next h => simp [h]
  · next h =>
    rw [h]
    by_cases ht : tagged bs
    · simp [tagOf_of_tagged ht, ht]
    · by_cases h0 : natAt bs 4 1 = 0
      · simp [tagOf_of_absent h0, ht]
      · simp [tagOf_none h0 ht, ht]
  · next h =>
    rw [h]
    split
    · next h5 => simp [h5]
    · next h5 => simp [h5]
    · next h5 h6 =>
      replace h5 : natAt bs 5 1 ≠ 0 := h5
      replace h6 : natAt bs 5 1 ≠ 1 := h6
      have : ¬ natAt bs 5 1 ≤ 1 := by omega
      simp [this]
  · next h0 h1 h2 h3 h4 =>
    replace h0 : natAt bs 0 1 ≠ 0 := h0
    replace h1 : natAt bs 0 1 ≠ 1 := h1
    replace h2 : natAt bs 0 1 ≠ 2 := h2
    replace h3 : natAt bs 0 1 ≠ 3 := h3
    replace h4 : natAt bs 0 1 ≠ 4 := h4
    simp [h0, h1, h2, h3, h4]

theorem opOf_reserve {bs : List Byte} (h : natAt bs 0 1 = 0) (hl : natAt bs 4 1 = 0 ∨ tagged bs) :
    opOf bs = some (.reserve (natAt bs 1 1) (natAt bs 2 1) (natAt bs 3 1)
      (if natAt bs 4 1 = 0 then none else some (natAt bs 6 2))) := by
  simp only [opOf, h]
  by_cases h0 : natAt bs 4 1 = 0
  · rw [tagOf_of_absent h0, if_pos h0]
    rfl
  · rw [tagOf_of_tagged (hl.resolve_left h0), if_neg h0]
    rfl

theorem opsOf_ok : {l : List (List Byte)} → {ops : List ResvOp} → (k : Nat) → l.map opOf = ops.map some →
    opsOf k l = .ok ops
  | [], [], _, _ => rfl
  | [], _ :: _, _, h => by simp at h
  | _ :: _, [], _, h => by simp at h
  | bs :: l, op :: ops, k, h => by
    obtain ⟨h1, h2⟩ := List.cons.inj h
    rw [opsOf, h1, opsOf_ok (k + 1) h2]
    rfl

/-- The first record that fails is told by its number. -/
theorem opsOf_error : {l : List (List Byte)} → (k m : Nat) → (hm : m < l.length) → opOf l[m] = none →
    (∀ (i : Nat) (hi : i < m), (opOf l[i]).isSome = true) → opsOf k l = .error (k + m)
  | bs :: l, k, 0, _, h, _ => by
    replace h : opOf bs = none := h
    rw [opsOf, h]
    rfl
  | bs :: l, k, m + 1, hm, h, hb => by
    obtain ⟨op, hop⟩ := Option.isSome_iff_exists.1 (hb 0 (Nat.succ_pos m))
    replace hop : opOf bs = some op := hop
    have hrest := opsOf_error (k + 1) m (Nat.lt_of_succ_lt_succ hm) h fun i hi => hb (i + 1) (Nat.succ_lt_succ hi)
    rw [opsOf, hop, hrest]
    show Except.error _ = Except.error _
    congr 1
    omega

/-! ## Operations one after another -/

theorem applyReserve_kept_or_ok (j : ResvJourney) (i f t : Nat) (tag : Option Nat) (seats : List Seat) :
    (applyReserve j i f t tag seats).1 = seats ∨ (applyReserve j i f t tag seats).2 = .ok := by
  unfold applyReserve
  dsimp only
  repeat' split
  all_goals simp

/-- An operation that is refused changes no position. -/
theorem applyOp_refused {j : ResvJourney} {op : ResvOp} {seats : List Seat} (h : (applyOp j op seats).2 ≠ .ok) :
    (applyOp j op seats).1 = seats := by
  refine Or.resolve_right ?_ h
  unfold applyOp
  cases op with
  | dropTag tag => exact .inr rfl
  | reserve seat f t tag =>
    dsimp only
    split
    · exact .inl rfl
    · exact applyReserve_kept_or_ok j _ f t tag seats
  | release seat f =>
    dsimp only
    repeat' split
    all_goals simp
  | clearSeat seat =>
    dsimp only
    split <;> simp
  | seatService seat v =>
    dsimp only
    split <;> simp

/-- The seat table after the first `k` operations. -/
def seatsAfter (j : ResvJourney) (ops : List ResvOp) (seats : List Seat) (k : Nat) : List Seat :=
  (ops.take k).foldl (fun x op => (applyOp j op x).1) seats

/-- The result of operation `k`, counting from 0. -/
def resultAt (j : ResvJourney) (ops : List ResvOp) (seats : List Seat) (k : Nat) : ResvResult :=
  (ops[k]?.map (fun op => (applyOp j op (seatsAfter j ops seats k)).2)).getD .ok

/-- The operations that were refused, by their places. -/
def refused (j : ResvJourney) (ops : List ResvOp) (seats : List Seat) : List Nat :=
  (List.range ops.length).filter fun k => decide (resultAt j ops seats k ≠ .ok)

section Runs

variable (j : ResvJourney) (op : ResvOp) (ops : List ResvOp) (seats : List Seat)

theorem resultAt_succ (k : Nat) :
    resultAt j (op :: ops) seats (k + 1) = resultAt j ops (applyOp j op seats).1 k := rfl

theorem refused_cons : refused j (op :: ops) seats =
    (if (applyOp j op seats).2 ≠ .ok then [0] else []) ++ (refused j ops (applyOp j op seats).1).map (· + 1) := by
  have h0 : resultAt j (op :: ops) seats 0 = (applyOp j op seats).2 := rfl
  have hrest : (List.map Nat.succ (List.range ops.length)).filter
      (fun k => decide (resultAt j (op :: ops) seats k ≠ .ok)) =
      (refused j ops (applyOp j op seats).1).map (· + 1) := by
    rw [List.filter_map]
    rfl
  unfold refused at hrest ⊢
  rw [List.length_cons, List.range_succ_eq_map, List.filter_cons, hrest, h0]
  by_cases h : (applyOp j op seats).2 ≠ .ok
  · rw [if_pos (decide_eq_true h), if_pos h]
    rfl
  · rw [if_neg (by simpa using h), if_neg h]
    rfl

end Runs

/-- An INCREMENTAL load applies its records in turn, and counts the refused ones. -/
theorem applyEach_eq (j : ResvJourney) : (ops : List ResvOp) → (k : Nat) → (seats : List Seat) → (fs : Failures) →
    applyEach j k ops seats fs = (seatsAfter j ops seats ops.length,
      { first := fs.first.orElse fun _ => (refused j ops seats).head?.map fun i => (k + i, resultAt j ops seats i)
        count := fs.count + (refused j ops seats).length })
  | [], k, seats, fs => by
    rw [applyEach]
    cases fs with
    | mk first count => cases first <;> rfl
  | op :: ops, k, seats, fs => by
    have hnext (u : List Seat) (gs : Failures) := applyEach_eq j ops (k + 1) u gs
    rw [applyEach, refused_cons]
    split
    · next seats' he =>
      have h1 : (applyOp j op seats).1 = seats' := by rw [he]
      have h2 : (applyOp j op seats).2 = .ok := by rw [he]
      rw [hnext, if_neg (by rw [h2]; decide), h1]
      have hidx (i : Nat) : k + 1 + i = k + (i + 1) := by omega
      simp only [List.nil_append, List.length_map, List.head?_map, Option.map_map, Function.comp_def,
        resultAt_succ, h1, hidx]
      rw [show seatsAfter j (op :: ops) seats (op :: ops).length = seatsAfter j ops seats' ops.length by
        rw [← h1]; rfl]
    · next r hr he =>
      have h2 : (applyOp j op seats).2 = r := by rw [he]
      have hbad : (applyOp j op seats).2 ≠ .ok := by
        rw [h2]
        rintro rfl
        exact hr rfl
      have h1 := applyOp_refused hbad
      rw [hnext, if_pos hbad, h1]
      simp only [List.singleton_append, List.head?_cons, Option.map_some, List.length_cons, List.length_map]
      rw [show seatsAfter j (op :: ops) seats (ops.length + 1) = seatsAfter j ops seats ops.length by
        show seatsAfter j ops (applyOp j op seats).1 ops.length = _
        rw [h1], show resultAt j (op :: ops) seats 0 = r from h2]
      cases fs.first with
      | none => simp [Nat.add_assoc, Nat.add_comm]
      | some a => simp [Nat.add_assoc, Nat.add_comm]

/-- A REPLACE load stops at its first refused record. -/
theorem applyAll_eq (j : ResvJourney) : (ops : List ResvOp) → (k : Nat) → (seats : List Seat) →
    applyAll j k ops seats = match (refused j ops seats).head? with
      | none => .ok (seatsAfter j ops seats ops.length)
      | some i => .error (k + i, resultAt j ops seats i)
  | [], k, seats => rfl
  | op :: ops, k, seats => by
    rw [applyAll, refused_cons]
    split
    · next seats' he =>
      have h1 : (applyOp j op seats).1 = seats' := by rw [he]
      have h2 : (applyOp j op seats).2 = .ok := by rw [he]
      rw [applyAll_eq j ops (k + 1) seats', if_neg (by rw [h2]; decide), h1, List.nil_append, List.head?_map]
      have hidx (i : Nat) : k + 1 + i = k + (i + 1) := by omega
      cases (refused j ops seats').head? with
      | none =>
        show Except.ok _ = Except.ok _
        rw [← h1]
        rfl
      | some i => simp [resultAt_succ, h1, hidx]
    · next r hr he =>
      have h2 : (applyOp j op seats).2 = r := by rw [he]
      have hbad : (applyOp j op seats).2 ≠ .ok := by
        rw [h2]
        rintro rfl
        exact hr rfl
      rw [if_pos hbad]
      show Except.error _ = Except.error _
      rw [show resultAt j (op :: ops) seats 0 = r from h2]
      rfl

/-! ## The unit's verdict -/

theorem splitOpens_none : {ms : List ResvMsg} → (∀ m ∈ ms, m.opens = false) → splitOpens ms = none
  | [], _ => rfl
  | m :: ms, h => by
    rw [splitOpens, splitOpens_none fun x hx => h x (List.mem_cons_of_mem m hx), h m List.mem_cons_self]
    rfl

theorem catchUp_reservations {s : State} (h : ∀ m ∈ s.resv.inbox, m.opens = false) :
    catchUp .reservations s = s := by
  show catchUpResv s = s
  unfold catchUpResv
  rw [splitOpens_none h]

section Verdict

variable {e : TrainEnd} {b : Byte} {v : List Byte} {s : State}

theorem loadReservations_fault {c : Cause} (h : resvHeaderFault v s.resv.journey = some c) :
    loadReservations e b v s = .rejected c 0 := by
  unfold loadReservations
  rw [h]

variable {j : ResvJourney} (hj : s.resv.journey = some j) (hh : resvHeaderFault v s.resv.journey = none)

include hj hh

theorem loadReservations_badRecord {k : Nat} (h : opsOf 1 (resvRecords v) = .error k) :
    loadReservations e b v s = .rejected .range k := by
  unfold loadReservations
  rw [hh, hj]
  simp only [h]

variable {ops : List ResvOp} (ho : opsOf 1 (resvRecords v) = .ok ops)

include ho

theorem loadReservations_incremental (hm : natAt v 2 1 = 0) : loadReservations e b v s =
    .committed (reportFailures e b (applyEach j 1 ops s.resv.seats {}).2
      (commitSeats (applyEach j 1 ops s.resv.seats {}).1 s)) := by
  unfold loadReservations
  rw [hh, hj]
  simp only [ho, if_pos hm]

theorem loadReservations_replace (hm : natAt v 2 1 = 1) : loadReservations e b v s =
    match (refused j ops (emptied s.resv.seats)).head? with
    | none => .committed (commitSeats (allKnown (seatsAfter j ops (emptied s.resv.seats) ops.length)) s)
    | some i => .rejected (.resv (resvResultCode (resultAt j ops (emptied s.resv.seats) i))) (1 + i) := by
  unfold loadReservations
  rw [hh, hj]
  simp only [ho, if_neg (show ¬ natAt v 2 1 = 0 by omega), applyAll_eq]
  cases (refused j ops (emptied s.resv.seats)).head? <;> rfl

end Verdict

theorem commitSeats_eq {s : State} {j : ResvJourney} (hj : s.resv.journey = some j) (seats : List Seat) :
    commitSeats seats s = { s with resv := { seats := seats, journey := some j
                                             image := seats.map (lampOf (some j)), inbox := s.resv.inbox } } := by
  unfold commitSeats Resv.relamp
  rw [hj]

theorem head?_refused_none {j : ResvJourney} {ops : List ResvOp} {seats : List Seat}
    (h : ∀ k, k < ops.length → resultAt j ops seats k = .ok) : (refused j ops seats).head? = none := by
  unfold refused
  rw [List.filter_eq_nil_iff.2 fun k hk => by simpa using h k (List.mem_range.1 hk)]
  rfl

theorem head?_refused_some {j : ResvJourney} {ops : List ResvOp} {seats : List Seat} {k : Nat} (hk : k < ops.length)
    (hb : ∀ i, i < k → resultAt j ops seats i = .ok) (h : resultAt j ops seats k ≠ .ok) :
    (refused j ops seats).head? = some k := by
  unfold refused
  rw [List.head?_filter, List.find?_range_eq_some]
  exact ⟨by simpa using h, List.mem_range.2 hk, fun i hi => by simpa using hb i hi⟩

end Sys2Proof.Machine

namespace Sys2Proof

open Sys2Proof.Machine

/-- Settles O41: the checks in their order, then the records in turn, each met by what those before it left. -/
theorem reservationsLoadIsApplied : Obligations.ReservationsLoadIsApplied := by
  intro cmd f content parts s t hands hinbox count whole mode record rejects
  have hkeep := hands_keeps hands
  have hresv : t.resv = s.resv := hkeep.resv (by decide)
  have hdrain : t.mgmt.draining = false := by
    rw [hkeep.mgmt (by decide)]
    exact hands.1
  have hcatch : catchUp .reservations t = t := catchUp_reservations (by rwa [hresv])
  have hreject {c : Cause} {i : Nat} (hv : loadReservations f.origin f.batchId content t = .rejected c i) :
      rejects (causeCode c) i := hands_rejected hands hcatch hv hdrain
  refine ⟨fun hw => ?_, fun hw hm => ?_, fun hw hm hj => ?_, fun hw hm j hj hid => ?_⟩
  · refine hreject (c := .length) (loadReservations_fault (if_pos ?_))
    omega
  · refine hreject (c := .range) (loadReservations_fault ((if_neg ?_).trans (if_pos hm)))
    omega
  · refine hreject (c := .wrongJourney) (loadReservations_fault ?_)
    refine (if_neg ?_).trans ((if_neg ?_).trans ?_)
    · omega
    · omega
    · rw [hresv]
      cases hjo : s.resv.journey with
      | none => rfl
      | some j => exact if_pos (hj j hjo)
  · have hjt : t.resv.journey = some j := by rw [hresv, hj]
    have hhead : resvHeaderFault content t.resv.journey = none := by
      rw [hjt]
      refine (if_neg ?_).trans ((if_neg ?_).trans (if_neg (not_not.2 hid))) <;> omega
    have hlen : (resvRecords content).length = count := by simp [resvRecords, count]
    have hrec {k : Nat} (hk : k < (resvRecords content).length) : (resvRecords content)[k] = record k := by
      simp [resvRecords, record]
    intro lawful
    refine ⟨fun k hk hb hbad => ?_, fun ops hops => ?_, fun bs h0 hl => ?_⟩
    · have herr : opsOf 1 (resvRecords content) = .error (1 + k) := by
        refine opsOf_error 1 k (hlen ▸ hk) ?_ fun i hi => ?_
        · rw [hrec]
          exact Option.not_isSome_iff_eq_none.1 (mt opOf_isSome_iff.1 hbad)
        · rw [hrec]
          exact opOf_isSome_iff.2 (hb i hi)
      rw [Nat.add_comm]
      exact hreject (c := .range) (loadReservations_badRecord hjt hhead herr)
    · intro after result committed done
      have hokops : opsOf 1 (resvRecords content) = .ok ops := opsOf_ok 1 (by
        rw [← hops, resvRecords, List.map_map]
        rfl)
      have hn : ops.length = count := by simpa using (congrArg List.length hops).symm
      have hcommit (seats : List Seat) : commitSeats seats t = committed seats := by
        rw [commitSeats_eq hjt, hresv]
      have hdone {u : State} (hv : loadReservations f.origin f.batchId content t = .committed u)
          (hu : u.mgmt.draining = false) : done u := hands_committed hands hcatch hv hu
      refine ⟨fun hm0 => ?_, fun hm1 => ?_⟩
      · have hv := loadReservations_incremental (e := f.origin) (b := f.batchId) hjt hhead hokops hm0
        rw [applyEach_eq, hcommit, hresv, hn] at hv
        have hfailed : refused j ops s.resv.seats = (List.range count).filter
            (fun k => decide (result s.resv.seats k ≠ .ok)) := by
          rw [← hn]
          rfl
        intro failed u
        refine ⟨fun hnil => ?_, fun k rest hcons => ?_⟩
        · rw [hfailed.trans hnil] at hv
          exact hdone hv hdrain
        · rw [hfailed.trans hcons] at hv
          refine hdone (u := raise .resvError _ u) (hv.trans (congrArg Judged.committed ?_)) hdrain
          show raise _ ([_, _] ++ beBytes 2 (1 + k) ++ [_] ++ beBytes 2 (0 + (k :: rest).length)) u = _
          rw [hcons, Nat.add_comm 1 k, Nat.zero_add]
          rfl
      · have hv := loadReservations_replace (e := f.origin) (b := f.batchId) hjt hhead hokops hm1
        rw [hresv] at hv
        refine ⟨fun hall => ?_, fun k hk hb hbad => ?_⟩
        · rw [head?_refused_none (by rw [hn]; exact hall), hn] at hv
          have := hdone hv hdrain
          rwa [hcommit] at this
        · rw [show (refused j ops (emptied s.resv.seats)).head? = some k from
            head?_refused_some (by rw [hn]; exact hk) hb hbad] at hv
          rw [Nat.add_comm k 1]
          exact hreject hv
    · exact opOf_reserve h0 (by
        obtain ⟨-, h⟩ | h | h | ⟨h, -⟩ | ⟨h, -⟩ := hl
        · exact h
        all_goals omega)

end Sys2Proof
end

section
/-! Proofs for the Lamp Scanner's rows (sections 8.2 and 8.3). -/

namespace Sys2Proof.Machine


open Sys2Proof

/-! ## Driving a row (R139, R140, R142) -/

/-- The level of a column line (table of R137). -/
def ColumnLine.level (l : ColumnLine) (on : Bool) : Drive :=
  if l.used = false then .released else if on = l.activeLow then .low else if l.openDrain then .released else .high

theorem ColumnLine.drive_eq_level (l : ColumnLine) (on : Bool) : l.drive on = l.level on := by
  cases l with
  | mk used openDrain activeLow => cases used <;> cases openDrain <;> cases activeLow <;> cases on <;> rfl

theorem Scanner.driveRow_cons (p : FramePlan) (x : Scanner) {r : Nat} {rest : List Nat} (h : p.rows = r :: rest) :
    x.driveRow p = { x with
      plan := some p, sunk := some r
      red := (List.range 12).map fun k => (p.lines.red.getD k {}).level (callsFor (x.lamp r k) x.phaseOn).1
      green := (List.range 12).map fun k => (p.lines.green.getD k {}).level (callsFor (x.lamp r k) x.phaseOn).2 } := by
  unfold Scanner.driveRow
  simp only [h, List.head?_cons, ColumnLine.drive_eq_level]

theorem exec_lampRowPeriodEnd_next {s : State} {p : FramePlan} {a r : Nat} {rest : List Nat}
    (hp : s.scanner.plan = some p) (hr : p.rows = a :: r :: rest) : exec .lampRowPeriodEnd s =
      .next { s with scanner := s.scanner.driveRow { p with rows := r :: rest } } := by
  simp only [exec, execLampRowPeriodEnd, hp, hr]

theorem exec_lampRowPeriodEnd_last {s : State} {p : FramePlan} (hp : s.scanner.plan = some p)
    (hr : p.rows.length ≤ 1) : exec .lampRowPeriodEnd s = .next { judgeFrame s with
      scanner := (judgeFrame s).scanner.advanceBlink.startFrame (judgeFrame s).resv.image } := by
  show execLampRowPeriodEnd s = _
  unfold execLampRowPeriodEnd
  rw [hp]
  dsimp only
  split
  · next h =>
    rw [h] at hr
    simp at hr
  · rfl

/-! ## Judging a frame (R144) -/

/-- A position's miss count and fault mark. -/
def Scanner.count (x : Scanner) (i : Nat) : Nat × Bool := (x.misses.getD i 0, x.faults.getD i false)

/-- What a frame check makes of a miss count and fault mark (R144, R145). -/
def judgeCount (check : FrameCheck) (was : Nat × Bool) : Nat × Bool :=
  if was.2 then was
  else match check with
    | none => was
    | some (false, false) => (0, false)
    | some _ => if 2 ≤ was.1 then (0, true) else (was.1 + 1, false)

/-- The position is found FAULTY in this frame. -/
def findsFault (check : FrameCheck) (was : Nat × Bool) : Prop :=
  was.2 = false ∧ 2 ≤ was.1 ∧ ∃ red green, check = some (red, green) ∧ (red || green) = true

/-- Raising a class again keeps it pending, and due when it was not pending before the event. -/
structure RaisedSince (c d : ReportCell) : Prop where
  enable : d.enable = c.enable
  pending : c.pending = true → d.pending = true
  due : c.enable = true → c.pending = false → d.pending = true → d.due = true

theorem RaisedSince.refl (c : ReportCell) : RaisedSince c c :=
  ⟨rfl, id, fun _ h1 h2 => absurd (h1.symm.trans h2) (by decide)⟩

theorem RaisedSince.raise {c d : ReportCell} (h : RaisedSince c d) (detail : List Byte) :
    RaisedSince c (raiseCell detail d) ∧ (raiseCell detail d).pending = true := by
  obtain ⟨h1, h2, h3⟩ := h
  unfold raiseCell
  split
  · next hp => exact ⟨⟨h1, h2, h3⟩, hp⟩
  · next hp => exact ⟨⟨h1, fun _ => rfl, fun he hc _ => h1.trans he⟩, rfl⟩

theorem Scanner.count_setMiss {x : Scanner} {i : Nat} (n k : Nat) (h : i < x.misses.length) :
    (x.setMiss i n).count k = if k = i then (n, (x.count k).2) else x.count k := by
  unfold Scanner.count Scanner.setMiss
  split
  · next hk =>
    subst hk
    exact congrArg (·, _) (getD_updAt_same k n 0 x.misses h)
  · next hk => exact congrArg (·, _) (getD_updAt_ne hk _ 0 x.misses)

theorem Scanner.count_setFault {x : Scanner} {i : Nat} (k : Nat) (h : i < x.faults.length) :
    ({ x with faults := updAt i (fun _ => true) x.faults } : Scanner).count k =
      if k = i then ((x.count k).1, true) else x.count k := by
  unfold Scanner.count
  split
  · next hk =>
    subst hk
    exact congrArg (_, ·) (getD_updAt_same k true false x.faults h)
  · next hk => exact congrArg (_, ·) (getD_updAt_ne hk _ false x.faults)

/-- The positions below `n` judged: their counts and marks by their checks, LAMP_FAULT raised for those found. -/
structure JudgedTo (s : State) (n : Nat) (t : State) : Prop where
  scanner : ∃ m f, t.scanner = { s.scanner with misses := m, faults := f }
  misses : t.scanner.misses.length = 96
  faults : t.scanner.faults.length = 96
  count : ∀ i, t.scanner.count i =
    if i < n then judgeCount (s.scanner.checks.getD i none) (s.scanner.count i) else s.scanner.count i
  resv : t.resv = s.resv
  cells : t.reports.cells.length = s.reports.cells.length
  report : s.reports.cells.length = 16 → RaisedSince (s.report .lampFault) (t.report .lampFault)
  found : s.reports.cells.length = 16 → ∀ i, i < n →
    findsFault (s.scanner.checks.getD i none) (s.scanner.count i) → (t.report .lampFault).pending = true

theorem JudgedTo.start {s : State} (hm : s.scanner.misses.length = 96) (hf : s.scanner.faults.length = 96) :
    JudgedTo s 0 s :=
  ⟨⟨_, _, rfl⟩, hm, hf, fun _ => rfl, rfl, rfl, fun _ => .refl _, fun _ _ h => absurd h (Nat.not_lt_zero _)⟩

theorem JudgedTo.checks {s t : State} {n : Nat} (h : JudgedTo s n t) : t.scanner.checks = s.scanner.checks := by
  obtain ⟨m, f, he⟩ := h.scanner
  rw [he]

/-- The count that position `n` has before its turn is the one it began the frame with. -/
theorem JudgedTo.before {s t : State} {n : Nat} (h : JudgedTo s n t) : t.scanner.count n = s.scanner.count n := by
  rw [h.count, if_neg (Nat.lt_irrefl n)]

/-- Position `n` judged, with LAMP_FAULT already raised when it is found FAULTY. -/
theorem JudgedTo.setCount {s t : State} {n : Nat} (h : JudgedTo s n t) {x : Scanner}
    (hx : ∃ m f, x = { s.scanner with misses := m, faults := f }) (hm : x.misses.length = 96)
    (hf : x.faults.length = 96) (hother : ∀ k, k ≠ n → x.count k = t.scanner.count k)
    (hn : x.count n = judgeCount (s.scanner.checks.getD n none) (s.scanner.count n))
    (hfind : s.reports.cells.length = 16 → findsFault (s.scanner.checks.getD n none) (s.scanner.count n) →
      (t.report .lampFault).pending = true) :
    JudgedTo s (n + 1) { t with scanner := x } where
  scanner := hx
  misses := hm
  faults := hf
  count := fun i => by
    show x.count i = _
    by_cases hi : i = n
    · subst hi
      rw [hn, if_pos (Nat.lt_succ_self i)]
    · rw [hother i hi, h.count]
      by_cases hlt : i < n
      · rw [if_pos hlt, if_pos (by omega)]
      · rw [if_neg hlt, if_neg (by omega)]
  resv := h.resv
  cells := h.cells
  report := h.report
  found := fun hc i hi hx => by
    by_cases hin : i = n
    · exact hfind hc (hin ▸ hx)
    · exact h.found hc i (by omega) hx

/-- LAMP_FAULT raised. -/
theorem JudgedTo.raised {s t : State} {n : Nat} (h : JudgedTo s n t) (detail : List Byte) :
    JudgedTo s n (raise .lampFault detail t) ∧
      (s.reports.cells.length = 16 → ((raise .lampFault detail t).report .lampFault).pending = true) := by
  have hr (h16 : s.reports.cells.length = 16) :
      RaisedSince (s.report .lampFault) ((raise .lampFault detail t).report .lampFault) ∧
        ((raise .lampFault detail t).report .lampFault).pending = true := by
    rw [report_raise_same _ _ _ (h.cells.trans h16)]
    exact (h.report h16).raise detail
  exact ⟨{ h with
    cells := (updAt_length _ _ _).trans h.cells
    report := fun h16 => (hr h16).1
    found := fun h16 _ _ _ => (hr h16).2 }, fun h16 => (hr h16).2⟩

theorem judgePosition_kept {i : Nat} {s : State}
    (h : s.scanner.faults.getD i false = true ∨ s.scanner.checks.getD i none = none) : judgePosition i s = s := by
  unfold judgePosition
  split
  · rfl
  · next hf => rw [h.resolve_left hf]

theorem judgePosition_matched {i : Nat} {s : State} (hf : s.scanner.faults.getD i false = false)
    (hc : s.scanner.checks.getD i none = some (false, false)) :
    judgePosition i s = { s with scanner := s.scanner.setMiss i 0 } := by
  unfold judgePosition
  rw [if_neg (by rw [hf]; decide), hc]

section Mismatch

variable {i : Nat} {s : State} {red green : Bool} (hf : s.scanner.faults.getD i false = false)
  (hc : s.scanner.checks.getD i none = some (red, green)) (hb : (red || green) = true)

include hf hc hb

theorem judgePosition_missed (h : s.scanner.misses.getD i 0 < 2) :
    judgePosition i s = { s with scanner := s.scanner.setMiss i (s.scanner.misses.getD i 0 + 1) } := by
  unfold judgePosition
  rw [if_neg (by rw [hf]; decide), hc]
  cases red <;> cases green <;> first | exact absurd hb (by decide) | exact if_neg (by omega)

theorem judgePosition_faulty (h : 2 ≤ s.scanner.misses.getD i 0) :
    judgePosition i s = raiseLampFault i red green { s with scanner := { s.scanner.setMiss i 0 with
      faults := updAt i (fun _ => true) (s.scanner.setMiss i 0).faults } } := by
  unfold judgePosition
  rw [if_neg (by rw [hf]; decide), hc]
  cases red <;> cases green <;> first | exact absurd hb (by decide) | exact if_pos h

end Mismatch

theorem judgeCount_faulty {check : FrameCheck} {was : Nat × Bool} (h : was.2 = true) : judgeCount check was = was :=
  if_pos h

theorem judgeCount_unchecked (was : Nat × Bool) : judgeCount none was = was := by
  unfold judgeCount
  split <;> rfl

theorem judgeCount_matched {was : Nat × Bool} (h : was.2 = false) :
    judgeCount (some (false, false)) was = (0, false) := if_neg (by rw [h]; decide)

theorem judgeCount_some {red green : Bool} {was : Nat × Bool} (hf : was.2 = false) (hb : (red || green) = true) :
    judgeCount (some (red, green)) was = if 2 ≤ was.1 then (0, true) else (was.1 + 1, false) := by
  unfold judgeCount
  rw [if_neg (by rw [hf]; decide)]
  cases red <;> cases green <;> first | exact absurd hb (by decide) | rfl

/-- One position more is judged. -/
theorem JudgedTo.judgePosition {s t : State} {n : Nat} (h : JudgedTo s n t) (hn : n < 96) :
    JudgedTo s (n + 1) (judgePosition n t) := by
  have hcheck : t.scanner.checks.getD n none = s.scanner.checks.getD n none := by rw [h.checks]
  have hm : t.scanner.misses.getD n 0 = (s.scanner.count n).1 := congrArg Prod.fst h.before
  have hf : t.scanner.faults.getD n false = (s.scanner.count n).2 := congrArg Prod.snd h.before
  obtain ⟨m, f, he⟩ := h.scanner
  have hset (v : Nat) : ∃ m f, t.scanner.setMiss n v = { s.scanner with misses := m, faults := f } :=
    ⟨_, _, by rw [he]; rfl⟩
  have hlen (v : Nat) : (t.scanner.setMiss n v).misses.length = 96 := (updAt_length _ _ _).trans h.misses
  have hsame (v k : Nat) (hk : k ≠ n) : (t.scanner.setMiss n v).count k = t.scanner.count k := by
    rw [Scanner.count_setMiss _ _ (h.misses ▸ hn), if_neg hk]
  have hnow (v : Nat) : (t.scanner.setMiss n v).count n = (v, (s.scanner.count n).2) := by
    rw [Scanner.count_setMiss _ _ (h.misses ▸ hn), if_pos rfl, h.before]
  by_cases hfault : (s.scanner.count n).2 = true
  · rw [judgePosition_kept (.inl (hf.trans hfault))]
    refine h.setCount h.scanner h.misses h.faults (fun _ _ => rfl) ?_
      fun _ hx => absurd (hx.1.symm.trans hfault) (by decide)
    rw [h.before, judgeCount_faulty hfault]
  replace hfault : (s.scanner.count n).2 = false := by simpa using hfault
  cases hc : s.scanner.checks.getD n none with
  | none =>
    rw [judgePosition_kept (.inr (hcheck.trans hc))]
    refine h.setCount h.scanner h.misses h.faults (fun _ _ => rfl) ?_ ?_
    · rw [h.before, hc, judgeCount_unchecked]
    · rintro - ⟨-, -, red, green, hx, -⟩
      rw [hc] at hx
      cases hx
  | some p =>
    obtain ⟨red, green⟩ := p
    cases hb : (red || green) with
    | false =>
      obtain ⟨rfl, rfl⟩ := Bool.or_eq_false_iff.1 hb
      rw [judgePosition_matched (hf.trans hfault) (hcheck.trans hc)]
      refine h.setCount (hset 0) (hlen 0) h.faults (hsame 0) ?_ ?_
      · rw [hnow, hfault, hc, judgeCount_matched hfault]
      · rintro - ⟨-, -, red, green, hx, hb⟩
        rw [hc] at hx
        cases hx
        cases hb
    | true =>
      by_cases h2 : 2 ≤ (s.scanner.count n).1
      · rw [judgePosition_faulty (hf.trans hfault) (hcheck.trans hc) hb (hm ▸ h2)]
        obtain ⟨hraised, hpending⟩ := h.raised
          [byteOf (t.resv.seats.getD n {}).number, byteOf n, byteOf (linesCode red green)]
        have hmark (k : Nat) := Scanner.count_setFault (x := t.scanner.setMiss n 0) (i := n) k (h.faults ▸ hn)
        refine hraised.setCount ⟨_, _, by rw [he]; rfl⟩ (hlen 0) ((updAt_length _ _ _).trans h.faults)
          (fun k hk => ?_) ?_ fun h16 _ => hpending h16
        · rw [hmark, if_neg hk]
          exact hsame 0 k hk
        · rw [hmark, if_pos rfl, hnow, hc, judgeCount_some hfault hb, if_pos h2]
      · rw [judgePosition_missed (hf.trans hfault) (hcheck.trans hc) hb (by omega)]
        refine h.setCount (hset _) (hlen _) h.faults (hsame _) ?_ fun _ hx => absurd hx.2.1 h2
        rw [hnow, hfault, hc, judgeCount_some hfault hb, if_neg h2, hm]

/-- All positions are judged by the end of the frame. -/
theorem JudgedTo.judgeFrame {s : State} (hm : s.scanner.misses.length = 96) (hf : s.scanner.faults.length = 96) :
    JudgedTo s 96 (judgeFrame s) := by
  have hall (n : Nat) : n ≤ 96 → JudgedTo s n ((List.range n).foldl (fun s i => Machine.judgePosition i s) s) := by
    induction n with
    | zero => exact fun _ => .start hm hf
    | succ n ih =>
      intro hn
      rw [List.range_succ, List.foldl_concat]
      exact (ih (by omega)).judgePosition hn
  exact hall 96 (Nat.le_refl 96)

/-- The frame after one that has been judged. -/
def nextFrame (u : State) : State := { u with scanner := u.scanner.advanceBlink.startFrame u.resv.image }

section NextFrame

variable (u : State)

theorem advanceBlink_eq (x : Scanner) : ∃ n b, x.advanceBlink = { x with blinkCount := n, phaseOn := b } := by
  unfold Scanner.advanceBlink
  split <;> exact ⟨_, _, rfl⟩

theorem nextFrame_count (i : Nat) : (nextFrame u).scanner.count i = u.scanner.count i := by
  obtain ⟨n, b, h⟩ := advanceBlink_eq u.scanner
  unfold nextFrame Scanner.count
  rw [h]
  rfl

/-- The blink count rises, or the phase turns over, as the divisor has it (R141). -/
theorem nextFrame_blink :
    (u.scanner.blinkCount + 1 < u.scanner.blinkDivisor →
      (nextFrame u).scanner.blinkCount = u.scanner.blinkCount + 1 ∧
        (nextFrame u).scanner.phaseOn = u.scanner.phaseOn) ∧
    (u.scanner.blinkDivisor ≤ u.scanner.blinkCount + 1 →
      (nextFrame u).scanner.blinkCount = 0 ∧ (nextFrame u).scanner.phaseOn = !u.scanner.phaseOn) := by
  have h : (nextFrame u).scanner.blinkCount = u.scanner.advanceBlink.blinkCount ∧
    (nextFrame u).scanner.phaseOn = u.scanner.advanceBlink.phaseOn := ⟨rfl, rfl⟩
  obtain ⟨h1, h2⟩ := h
  rw [h1, h2]
  unfold Scanner.advanceBlink
  refine ⟨fun hlt => ?_, fun hle => ?_⟩
  · rw [if_neg (by omega)]
    exact ⟨rfl, rfl⟩
  · rw [if_pos hle]
    exact ⟨rfl, rfl⟩

/-- The new frame's plan, latched image and unchecked positions; the settings are as they were (R139). -/
theorem nextFrame_plan : let x := u.scanner
    let y := (nextFrame u).scanner
    y.enable = x.enable ∧ y.rowPeriod = x.rowPeriod ∧ y.blinkDivisor = x.blinkDivisor ∧ y.lines = x.lines ∧
      y.working = u.resv.image ∧ y.checks = List.replicate 96 none ∧
      y.plan = some { rows := x.lines.usedRows, period := x.rowPeriod, lines := x.lines } := by
  obtain ⟨n, b, h⟩ := advanceBlink_eq u.scanner
  dsimp only
  unfold nextFrame
  rw [h]
  exact ⟨rfl, rfl, rfl, rfl, rfl, rfl, rfl⟩

end NextFrame

/-! ## Sampling (R143) -/

theorem getElem?_foldl_updAt {α : Type} (base : Nat) (v : Nat → α) (l : List α) (i : Nat) : (n : Nat) →
    ((List.range n).foldl (fun l k => updAt (base + k) (fun _ => v k) l) l)[i]? =
      if base ≤ i ∧ i < base + n then l[i]?.map (fun _ => v (i - base)) else l[i]?
  | 0 => by
    rw [if_neg (by omega)]
    rfl
  | n + 1 => by
    rw [List.range_succ, List.foldl_concat]
    by_cases hi : i = base + n
    · subst hi
      rw [getElem?_updAt_same, getElem?_foldl_updAt base v l _ n, if_neg (by omega), if_pos (by omega),
        Nat.add_sub_cancel_left]
    · rw [getElem?_updAt_ne hi, getElem?_foldl_updAt base v l i n]
      by_cases hin : base ≤ i ∧ i < base + n
      · rw [if_pos hin, if_pos (by omega)]
      · rw [if_neg hin, if_neg (by omega)]

theorem length_foldl_updAt {α : Type} (base : Nat) (v : Nat → α) (l : List α) (ks : List Nat) :
    (ks.foldl (fun l k => updAt (base + k) (fun _ => v k) l) l).length = l.length :=
  List.foldlRecOn (motive := fun (r : List α) => r.length = l.length) ks _ rfl
    fun _ h _ _ => (updAt_length _ _ _).trans h

/-- The frame check of column `k` of the row being driven. -/
def columnCheck (p : FramePlan) (x : Scanner) (r : Nat) (red green : BitVec 12) (k : Nat) : FrameCheck :=
  frameCheck (p.lines.red.getD k {}) (p.lines.green.getD k {}) (callsFor (x.lamp r k) x.phaseOn) (red.getLsbD k)
    (green.getLsbD k)

/-- The checks with those of the row being driven sampled. -/
def Scanner.sampled (p : FramePlan) (x : Scanner) (r : Nat) (red green : BitVec 12) : List FrameCheck :=
  (List.range 12).foldl (fun l k => updAt (r * 12 + k) (fun _ => columnCheck p x r red green k) l) x.checks

theorem Scanner.sampled_length (p : FramePlan) (x : Scanner) (r : Nat) (red green : BitVec 12) :
    (x.sampled p r red green).length = x.checks.length := length_foldl_updAt _ _ _ _

theorem Scanner.sampled_row (p : FramePlan) (x : Scanner) {r : Nat} (red green : BitVec 12) {k : Nat} (hk : k < 12)
    (h : r * 12 + 12 ≤ x.checks.length) :
    (x.sampled p r red green)[r * 12 + k]? = some (columnCheck p x r red green k) := by
  rw [Scanner.sampled, getElem?_foldl_updAt, if_pos (by omega), Nat.add_sub_cancel_left,
    List.getElem?_eq_getElem (by omega)]
  rfl

theorem Scanner.sampled_other (p : FramePlan) (x : Scanner) {r i : Nat} (red green : BitVec 12)
    (h : i < r * 12 ∨ r * 12 + 12 ≤ i) : (x.sampled p r red green)[i]? = x.checks[i]? := by
  rw [Scanner.sampled, getElem?_foldl_updAt, if_neg (by omega)]

theorem exec_senseSample {s : State} {p : FramePlan} {r : Nat} {rest : List Nat} (red green : BitVec 12)
    (hp : s.scanner.plan = some p) (hr : p.rows = r :: rest) : exec (.senseSample red green) s =
      .next { s with scanner := { s.scanner with checks := s.scanner.sampled p r red green } } := by
  simp only [exec, execSenseSample, hp, hr]
  rfl

theorem frameCheck_eq (red green : ColumnLine) (calls : Bool × Bool) (a b : Bool) :
    frameCheck red green calls a b =
      if (red.used && calls.1) || (green.used && calls.2) then
        some ((red.used && calls.1) && (a == red.activeLow), (green.used && calls.2) && (b == green.activeLow))
      else none := rfl

end Sys2Proof.Machine

namespace Sys2Proof

open Sys2Proof.Machine

/-- Settles O43: the row driven by the level table, the frame judged position by position, and the row sampled. -/
theorem rowsAreDrivenAndSampled : Obligations.RowsAreDrivenAndSampled := by
  intro p s hp x lit level lamp
  have hlit : lit = fun st => callsFor st x.phaseOn := by
    funext st
    cases st <;> rfl
  refine ⟨fun a r rest hr => ?_, fun hr hm hf => ?_, fun red green r rest hr hlen => ?_⟩
  · rw [exec_lampRowPeriodEnd_next hp hr, Scanner.driveRow_cons _ _ rfl, hlit]
    rfl
  · have h := exec_lampRowPeriodEnd_last hp hr
    have hkeep := (exec_ends .lampRowPeriodEnd s).of_eq h
    have hj := JudgedTo.judgeFrame hm hf
    refine ⟨_, h, hkeep, ?_⟩
    change (_ → (nextFrame (judgeFrame s)).scanner.blinkCount = _ ∧ (nextFrame (judgeFrame s)).scanner.phaseOn = _) ∧ _
    generalize judgeFrame s = u at hj
    obtain ⟨m, f, he⟩ := hj.scanner
    have hblink := nextFrame_blink u
    have hplan := nextFrame_plan u
    dsimp only at hplan
    rw [he] at hblink hplan
    rw [hj.resv] at hplan
    obtain ⟨hrise, hturn⟩ := hblink
    obtain ⟨h1, h2, h3, h4, h5, h6, h7⟩ := hplan
    refine ⟨hrise, hturn, h1, h2, h3, h4, h5, h6, h7, fun i hi => ?_⟩
    have hnow : (nextFrame u).scanner.count i = judgeCount (x.checks.getD i none) (x.count i) := by
      rw [nextFrame_count, hj.count, if_pos hi]
    intro was now
    replace hnow : now = judgeCount (x.checks.getD i none) was := hnow
    rw [hnow]
    refine ⟨fun h => ?_, fun h hc => ?_, fun red green h hc hb => ⟨fun hlt => ?_, fun hle => ⟨?_, fun hen h16 => ?_⟩⟩⟩
    · obtain h | h := h
      · exact judgeCount_faulty h
      · rw [h, judgeCount_unchecked]
    · rw [hc, judgeCount_matched h]
    · rw [hc, judgeCount_some h hb, if_neg (by omega)]
    · rw [hc, judgeCount_some h hb, if_pos hle]
    · have hpend := hj.found h16 i hi ⟨h, hle, red, green, hc, hb⟩
      exact ⟨hpend, fun hnot => (hj.report h16).due hen hnot hpend⟩
  · have hexec := exec_senseSample red green hp hr
    have hlength := s.scanner.sampled_length p r red green
    have hrow (k : Nat) (hk : k < 12) := s.scanner.sampled_row p red green hk hlen
    have hother (i : Nat) (hi : i < r * 12 ∨ r * 12 + 12 ≤ i) := s.scanner.sampled_other p red green hi
    generalize s.scanner.sampled p r red green = checks at hexec hlength hrow hother
    refine ⟨_, hexec, rfl, hlength, fun k hk => ?_, hother⟩
    rw [hlit]
    refine (hrow k hk).trans ?_
    rw [columnCheck, frameCheck_eq]
    rfl

end Sys2Proof
end

section
/-! Proofs for the Journey Tracker's events (sections 5.3 to 5.6). -/

namespace Sys2Proof.Machine


open Sys2Proof

/-! ## What a handling hands on (R92) -/

/-- The local exit sides depend on the open journey and the consist alone. -/
theorem exitSide_congr {s t : State} (hj : t.tracker.journey = s.tracker.journey) (hc : t.consist = s.consist)
    (i : Nat) : t.exitSide i = s.exitSide i := by
  unfold State.exitSide State.forwardPort
  rw [hj, hc]

theorem Tracker.n_eq {t : Tracker} {j : Journey} (h : t.journey = some j) : t.n = nextStop j.stops t.c := by
  unfold Tracker.n
  rw [h]

theorem Tracker.journeyId_eq {t : Tracker} {j : Journey} (h : t.journey = some j) : t.journeyId = j.id := by
  unfold Tracker.journeyId
  rw [h]

theorem ite_markRole_panel (r : Role) (c : Prop) [Decidable c] (s : State) (p : PanelId) :
    (if c then markRole r s else s).panel p =
      if (s.panel p).config.role = r ∧ c then (s.panel p).markDirty else s.panel p := by
  by_cases hc : c
  · rw [if_pos hc, markRole_panel, Panel.markRole]
    simp only [hc, and_true]
  · simp only [hc, and_false, if_false]

theorem Panel.markDirty_config (x : Panel) : x.markDirty.config = x.config := by
  unfold Panel.markDirty
  split <;> rfl

/-- The panels that a change of tracker values marks dirty (R99, R183). -/
theorem markHandoff_panel (before after : State) (p : PanelId) : (markHandoff before after).panel p =
    if ((after.panel p).config.role = .map ∧ (before.tracker.c ≠ after.tracker.c ∨
          before.tracker.marker ≠ after.tracker.marker ∨ before.tracker.status ≠ after.tracker.status)) ∨
        ((after.panel p).config.role = .notice ∧ (before.tracker.n ≠ after.tracker.n ∨
          before.exitSide before.tracker.n ≠ after.exitSide after.tracker.n)) then
      (after.panel p).markDirty
    else after.panel p := by
  unfold markHandoff
  dsimp only
  rw [ite_markRole_panel, ite_markRole_panel]
  by_cases hr : (after.panel p).config.role = .map
  · have hn : (after.panel p).config.role ≠ .notice := by rw [hr]; decide
    have hd : (after.panel p).markDirty.config.role ≠ .notice := by rwa [Panel.markDirty_config]
    by_cases hc : before.tracker.c ≠ after.tracker.c ∨ before.tracker.marker ≠ after.tracker.marker ∨
      before.tracker.status ≠ after.tracker.status
    · rw [if_pos (⟨hr, hc⟩ : _ ∧ _), if_neg fun h => hd h.1, if_pos (.inl ⟨hr, hc⟩)]
    · have hno (c : Prop) : ¬ ((after.panel p).config.role = .map ∧ (before.tracker.c ≠ after.tracker.c ∨
          before.tracker.marker ≠ after.tracker.marker ∨ before.tracker.status ≠ after.tracker.status) ∨
          (after.panel p).config.role = .notice ∧ c) := fun h => h.elim (fun h => hc h.2) fun h => hn h.1
      rw [if_neg (hno _), if_neg fun h : _ ∧ _ => hc h.2, if_neg fun h => hn h.1]
  · simp only [hr, false_and, if_false, false_or]

/-- A tracker's values handed on: `b` stands before the event's outcome, the tracker is `x`. -/
def handedOn (b : State) (j : Journey) (x : Tracker) (h : Handling) : State :=
  handOn b j.stops h { b with tracker := x }

/-- The tracker with the outcome of a handling. -/
def handedTracker (j : Journey) (x : Tracker) (h : Handling) : Tracker := { x with
  state := h.state, c := h.c, marker := some ({ x with state := h.state, c := h.c }.markerPoint j.stops) }

section HandedOn

variable (b : State) (j : Journey) (x : Tracker) (h : Handling)

theorem handedOn_unchanged : UnchangedBut [.tracker, .notices, .resv, .panels, .reports] b (handedOn b j x h) :=
  handOn_keeps (tracker_keeps (.refl [.tracker, .notices, .resv, .panels, .reports] b))

theorem handedOn_tracker : (handedOn b j x h).tracker = handedTracker j x h :=
  handOn_tracker _ _ _ _

/-- What stands when panels, Reservation Unit and reports have yet to be told. -/
def handedOver : State := { b with
  tracker := handedTracker j x h
  notices := { b.notices with fromTracker := b.notices.fromTracker ++
    [.handoff (handoffOf (handedTracker j x h) h)] } }

theorem handedOn_eq : handedOn b j x h =
    reportSkipped h (tellAdvance b.tracker.c (markHandoff b (handedOver b j x h))) := rfl

theorem markHandoff_unchanged (after : State) : UnchangedBut [.panels] after (markHandoff b after) :=
  markHandoff_keeps (.refl [.panels] after)

theorem tellAdvance_unchanged (c : Nat) (s : State) : UnchangedBut [.resv] s (tellAdvance c s) :=
  tellAdvance_keeps (.refl [.resv] s)

theorem reportSkipped_unchanged (s : State) : UnchangedBut [.reports] s (reportSkipped h s) :=
  reportSkipped_keeps (.refl [.reports] s)

theorem handedOn_panel (p : PanelId) :
    (handedOn b j x h).panel p = (markHandoff b (handedOver b j x h)).panel p := by
  unfold State.panel
  rw [handedOn_eq, (reportSkipped_unchanged h _).panels (by decide), (tellAdvance_unchanged _ _).panels (by decide)]

variable (hb : b.tracker.journey = some j) (hx : x.journey = some j)

include hx

theorem handedOn_notices : (handedOn b j x h).notices = { b.notices with fromTracker := b.notices.fromTracker ++
    [.handoff { em := x.em, c := h.c, n := nextStop j.stops h.c, reached := h.reached, departed := h.departed,
                arrived := h.arrived, state := h.state }] } := by
  rw [handedOn_eq, (reportSkipped_unchanged h _).notices (by decide), (tellAdvance_unchanged _ _).notices (by decide),
    (markHandoff_unchanged b _).notices (by decide)]
  unfold handedOver handoffOf
  rw [Tracker.n_eq (show (handedTracker j x h).journey = some j from hx)]
  rfl

theorem handedOn_resv : (handedOn b j x h).resv = if b.tracker.c = h.c then b.resv
    else { b.resv with inbox := b.resv.inbox ++ [.advance h.c (nextStop j.stops h.c)] } := by
  have hm := markHandoff_unchanged b (handedOver b j x h)
  have hn : (handedOver b j x h).tracker.n = nextStop j.stops h.c := Tracker.n_eq hx
  rw [handedOn_eq, (reportSkipped_unchanged h _).resv (by decide)]
  unfold tellAdvance
  rw [hm.tracker (by decide), hn]
  split
  · next hc => rw [if_pos (show b.tracker.c = h.c from hc), hm.resv (by decide)]; rfl
  · next hc => rw [if_neg (show ¬ b.tracker.c = h.c from hc), hm.resv (by decide)]; rfl

theorem handedOn_reports : (handedOn b j x h).reports = match h.firstSkipped with
    | none => b.reports
    | some f => (raise .stopSkipped
        (beBytes 2 j.id ++ [byteOf f, byteOf h.skipped] ++ beBytes 4 x.em) b).reports := by
  have ht := tellAdvance_unchanged b.tracker.c (markHandoff b (handedOver b j x h))
  have hm := markHandoff_unchanged b (handedOver b j x h)
  rw [handedOn_eq]
  unfold reportSkipped
  cases h.firstSkipped with
  | none => rw [ht.reports (by decide), hm.reports (by decide)]; rfl
  | some f =>
    dsimp only [raise]
    rw [ht.reports (by decide), hm.reports (by decide), ht.tracker (by decide), hm.tracker (by decide)]
    have hid : (handedOver b j x h).tracker.journeyId = j.id := Tracker.journeyId_eq hx
    rw [hid]
    rfl

include hb

/-- The panels marked dirty: by role, for what has changed of the values that their pages show. -/
theorem handedOn_panels (p : PanelId) : let t := handedOn b j x h
    t.panel p =
      if ((b.panel p).config.role = .map ∧ (t.tracker.c ≠ b.tracker.c ∨ t.tracker.marker ≠ b.tracker.marker ∨
            t.tracker.status ≠ b.tracker.status)) ∨
          ((b.panel p).config.role = .notice ∧ (nextStop j.stops t.tracker.c ≠ nextStop j.stops b.tracker.c ∨
            b.exitSide (nextStop j.stops t.tracker.c) ≠ b.exitSide (nextStop j.stops b.tracker.c))) then
        (b.panel p).markDirty
      else b.panel p := by
  have hn : (handedOver b j x h).tracker.n = nextStop j.stops h.c := Tracker.n_eq hx
  have hside (i : Nat) : (handedOver b j x h).exitSide i = b.exitSide i :=
    exitSide_congr (show (handedOver b j x h).tracker.journey = b.tracker.journey from hx.trans hb.symm) rfl i
  dsimp only
  rw [handedOn_panel, markHandoff_panel, handedOn_tracker, hn, Tracker.n_eq hb, hside]
  exact if_congr (or_congr (and_congr Iff.rfl (or_congr ne_comm (or_congr ne_comm ne_comm)))
    (and_congr Iff.rfl (or_congr ne_comm ne_comm))) rfl rfl

end HandedOn

/-! ## Position reports, ticks and staleness (sections 5.3 and 5.4) -/

/-- The position report taken from its intake. -/
def State.withoutPosition (s : State) : State := { s with classifier := { s.classifier with position := none } }

theorem positionAccepted_iff {f : Frame} {j : Journey} : positionAccepted f j = true ↔
    f.payload.length = 9 ∧ natAt f.payload 8 1 ≤ 1 ∧ natAt f.payload 0 2 = j.id ∧ f.origin = j.lead := by
  simp [positionAccepted, and_assoc]

section Events

variable {s : State} {j : Journey} (hj : s.tracker.journey = some j)

include hj

theorem exec_takePosition_refused {c : Copy} (hp : s.classifier.position = some c)
    (ha : ¬ positionAccepted c.frame j = true) : exec .takePosition s = .next s.withoutPosition := by
  show execTakePosition s = _
  unfold execTakePosition
  rw [hp]
  dsimp only
  rw [hj]
  exact if_neg ha

theorem exec_takePosition_accepted {c : Copy} (hp : s.classifier.position = some c)
    (ha : positionAccepted c.frame j = true) : exec .takePosition s =
      .next (handedOn s.withoutPosition j (s.tracker.report c.frame.payload j.stops)
        ((s.tracker.report c.frame.payload j.stops).handle true j.stops)) := by
  show execTakePosition s = _
  unfold execTakePosition
  rw [hp]
  dsimp only
  rw [hj]
  exact if_pos ha

/-- The estimate after a tick (R82, R83). -/
def Tracker.ticked (j : Journey) (t : Tracker) : Tracker :=
  { t with e := min (t.e + t.v) ((stopAt j.stops (nextStop j.stops t.c)).distance * 1000) }

theorem exec_tick_eq (ht : s.tracker.tickTimer = true) : exec .tick s =
    if s.tracker.e < (s.tracker.ticked j).e then
      .next (handedOn s j (s.tracker.ticked j) ((s.tracker.ticked j).handle false j.stops))
    else .next s := by
  show execTick s = _
  unfold execTick
  rw [hj]
  exact if_congr (and_iff_right ht) rfl rfl

end Events

/-- What every handling event leaves, whatever it does to the estimate. -/
def HandlingDone (j : Journey) (s t : State) : Prop :=
  UnchangedBut [.classifier, .tracker, .notices, .resv, .panels, .reports] s t ∧ s.tracker.c ≤ t.tracker.c ∧
  t.tracker = { s.tracker with
    state := t.tracker.state, c := t.tracker.c, marker := t.tracker.marker, e := t.tracker.e
    v := t.tracker.v, motion := t.tracker.motion, status := t.tracker.status
    tickTimer := t.tracker.tickTimer, staleness := t.tracker.staleness } ∧
  (∃ h : Handoff, h.em = t.tracker.e / 1000 ∧ h.c = t.tracker.c ∧ h.state = t.tracker.state ∧
    t.notices = { s.notices with fromTracker := s.notices.fromTracker ++ [.handoff h] }) ∧
  t.resv = if t.tracker.c = s.tracker.c then s.resv else { s.resv with
    inbox := s.resv.inbox ++ [.advance t.tracker.c (nextStop j.stops t.tracker.c)] }

/-- The estimate's own values may differ in an event's tracker. -/
def Tracker.Estimated (k x : Tracker) : Prop :=
  ∃ e v m st tt sl, x = { k with e := e, v := v, motion := m, status := st, tickTimer := tt, staleness := sl }

theorem Tracker.estimated_report (k : Tracker) (payload : List Byte) (stops : List Stop) :
    k.Estimated (k.report payload stops) := ⟨_, _, _, _, _, _, rfl⟩

theorem Tracker.estimated_ticked (k : Tracker) (j : Journey) : k.Estimated (k.ticked j) := ⟨_, _, _, _, _, _, rfl⟩

section Estimated

variable {k x : Tracker} (h : k.Estimated x)

include h

theorem Tracker.Estimated.journey : x.journey = k.journey := by obtain ⟨_, _, _, _, _, _, rfl⟩ := h; rfl
theorem Tracker.Estimated.state : x.state = k.state := by obtain ⟨_, _, _, _, _, _, rfl⟩ := h; rfl
theorem Tracker.Estimated.c : x.c = k.c := by obtain ⟨_, _, _, _, _, _, rfl⟩ := h; rfl
theorem Tracker.Estimated.windowW : x.windowW = k.windowW := by obtain ⟨_, _, _, _, _, _, rfl⟩ := h; rfl
theorem Tracker.Estimated.marginM : x.marginM = k.marginM := by obtain ⟨_, _, _, _, _, _, rfl⟩ := h; rfl
theorem Tracker.Estimated.approachA : x.approachA = k.approachA := by obtain ⟨_, _, _, _, _, _, rfl⟩ := h; rfl

end Estimated

/-- Before the event's outcome the state differs from `s` in the position intake alone. -/
def BeforeEvent (s b : State) : Prop := b = s ∨ b = s.withoutPosition

theorem BeforeEvent.unchanged {s b : State} (h : BeforeEvent s b) : UnchangedBut [.classifier] s b := by
  obtain rfl | rfl := h
  · exact .refl _ _
  · exact classifier_keeps (.refl [.classifier] s)

theorem handedOn_done {s b : State} {j : Journey} {x : Tracker} {byReport : Bool} (hb : BeforeEvent s b)
    (hj : s.tracker.journey = some j) (hx : s.tracker.Estimated x) :
    HandlingDone j s (handedOn b j x (x.handle byReport j.stops)) := by
  have hu := hb.unchanged
  have hxj : x.journey = some j := hx.journey.trans hj
  have hc := handle_c_ge byReport j.stops x
  rw [hx.c] at hc
  unfold HandlingDone
  rw [handedOn_tracker, handedOn_notices b j x _ hxj, handedOn_resv b j x _ hxj, hu.notices (by decide),
    hu.resv (by decide), hu.tracker (by decide)]
  refine ⟨?_, hc, ?_, ⟨_, rfl, rfl, rfl, rfl⟩, ?_⟩
  · have h2 : UnchangedBut [.tracker, .notices, .resv, .panels, .reports] b _ :=
      handedOn_unchanged b j x (x.handle byReport j.stops)
    exact (hu.mono (by decide)).trans (h2.mono (by decide))
  · obtain ⟨_, _, _, _, _, _, rfl⟩ := hx
    rfl
  · exact if_congr eq_comm rfl rfl

/-- A train that stands within the windows of the very next stop, in APPROACH, is there (R90). -/
theorem handle_arrives_next {j : Journey} {x : Tracker} (hs : x.state = .approach) (hc : x.c < lastStop j.stops)
    (hk : (stopAt j.stops (x.c + 1)).kind = .stop) (hm : x.motion = .stationary)
    (h1 : x.em ≤ (stopAt j.stops (x.c + 1)).distance + x.windowW)
    (h2 : (stopAt j.stops (x.c + 1)).distance ≤ x.em + min x.windowW x.approachA) :
    (x.handle true j.stops).state = .atStop ∧ (x.handle true j.stops).c = x.c + 1 := by
  have hnext : nextStop j.stops x.c = x.c + 1 :=
    nextStop_eq (Nat.lt_succ_self _) (by unfold lastStop at hc; omega) hk fun i _ _ => by omega
  have hleft : x.left j.stops = x.start := by
    unfold Tracker.left Tracker.departs
    rw [if_neg (by simp [hs])]
  have hrun : (x.left j.stops).running = true := by
    rw [hleft]
    simp [Handling.running, Tracker.start, hs]
  have hpass : x.start.pass j.stops x.em j.stops.length = x.start := by
    cases j.stops.length with
    | zero => rfl
    | succ n =>
      unfold Handling.pass
      refine if_neg fun h => ?_
      have := h.2.2.1
      rw [show x.start.c = x.c from rfl, hk] at this
      cases this
  have hpassed : x.passed j.stops = x.start := by
    unfold Tracker.passed
    rw [hleft, Handling.passAndSkip, hpass]
    refine if_neg fun h => ?_
    have := h.2.2
    rw [show x.start.c = x.c from rfl, hnext] at this
    omega
  have harrives : x.arrivesAt j.stops true (nextStop j.stops x.start.c) = true := by
    rw [show x.start.c = x.c from rfl, hnext]
    exact decide_eq_true ⟨rfl, hm, by omega, h1, by omega⟩
  rw [handle_running hrun, hpassed]
  dsimp only
  rw [if_pos harrives]
  exact ⟨rfl, hnext⟩

/-- A tick brings the train to no stop (R90). -/
theorem handle_tick_atStop {stops : List Stop} {x : Tracker} (h : (x.handle false stops).state = .atStop) :
    x.state = .atStop ∧ (x.handle false stops).c = x.c := by
  cases hr : (x.left stops).running with
  | true =>
    rw [handle_running hr] at h
    have hno (n : Nat) : x.arrivesAt stops false n = false := by simp [Tracker.arrivesAt]
    simp only [hno, Bool.false_eq_true, if_false] at h
    split at h <;> cases h
  | false =>
    rw [handle_stopped hr] at h ⊢
    refine ⟨?_, x.left_c stops⟩
    unfold Tracker.left at h
    split at h
    · cases h
    · exact h

/-- The tracker once its report is stale. -/
def Tracker.gone (k : Tracker) : Tracker := { k with status := .stale, staleness := none, tickTimer := false }

theorem exec_stalenessExpiry {s : State} {n : Nat} (h : s.tracker.staleness = some n) :
    exec .stalenessExpiry s = .next (raise .positionStale
      (beBytes 2 s.tracker.gone.journeyId ++ [byteOf s.tracker.c] ++ beBytes 4 s.tracker.gone.em)
      (markHandoff s { s with tracker := s.tracker.gone })) := by
  show execStalenessExpiry s = _
  unfold execStalenessExpiry
  rw [h]
  rfl

end Sys2Proof.Machine

namespace Sys2Proof

open Sys2Proof.Machine

/-- Settles O35: a report or a tick sets the estimate's values, and one handling follows on it. -/
theorem reportsTicksAndStaleness : Obligations.ReportsTicksAndStaleness := by
  intro j s hj k d last handled
  refine ⟨fun c hp => ⟨fun ha => ?_, fun ha => ?_⟩, fun ht => ⟨fun he => ?_, fun he => ?_⟩, fun n hn hf => ?_⟩
  · exact exec_takePosition_refused hj hp (mt positionAccepted_iff.1 ha)
  · refine ⟨_, exec_takePosition_accepted hj hp (positionAccepted_iff.2 ha),
      handedOn_done (.inr rfl) hj (k.estimated_report _ _), ?_⟩
    have hclass := (handedOn_unchanged s.withoutPosition j (s.tracker.report c.frame.payload j.stops)
      ((s.tracker.report c.frame.payload j.stops).handle true j.stops)).classifier (by decide)
    rw [handedOn_tracker]
    have hmot : (s.tracker.report c.frame.payload j.stops).motion =
        if natAt c.frame.payload 8 1 = 1 then .moving else .stationary := by
      simp [Tracker.report]
    refine ⟨hclass, rfl, hmot, ?_, rfl, rfl, rfl, fun h1 h2 h3 h4 h5 h6 => ?_⟩
    · show (s.tracker.report c.frame.payload j.stops).v = _
      simp [Tracker.report]
    · exact handle_arrives_next (x := s.tracker.report c.frame.payload j.stops) h1 h2 h3
        (hmot.trans (if_neg (by omega))) h5 h6
  · exact (exec_tick_eq hj ht).trans (if_neg (Nat.not_lt.2 he))
  · refine ⟨_, (exec_tick_eq hj ht).trans (if_pos he), handedOn_done (.inl rfl) hj (k.estimated_ticked j), ?_⟩
    have hclass := (handedOn_unchanged s j (s.tracker.ticked j)
      ((s.tracker.ticked j).handle false j.stops)).classifier (by decide)
    rw [handedOn_tracker]
    exact ⟨hclass, rfl, rfl, rfl, rfl, ht, rfl, fun h => handle_tick_atStop h⟩
  · refine ⟨_, exec_stalenessExpiry hn, (exec_ends .stalenessExpiry s).of_eq (exec_stalenessExpiry hn), ?_, ?_, fun p => ?_⟩
    · exact (markHandoff_unchanged s _).tracker (by decide)
    · have hr := (markHandoff_unchanged s { s with tracker := s.tracker.gone }).reports (by decide)
      rw [Tracker.journeyId_eq (show s.tracker.gone.journey = some j from hj)]
      unfold raise
      rw [hr]
      rfl
    · show (markHandoff s { s with tracker := s.tracker.gone }).panel p = _
      have hside (i : Nat) : ({ s with tracker := s.tracker.gone } : State).exitSide i = s.exitSide i :=
        exitSide_congr rfl rfl i
      have hn : s.tracker.gone.n = s.tracker.n := rfl
      have hstale : k.status ≠ s.tracker.gone.status := by
        rw [hf]
        exact fun h => nomatch h
      rw [markHandoff_panel, hside, hn]
      exact if_congr ⟨fun h => h.elim (·.1) fun h => h.2.elim (absurd rfl) (absurd rfl),
        fun h => .inl ⟨h, .inr (.inr hstale)⟩⟩ rfl rfl

end Sys2Proof
end

section
/-! Proofs for the handling's outcome (section 5.5). -/

namespace Sys2Proof.Machine

-- Proofs are elaborated in turn: side by side they take more memory.
set_option Elab.async false


open Sys2Proof

variable {stops : List Stop} {x : Tracker}

theorem Tracker.left_reached (stops : List Stop) (x : Tracker) : (x.left stops).reached = [] := by
  unfold Tracker.left
  split <;> rfl

theorem Tracker.left_departed (stops : List Stop) (x : Tracker) :
    (x.left stops).departed = if x.departs stops then some x.c else none := by
  unfold Tracker.left
  split <;> rfl

theorem Tracker.left_arrived (stops : List Stop) (x : Tracker) : (x.left stops).arrived = none := by
  unfold Tracker.left
  split <;> rfl

theorem Tracker.left_skipped (stops : List Stop) (x : Tracker) :
    (x.left stops).firstSkipped = none ∧ (x.left stops).skipped = 0 := by
  unfold Tracker.left
  split <;> exact ⟨rfl, rfl⟩

/-- At a stop, without departing, a handling leaves everything. -/
theorem handle_atStop {byReport : Bool} (hs : x.state = .atStop) (hd : x.departs stops = false) :
    x.handle byReport stops = x.start := by
  have hleft : x.left stops = x.start := by
    unfold Tracker.left
    rw [if_neg (by simp [hd])]
  rw [handle_stopped, hleft]
  rw [hleft]
  simp [Handling.running, Tracker.start, hs]

/-- Between stops, or departing, a handling runs. -/
theorem Tracker.left_running (hs : x.state ≠ .idle) (h : x.state ≠ .atStop ∨ x.departs stops = true) :
    (x.left stops).running = true := by
  unfold Tracker.left
  split
  · rfl
  · next hd =>
    have hne := h.resolve_right hd
    show Handling.running { state := x.state, c := x.c } = true
    cases hx : x.state with
    | idle => exact absurd hx hs
    | atStop => exact absurd hx hne
    | cruise => rfl
    | approach => rfl

/-- What the passing and skipping of a running handling have recorded. -/
structure Tracker.PassedBy (stops : List Stop) (x : Tracker) : Prop where
  reached : (x.passed stops).reached = stopsUpTo x.c (x.passed stops).c
  departed : (x.passed stops).departed = if x.departs stops then some x.c else none
  arrived : (x.passed stops).arrived = none
  le : x.c ≤ (x.passed stops).c
  cleared : ∀ i, x.c < i → i ≤ (x.passed stops).c → Cleared stops x.em x.windowW i
  first : (x.passed stops).firstSkipped = (stopKindUpTo stops x.c (x.passed stops).c).head?
  skipped : (x.passed stops).skipped = (stopKindUpTo stops x.c (x.passed stops).c).length

theorem Tracker.passedBy (law : StopsLaw stops) (x : Tracker) : x.PassedBy stops := by
  have hs : (x.left stops).Swept stops x.em x.windowW (x.passed stops) := .passAndSkip law _ _ _ _
  obtain ⟨hm, hr, hc, hk, hf⟩ := hs
  obtain ⟨hf0, hk0⟩ := x.left_skipped stops
  rw [x.left_c] at hr hc hk hf
  rw [x.left_reached] at hr
  rw [hk0, Nat.zero_add] at hk
  rw [hf0, Option.none_or] at hf
  exact ⟨hr, hm.departed.trans (x.left_departed stops), hm.arrived.trans (x.left_arrived stops),
    (x.left_c stops) ▸ hm.le, hc, hf, hk⟩

/-- The outcome of a running handling, by the next stop `n` after those passed and skipped. -/
def Tracker.outcome (stops : List Stop) (x : Tracker) (byReport : Bool) : Handling :=
  let c' := (x.passed stops).c
  let n := nextStop stops c'
  let near := decide ((stopAt stops n).distance ≤ x.em + x.approachA)
  let arrives := x.arrivesAt stops byReport n
  { state := if arrives then .atStop else if near then .approach else .cruise
    c := if arrives then n else c'
    reached := stopsUpTo x.c (if arrives then n else c')
    departed := if x.departs stops then some x.c else none
    arrived := if arrives then some n else none
    firstSkipped := (stopKindUpTo stops x.c c').head?
    skipped := (stopKindUpTo stops x.c c').length }

theorem handle_outcome (law : StopsLaw stops) {byReport : Bool} (hr : (x.left stops).running = true) :
    x.handle byReport stops = x.outcome stops byReport := by
  obtain ⟨h1, h2, h3, h4, -, h5, h6⟩ := x.passedBy law
  rw [handle_running hr]
  unfold Tracker.outcome
  dsimp only
  cases x.arrivesAt stops byReport (nextStop stops (x.passed stops).c) with
  | true =>
    simp only [if_true, h1, h2, h5, h6, stopsUpTo_append h4 (nextStop_ge stops (x.passed stops).c)]
  | false =>
    simp only [Bool.false_eq_true, if_false, h1, h2, h3, h5, h6, decide_eq_true_eq]

theorem raise_reports_congr {b s : State} (h : b.reports = s.reports) (cls : ReportClass) (detail : List Byte) :
    (raise cls detail b).reports = (raise cls detail s).reports := by
  unfold raise
  rw [h]

/-- The event that a command's hypotheses describe: the state before its outcome, and the tracker it handles. -/
theorem handling_event {s t : State} {j : Journey} {byReport : Bool} (hj : s.tracker.journey = some j)
    (law : TrackerLaw s)
    (h : (byReport = true ∧ exec .takePosition s = .next t ∧ ∃ r : Copy, s.classifier.position = some r ∧
        r.frame.payload.length = 9 ∧ natAt r.frame.payload 8 1 ≤ 1 ∧ natAt r.frame.payload 0 2 = j.id ∧
        r.frame.origin = j.lead) ∨
      (byReport = false ∧ exec .tick s = .next t ∧ s.tracker.tickTimer = true ∧
        s.tracker.e < min (s.tracker.e + s.tracker.v)
          ((stopAt j.stops (nextStop j.stops s.tracker.c)).distance * 1000))) :
    ∃ b x, BeforeEvent s b ∧ s.tracker.Estimated x ∧ x.em ≤ (stopAt j.stops (lastStop j.stops)).distance ∧
      t = handedOn b j x (x.handle byReport j.stops) := by
  have hl := (trackerLaw_open hj).1 law
  obtain ⟨rfl, he, r, hp, ha⟩ | ⟨rfl, he, ht, hlt⟩ := h
  · rw [exec_takePosition_accepted hj hp (positionAccepted_iff.2 ha)] at he
    cases he
    refine ⟨_, _, .inr rfl, s.tracker.estimated_report _ _, ?_, rfl⟩
    have hle := hl.stops.distance_le (Nat.zero_le (lastStop j.stops)) (Nat.le_refl _)
    have hc := (clampTo_between (n := natAt r.frame.payload 2 4) hle).2
    unfold Tracker.em Tracker.report
    dsimp only
    omega
  · cases ((exec_tick_eq hj ht).trans (if_pos hlt)).symm.trans he
    refine ⟨_, _, .inl rfl, s.tracker.estimated_ticked j, ?_, rfl⟩
    have hn := hl.stops.nextStop_le hl.c_le
    have hle := hl.stops.distance_le hn (Nat.le_refl _)
    unfold Tracker.em Tracker.ticked
    dsimp only
    omega

/-- The marker on the leg from stop c to the next in the list, or at stop c (R98). -/
theorem markerPoint_eq (stops : List Stop) (t : Tracker) (hs : t.state ≠ .idle) :
    t.markerPoint stops =
      let a := stopAt stops t.c
      let b := stopAt stops (t.c + 1)
      let along := fun u v : Nat => markerCoord u v (min (t.em - a.distance) (b.distance - a.distance))
        (b.distance - a.distance)
      if t.state = .atStop then (a.x, a.y) else (along a.x b.x, along a.y b.y) := by
  unfold Tracker.markerPoint
  cases h : t.state with
  | idle => exact absurd h hs
  | atStop => rfl
  | cruise => rfl
  | approach => rfl

theorem outcome_state_ne_idle (stops : List Stop) (x : Tracker) (byReport : Bool) :
    (x.outcome stops byReport).state ≠ .idle := by
  unfold Tracker.outcome
  dsimp only
  repeat' split
  all_goals exact fun h => nomatch h

end Sys2Proof.Machine

namespace Sys2Proof

open Sys2Proof.Machine

/-- Settles O36: departure, the stops passed and skipped, and the next stop approached or arrived at. -/
theorem handlingMovesTracker : Obligations.HandlingMovesTracker := by
  intro j s t byReport law hj hevent
  have hl := (trackerLaw_open hj).1 law
  obtain ⟨b, x, hb, hx, hlast, ht⟩ := handling_event hj law hevent
  have hu := hb.unchanged
  have hxj : x.journey = some j := hx.journey.trans hj
  have hbt : b.tracker = s.tracker := hu.tracker (by decide)
  intro k d kind last em upTo departs hands cleared
  have htr : t.tracker = handedTracker j x (x.handle byReport j.stops) := by rw [ht, handedOn_tracker]
  have hem : em = x.em := by
    show t.tracker.e / 1000 = _
    rw [htr]
    rfl
  have hmot : t.tracker.motion = x.motion := by rw [htr]; rfl
  have hdep : departs = x.departs j.stops := by
    show decide _ = decide _
    rw [hx.state, hx.c, hx.marginM, hmot, hem]
    rfl
  have hnotices := handedOn_notices b j x (x.handle byReport j.stops) hxj
  have hreports := handedOn_reports b j x (x.handle byReport j.stops) hxj
  rw [← ht, hu.notices (by decide)] at hnotices
  rw [← ht, hu.reports (by decide)] at hreports
  have hpanels (p : PanelId) := handedOn_panels b j x (x.handle byReport j.stops) (hbt ▸ hj) hxj p
  have hstill : k.state = .atStop → departs = false → x.handle byReport j.stops = x.start := fun hs hd =>
    handle_atStop (hx.state.trans hs) (hdep.symm.trans hd)
  have hruns : k.state ≠ .atStop ∨ departs = true → x.handle byReport j.stops = x.outcome j.stops byReport :=
    fun h => handle_outcome hl.stops (x.left_running (by rw [hx.state]; exact hl.state) (by rwa [hx.state, ← hdep]))
  have hstate : t.tracker.state ≠ .idle := by
    rw [htr]
    by_cases h : k.state ≠ .atStop ∨ departs = true
    · rw [hruns h]
      exact outcome_state_ne_idle _ _ _
    · obtain ⟨h1, h2⟩ := not_or.1 h
      rw [hstill (not_not.1 h1) (by simpa using h2)]
      show x.state ≠ .idle
      rw [hx.state]
      exact hl.state
  refine ⟨fun hs hd => ?_, fun hr => ?_, ?_, fun p => ?_⟩
  · have hh := hstill hs hd
    rw [hh] at htr hnotices hreports
    rw [htr]
    refine ⟨hx.state.trans hs, hx.c, hreports, ?_⟩
    show t.notices = _
    rw [hnotices, hem, ← hs, ← hx.c, ← hx.state]
    rfl
  · have hrun := x.left_running (stops := j.stops) (by rw [hx.state]; exact hl.state) (by rwa [hx.state, ← hdep])
    have hc : x.c < lastStop j.stops := by
      rw [hx.c]
      refine Nat.lt_of_le_of_ne hl.c_le fun he => ?_
      have hs := hl.last he
      obtain h | h := hr
      · exact h hs
      · exact absurd (of_decide_eq_true h).2.1 (by show ¬ k.c < last; rw [show k.c = last from he]; exact Nat.lt_irrefl _)
    have hahead := passed_ahead hl.stops hrun hc hlast
    have hby := x.passedBy hl.stops
    have hh := hruns hr
    rw [hh] at htr hnotices hreports
    have hcl (i : Nat) : cleared i ↔ Cleared j.stops x.em x.windowW i := by
      show (_ ∧ _ ≤ em) ∨ (_ ∧ _ + k.windowW < em) ↔ _
      rw [hem, ← hx.windowW]
      rfl
    refine ⟨(x.passed j.stops).c, nextStop j.stops (x.passed j.stops).c, hx.c ▸ hby.le, hahead.lt_last,
      fun i h1 h2 => (hcl i).2 (hby.cleared i (hx.c ▸ h1) h2), fun h => hahead.not_cleared ((hcl _).1 h), hahead.lt,
      hahead.le_last, hahead.kind, hahead.between, ?_⟩
    intro near arrives
    have hnear : near = decide ((stopAt j.stops (nextStop j.stops (x.passed j.stops).c)).distance ≤
        x.em + x.approachA) := by
      show decide _ = decide _
      rw [hem, hx.approachA]
    have harr : arrives = x.arrivesAt j.stops byReport (nextStop j.stops (x.passed j.stops).c) := by
      show decide _ = decide _
      rw [hmot, hnear, hem, hx.windowW]
      simp only [decide_eq_true_eq]
      rfl
    have hstate' : t.tracker.state = if arrives then .atStop else if near then .approach else .cruise := by
      rw [htr, harr, hnear]
      rfl
    have hc' : t.tracker.c = if arrives then nextStop j.stops (x.passed j.stops).c else (x.passed j.stops).c := by
      rw [htr, harr]
      rfl
    have hupTo (n : Nat) : upTo n = stopsUpTo x.c n := by
      rw [hx.c]
      rfl
    refine ⟨hstate', hc', ?_, ?_⟩
    · show t.notices = _
      rw [hnotices, hstate', hc', hupTo, hdep, hem, harr, hnear, ← hx.c]
      rfl
    · rw [hreports, hupTo, hem]
      rw [show (x.outcome j.stops byReport).firstSkipped = (stopKindUpTo j.stops x.c (x.passed j.stops).c).head? from rfl,
        show (x.outcome j.stops byReport).skipped = (stopKindUpTo j.stops x.c (x.passed j.stops).c).length from rfl,
        show (stopsUpTo x.c (x.passed j.stops).c).filter (fun i => decide (kind i = .stop)) =
          stopKindUpTo j.stops x.c (x.passed j.stops).c from rfl]
      cases stopKindUpTo j.stops x.c (x.passed j.stops).c with
      | nil => rfl
      | cons f fs => exact raise_reports_congr (hu.reports (by decide)) _ _
  · rw [htr] at hstate ⊢
    refine congrArg some ((markerPoint_eq j.stops (handedTracker j x (x.handle byReport j.stops)) hstate).trans ?_)
    rw [hem]
    rfl
  · rw [ht]
    refine (hpanels p).trans ?_
    have hpan : b.panel p = s.panel p := by rw [State.panel, hu.panels (by decide)]; rfl
    have hside (i : Nat) : b.exitSide i = s.exitSide i := exitSide_congr (by rw [hbt]) (hu.consist (by decide)) i
    rw [hpan, hside, hside, hbt]

end Sys2Proof
end

section
/-! Proofs for the doors (section 5.6). -/

namespace Sys2Proof.Machine

-- Proofs are elaborated in turn: side by side they take more memory.
set_option Elab.async false


open Sys2Proof

/-! ## A door's own values -/

theorem Tracker.setDoor_door (t : Tracker) (d : DoorId) : t.setDoor d (t.door d) = t := by cases d <;> rfl

theorem exec_doorLevelChange_same {d : DoorId} {b : Bool} {s : State} (h : (s.tracker.door d).pin = b) :
    exec (.doorLevelChange d b) s = .next s := by
  show Host.Outcome.next { s with tracker := s.tracker.setDoor d ((s.tracker.door d).level b) } = _
  rw [show (s.tracker.door d).level b = s.tracker.door d from if_pos h, Tracker.setDoor_door]

theorem exec_doorLevelChange_other {d : DoorId} {b : Bool} {s : State} (h : (s.tracker.door d).pin ≠ b) :
    exec (.doorLevelChange d b) s = .next { s with tracker := s.tracker.setDoor d { s.tracker.door d with
      pin := b, timer := decide (b ≠ (s.tracker.door d).debounced) } } := by
  show Host.Outcome.next { s with tracker := s.tracker.setDoor d ((s.tracker.door d).level b) } = _
  rw [show (s.tracker.door d).level b = _ from if_neg h]

/-- What a settled level leaves of the tracker. -/
def Tracker.settle (t : Tracker) (d : DoorId) : Tracker :=
  t.setDoor d { t.door d with timer := false, debounced := (t.door d).pin }

section SetDoor

variable (t : Tracker) (d : DoorId)

theorem Tracker.settle_state : (t.settle d).state = t.state := by cases d <;> rfl
theorem Tracker.settle_journey : (t.settle d).journey = t.journey := by cases d <;> rfl
theorem Tracker.settle_c : (t.settle d).c = t.c := by cases d <;> rfl
theorem Tracker.settle_em : (t.settle d).em = t.em := by cases d <;> rfl
theorem Tracker.settle_windowW : (t.settle d).windowW = t.windowW := by cases d <;> rfl

theorem Tracker.settle_n {j : Journey} (h : t.journey = some j) : (t.settle d).n = nextStop j.stops t.c := by
  rw [Tracker.n_eq ((t.settle_journey d).trans h), t.settle_c]

end SetDoor

theorem DoorMode.counts_iff {m : DoorMode} {rising : Bool} : m.counts rising = true ↔
    m = .both ∨ (m = .rising ∧ rising = true) ∨ (m = .falling ∧ rising = false) := by
  cases m <;> cases rising <;> decide

/-- A settled edge that its mode counts. -/
def Door.counted (x : Door) : Prop :=
  x.pin ≠ x.debounced ∧
    (x.mode = .both ∨ (x.mode = .rising ∧ x.pin = true) ∨ (x.mode = .falling ∧ x.pin = false))

/-- The state once the level has settled. -/
def State.settled (s : State) (d : DoorId) : State := { s with tracker := s.tracker.settle d }

section Debounce

variable {s : State} {d : DoorId} (ht : (s.tracker.door d).timer = true)

include ht

theorem exec_debounce_uncounted (h : ¬ (s.tracker.door d).counted) :
    exec (.debounceExpiry d) s = .next (s.settled d) := by
  refine (if_pos ht).trans (congrArg Host.Outcome.next (if_neg fun hc => h ⟨hc.1, DoorMode.counts_iff.1 hc.2⟩))

theorem exec_debounce_counted (h : (s.tracker.door d).counted) :
    exec (.debounceExpiry d) s = .next (judgeEdge d (s.tracker.door d).pin (s.settled d)) :=
  (if_pos ht).trans (congrArg Host.Outcome.next (if_pos ⟨h.1, DoorMode.counts_iff.2 h.2⟩))

end Debounce

/-! ## The edge judged (R95, R96) -/

section Judge

variable {s : State} {d : DoorId} {rising : Bool}

theorem judgeEdge_none (h : s.tracker.journey = none) : judgeEdge d rising s = s := by
  unfold judgeEdge
  rw [h]

theorem judgeEdge_atStop (h : s.tracker.state = .atStop) : judgeEdge d rising s = s := by
  unfold judgeEdge
  rw [h]
  split <;> rfl

variable {j : Journey} (hj : s.tracker.journey = some j)

include hj

theorem judgeEdge_cruise (h : s.tracker.state = .cruise) : judgeEdge d rising s = doorUnexpected d rising s := by
  unfold judgeEdge
  rw [hj, h]

theorem judgeEdge_approach (h : s.tracker.state = .approach) : judgeEdge d rising s =
    if s.tracker.em + s.tracker.windowW < (stopAt j.stops s.tracker.n).distance then doorUnexpected d rising s
    else doorArrival j.stops (if wrongSide d (s.exitSide s.tracker.n) then doorUnexpected d rising s else s) := by
  unfold judgeEdge
  rw [hj, h]

end Judge

theorem byteOf_doorCode (i : DoorId) : byteOf (doorCode i) = match i with | .left => 0 | .right => 1 := by
  cases i <;> rfl

theorem byteOf_edge (b : Bool) : byteOf (bit (!b)) = if b then 0 else 1 := by cases b <;> rfl

theorem wrongSide_iff {d : DoorId} {x : Side} :
    wrongSide d x = true ↔ (d = .left ∧ x = .right) ∨ (d = .right ∧ x = .left) := by
  cases d <;> cases x <;> decide

/-- The tracker of a train that a door release finds at its stop. -/
def Tracker.halted (t : Tracker) : Tracker := { t with motion := .stationary, v := 0 }

theorem doorArrival_eq (j : Journey) (s : State) : doorArrival j.stops s =
    handedOn s j s.tracker.halted (Handling.arrive j.stops { state := s.tracker.state, c := s.tracker.c }) := rfl

/-- The tracker once the train stands at stop `n` by door release. -/
theorem halted_tracker (j : Journey) (t : Tracker) :
    handedTracker j t.halted (Handling.arrive j.stops { state := t.state, c := t.c }) =
      { t with state := .atStop, c := nextStop j.stops t.c, motion := .stationary, v := 0
               marker := some ((stopAt j.stops (nextStop j.stops t.c)).x, (stopAt j.stops (nextStop j.stops t.c)).y) } := rfl

end Sys2Proof.Machine

namespace Sys2Proof

open Sys2Proof.Machine

/-- Settles O37: an edge between stops is unexpected, and one within W of the next stop is the arrival there. -/
theorem doorEdgesAreJudged : Obligations.DoorEdgesAreJudged := by
  intro i s x k
  refine ⟨fun b => ⟨exec_doorLevelChange_same, exec_doorLevelChange_other⟩, fun ht => ?_⟩
  intro settled counted unexpected
  refine ⟨fun h => ?_, fun j hc hj => ?_⟩
  · by_cases hc : (s.tracker.door i).counted
    · rw [exec_debounce_counted ht hc]
      obtain h | h | h := h
      · exact absurd hc h
      · rw [judgeEdge_none ((k.settle_journey i).trans h)]
        rfl
      · rw [judgeEdge_atStop ((k.settle_state i).trans h)]
        rfl
    · exact exec_debounce_uncounted ht hc
  · intro n dn
    have hexec := exec_debounce_counted ht hc
    have hjs : (s.settled i).tracker.journey = some j := (k.settle_journey i).trans hj
    have hn : (s.settled i).tracker.n = n := k.settle_n i hj
    have hunexpected {st : TrackerState} (hst : k.state = st) :
        doorUnexpected i x.pin (s.settled i) = unexpected (byteOf (trackerStateCode st)) n settled := by
      unfold doorUnexpected State.settled
      rw [k.settle_state, hst, k.settle_c, k.settle_n i hj, k.settle_em, byteOf_doorCode, byteOf_edge]
      rfl
    refine ⟨fun hs => ?_, fun hs hlt => ?_, fun hs hle => ?_⟩
    · rw [hexec, judgeEdge_cruise hjs ((k.settle_state i).trans hs)]
      exact congrArg _ (hunexpected (st := .cruise) hs)
    · rw [hexec, judgeEdge_approach hjs ((k.settle_state i).trans hs), hn, if_pos]
      · exact congrArg _ (hunexpected (st := .approach) hs)
      · show (k.settle i).em + (k.settle i).windowW < dn
        rw [k.settle_em, k.settle_windowW]
        exact hlt
    · intro wrong
      have hside : (s.settled i).exitSide n = s.exitSide n :=
        exitSide_congr (s := s) (t := s.settled i) (k.settle_journey i) rfl n
      rw [judgeEdge_approach hjs ((k.settle_state i).trans hs), hn, if_neg, hside,
        hunexpected (st := .approach) hs] at hexec
      · have hwrong : wrongSide i (s.exitSide n) = true ↔ wrong := wrongSide_iff
        refine ⟨_, hexec, (exec_ends (.debounceExpiry i) s).of_eq hexec, ?_⟩
        have hedge : ∃ b, (if wrongSide i (s.exitSide n) = true then
              unexpected (byteOf (trackerStateCode .approach)) n settled else s.settled i) = b ∧
            UnchangedBut [.reports] (s.settled i) b ∧ (wrong → b.reports = (unexpected 3 n s).reports) ∧
              (¬ wrong → b.reports = s.reports) := by
          refine ⟨_, rfl, ?_⟩
          split
          · next h => exact ⟨raise_keeps (.refl [.reports] _), fun _ => rfl, fun hw => absurd (hwrong.1 h) hw⟩
          · next h => exact ⟨.refl _ _, fun hw => absurd (hwrong.2 hw) h, fun _ => rfl⟩
        obtain ⟨b, hb, hu, hr, hr'⟩ := hedge
        have hbt : b.tracker = k.settle i := hu.tracker (by decide)
        have hbj : (k.settle i).halted.journey = some j := (k.settle_journey i).trans hj
        rw [hb, doorArrival_eq, handedOn_tracker, handedOn_notices _ _ _ _ (hbt ▸ hbj),
          handedOn_resv _ _ _ _ (hbt ▸ hbj), handedOn_reports _ _ _ _ (hbt ▸ hbj), halted_tracker, hbt, k.settle_c,
          hu.notices (by decide), hu.resv (by decide)]
        refine ⟨rfl, ?_, ?_, hr, hr'⟩
        · show _ = ({ s.notices with fromTracker := s.notices.fromTracker ++ [.handoff
            { em := k.em, c := n, n := nextStop j.stops n, reached := stopsUpTo k.c n, departed := none
              arrived := some n, state := .atStop }] } : NoticeUnit)
          rw [← k.settle_em i]
          rfl
        · exact if_congr eq_comm rfl rfl
      · show ¬ (k.settle i).em + (k.settle i).windowW < dn
        rw [k.settle_em, k.settle_windowW]
        exact Nat.not_lt.2 hle

end Sys2Proof
end

section
/-! Proofs for the notices that are queued and shown (sections 6.4 to 6.6). -/

namespace Sys2Proof.Machine

-- Proofs are elaborated in turn: side by side they take more memory.
set_option Elab.async false


open Sys2Proof

/-! ## The split at the last NORMAL entry (R113) -/

theorem splitNormal_of_urgent {w : List Notice} (h : ∀ e ∈ w, e.priority = .urgent) : splitNormal w = none := by
  cases hs : splitNormal w with
  | none => rfl
  | some axb =>
    obtain ⟨a, x, b⟩ := axb
    obtain ⟨rfl, hx, -⟩ := splitNormal_some hs
    rw [h x (by simp)] at hx
    cases hx

theorem splitNormal_at {x : Notice} {z : List Notice} (hx : x.priority = .normal)
    (hz : ∀ e ∈ z, e.priority = .urgent) : (a : List Notice) → splitNormal (a ++ x :: z) = some (a, x, z)
  | [] => by
    rw [List.nil_append, splitNormal, splitNormal_of_urgent hz]
    exact if_pos hx
  | e :: a => by rw [List.cons_append, splitNormal, splitNormal_at hx hz a]

/-! ## A CUSTOM notice offered (R110 to R113) -/

section Offer

variable {s : State} {n : Notice} (hk : n.kind = .custom)

include hk

theorem offerNotice_room (h : s.notices.queue.length < 8) : offerNotice n s = placeNotice n s := by
  unfold offerNotice
  rw [hk]
  exact if_pos h

theorem offerNotice_full (h : ¬ s.notices.queue.length < 8) : offerNotice n s = displace n s := by
  unfold offerNotice
  rw [hk]
  exact if_neg h

end Offer

/-- Behind a head the timer and the panels stay. -/
theorem placeNotice_behind {s : State} {n h : Notice} {w : List Notice} (hq : s.notices.queue = h :: w) :
    placeNotice n s = { s with notices := { s.notices with
      queue := h :: insertWaiting (n.numbered s.notices.count) w, count := s.notices.count + 1 } } := by
  rw [placeNotice_eq, hq, setQueue_head]
  · rfl
  · show (some h.number) = s.notices.queue.head?.map (·.number)
    rw [hq]
    rfl

/-- Into an empty queue it is the head. -/
theorem placeNotice_first {s : State} {n : Notice} (hq : s.notices.queue = []) :
    placeNotice n s = markRole .notice { s with notices := { s.notices with
      queue := [n.numbered s.notices.count], count := s.notices.count + 1
      dwell := if s.panels.anyNotice then none else some n.dwell } } := by
  rw [placeNotice_eq, hq, setQueue_newHead]
  · rfl
  · show (some _) ≠ s.notices.queue.head?.map (·.number)
    rw [hq]
    exact fun h => nomatch h

theorem displace_full {s : State} {n : Notice} (h : n.priority = .normal ∨ ∀ e ∈ s.notices.queue.tail, e.priority = .urgent) :
    displace n s = noticeDropped 0 n s := by
  unfold displace
  split
  · next hp hq =>
    rw [splitNormal_of_urgent]
    rw [hq] at h
    exact h.resolve_left (by rw [hp]; decide)
  · rfl

theorem displace_last {s : State} {n h x : Notice} {a z : List Notice} (hp : n.priority = .urgent)
    (hq : s.notices.queue = h :: (a ++ x :: z)) (hx : x.priority = .normal) (hz : ∀ e ∈ z, e.priority = .urgent) :
    displace n s = noticeDropped 1 x { s with notices := { s.notices with
      queue := h :: insertWaiting (n.numbered s.notices.count) (a ++ z), count := s.notices.count + 1 } } := by
  unfold displace
  rw [hp, hq]
  dsimp only
  rw [splitNormal_at hx hz]
  dsimp only
  rw [setQueue_head]
  · rw [placeNotice_behind (h := h) (w := a ++ z) rfl]
    rfl
  · show (some h.number) = _
    rw [hq]
    rfl

/-! ## The payload of a NOTICE -/

/-- The payload is of form (R110). -/
def noticeFormed (b : List Byte) : Prop := 3 ≤ b.length ∧ b.length = 3 + natAt b 2 1 ∧ natAt b 0 1 ≤ 1

theorem noticeOf_none {b : List Byte} (h : ¬ noticeFormed b) : noticeOf b = none := by
  unfold noticeOf
  refine if_pos ?_
  unfold noticeFormed at h
  omega

/-- The notice that a payload of form carries. -/
def customNotice (text : List Byte) (b : List Byte) : Notice where
  number := 0
  kind := .custom
  target := none
  text := text
  dwell := max 1 (natAt b 1 1)
  priority := if natAt b 0 1 = 0 then .normal else .urgent
  source := .immediate

theorem noticeOf_formed {b : List Byte} (h : noticeFormed b) :
    noticeOf b = some (customNotice ((b.drop 3).take 64) b) := by
  unfold noticeOf
  refine if_neg ?_
  unfold noticeFormed at h
  omega

/-- The notice taken from its intake. -/
def State.withNotices (s : State) (rest : List Copy) : State :=
  { s with classifier := { s.classifier with notice := rest } }

section Take

variable {s : State} {c : Copy} {rest : List Copy} (hc : s.classifier.notice = c :: rest)

include hc

theorem exec_takeNotice_malformed (h : ¬ noticeFormed c.frame.payload) :
    exec .takeNotice s = .next (s.withNotices rest) := by
  show execTakeNotice s = _
  unfold execTakeNotice
  rw [hc]
  dsimp only
  rw [noticeOf_none h]
  rfl

theorem exec_takeNotice_formed (h : noticeFormed c.frame.payload) :
    exec .takeNotice s = .next (offerNotice (customNotice
      (s.expandText s.tracker.n [] ((c.frame.payload.drop 3).take 64)) c.frame.payload) (s.withNotices rest)) := by
  show execTakeNotice s = _
  unfold execTakeNotice
  rw [hc]
  dsimp only
  rw [noticeOf_formed h]
  rfl

end Take

theorem customNotice_normal {x b : List Byte} (h : natAt b 0 1 = 0) : (customNotice x b).priority = .normal := if_pos h

theorem customNotice_urgent {x b : List Byte} (h : natAt b 0 1 = 1) : (customNotice x b).priority = .urgent := if_neg (by omega)

theorem insertWaiting_custom_normal {x b : List Byte} (h : natAt b 0 1 = 0) {k : EntryNumber} (w : List Notice) :
    insertWaiting ((customNotice x b).numbered k) w = w ++ [(customNotice x b).numbered k] :=
  insertWaiting_normal (n := (customNotice x b).numbered k) (customNotice_normal (x := x) h) w

theorem insertWaiting_custom_urgent {x b : List Byte} (h : natAt b 0 1 = 1) {k : EntryNumber} (w : List Notice) :
    insertWaiting ((customNotice x b).numbered k) w = w.filter (fun e => decide (e.priority = .urgent)) ++
      (customNotice x b).numbered k :: w.filter (fun e => decide (e.priority = .normal)) :=
  insertWaiting_urgent (n := (customNotice x b).numbered k) (customNotice_urgent (x := x) h) w

/-! ## The dwell timer (R114, R115) -/

theorem exec_dwellExpiry {s : State} {d : Nat} (h : s.notices.dwell = some d) :
    exec .dwellExpiry s = .next (setQueue s.notices.queue.tail s) := by
  show execDwellExpiry s = _
  unfold execDwellExpiry
  rw [h]

theorem startDwell_runs {u : NoticeUnit} {h : Notice} {w : List Notice} (hq : u.queue = h :: w) (hd : u.dwell = none) :
    startDwell u = { u with dwell := some h.dwell } := by
  unfold startDwell
  rw [hq, hd]

theorem startDwell_id {u : NoticeUnit} (h : u.queue = [] ∨ u.dwell ≠ none) : startDwell u = u := by
  unfold startDwell
  split
  · next hq hd =>
    rw [hq, hd] at h
    simp at h
  · rfl

section Panels

variable {s : State} {rest : List PanelMsg}

theorem exec_noticeFlipReport {tag : Option EntryNumber} {on : Bool}
    (h : s.notices.fromPanels = .flipped tag on :: rest) : exec .noticeFlipReport s =
      .next (if on = true ∧ tag.isSome = true ∧ tag = s.notices.queue.head?.map (·.number) then
        { setFromPanels rest s with notices := startDwell (setFromPanels rest s).notices }
      else setFromPanels rest s) := by
  show execNoticeFlipReport s = _
  unfold execNoticeFlipReport
  rw [h]
  rfl

theorem exec_noticeEnableChange {none' : Bool} (h : s.notices.fromPanels = .enableChange none' :: rest) :
    exec .noticeEnableChange s = .next (if none' then
        { setFromPanels rest s with notices := startDwell (setFromPanels rest s).notices }
      else setFromPanels rest s) := by
  show execNoticeEnableChange s = _
  unfold execNoticeEnableChange
  rw [h]

/-- The message taken, and the head's timer started. -/
theorem startDwell_taken {h : Notice} {w : List Notice} (hq : s.notices.queue = h :: w) (hd : s.notices.dwell = none) :
    ({ setFromPanels rest s with notices := startDwell (setFromPanels rest s).notices } : State) =
      { s with notices := { s.notices with fromPanels := rest, dwell := some h.dwell } } := by
  rw [startDwell_runs (u := (setFromPanels rest s).notices) hq hd]
  rfl

theorem startDwell_not {q : List PanelMsg} (h : s.notices.queue = [] ∨ s.notices.dwell ≠ none) :
    ({ setFromPanels q s with notices := startDwell (setFromPanels q s).notices } : State) = setFromPanels q s := by
  rw [startDwell_id (u := (setFromPanels q s).notices) h]

end Panels

end Sys2Proof.Machine

namespace Sys2Proof

open Sys2Proof.Machine

/-- Settles O39: a notice is placed, dropped or displaces another by what waits; the timer is the head's. -/
theorem noticesQueueAndDwell : Obligations.NoticesQueueAndDwell := by
  intro s u
  refine ⟨fun c rest hc => ?_, fun d h w hd hq hne => ?_, fun tag on rest hp => ⟨fun h w hq hon htag hd => ?_, fun hno => ?_⟩,
    fun none' rest hp => ⟨fun h w hq hn hd => ?_, fun hno => ?_⟩⟩
  · intro taken b formed m placed dropped
    have hexec (hf : formed) := exec_takeNotice_formed hc hf
    refine ⟨exec_takeNotice_malformed hc, fun hf hq => ?_, fun hf h w hq => ?_⟩
    · have he := hexec hf
      rw [offerNotice_room rfl (by rw [show (s.withNotices rest).notices.queue = [] from hq]; decide),
        placeNotice_first (s := s.withNotices rest) hq] at he
      exact ⟨_, he, (markRole_keeps (notices_keeps (classifier_keeps (.refl [.classifier, .notices, .panels] s)))),
        rfl, rfl, fun p => markRole_panel .notice _ p⟩
    · intro urgent normal
      have hlen : (s.withNotices rest).notices.queue.length = u.queue.length := rfl
      have hq' : (s.withNotices rest).notices.queue = h :: w := hq
      refine ⟨fun hlt h0 => ?_, fun hlt h1 => ?_, fun hge h0 => ?_, fun hge h1 a x z hw hx hz => ?_⟩
      · rw [hexec hf, offerNotice_room rfl (hlen ▸ hlt), placeNotice_behind hq',
          insertWaiting_custom_normal h0]
        rfl
      · rw [hexec hf, offerNotice_room rfl (hlen ▸ hlt), placeNotice_behind hq',
          insertWaiting_custom_urgent h1]
        show _ = Host.Outcome.next (placed (h :: urgent ++ [m] ++ normal))
        simp only [List.append_assoc, List.cons_append, List.nil_append]
        rfl
      · rw [hexec hf, offerNotice_full rfl (by rw [hlen]; omega), displace_full]
        · rfl
        · rw [hq', List.tail_cons]
          refine h0.imp customNotice_normal fun hn e he => ?_
          by_contra hp
          have := List.filter_eq_nil_iff.1 hn e he
          cases hep : e.priority with
          | normal => simp [hep] at this
          | urgent => exact hp hep
      · obtain ⟨hu, -⟩ := split_filters (a := a) hx hz
        obtain ⟨hzu, hzn⟩ := filter_urgent_of_all hz
        have hurgent : urgent = (a ++ z).filter (fun e => decide (e.priority = .urgent)) := by
          rw [← hu, ← hw]
        rw [hexec hf, offerNotice_full rfl (by rw [hlen]; omega),
          displace_last (customNotice_urgent h1) (by rw [hq', hw]) hx hz,
          insertWaiting_custom_urgent h1, ← hurgent, List.filter_append, hzn, List.append_nil]
        show _ = Host.Outcome.next (dropped 1 x (placed (h :: urgent ++ [m] ++ _)))
        simp only [List.append_assoc, List.cons_append, List.nil_append]
        rfl
  · have hnew : w.head?.map (·.number) ≠ s.notices.queue.head?.map (·.number) := by
      rw [show s.notices.queue = h :: w from hq]
      cases w with
      | nil => exact fun h => nomatch h
      | cons x w => exact fun he => hne x rfl (Option.some.inj he)
    have he := exec_dwellExpiry hd
    rw [show s.notices.queue.tail = w by rw [show s.notices.queue = h :: w from hq]; rfl, setQueue_newHead hnew] at he
    exact ⟨_, he, markRole_keeps (notices_keeps (.refl [.notices, .panels] s)), rfl, fun p => markRole_panel .notice _ p⟩
  · rw [exec_noticeFlipReport hp, if_pos, startDwell_taken hq hd]
    exact ⟨hon, by rw [htag]; rfl, by rw [htag, show s.notices.queue = h :: w from hq]; rfl⟩
  · rw [exec_noticeFlipReport hp]
    refine congrArg Host.Outcome.next ?_
    split
    · next h =>
      obtain ⟨h1, h2, h3⟩ := h
      refine startDwell_not (.inr ?_)
      obtain h | h | h | h := hno
      · exact absurd (h1.symm.trans h) (by decide)
      · rw [h] at h2
        cases h2
      · exact absurd h3 h
      · exact h
    · rfl
  · rw [exec_noticeEnableChange hp, if_pos hn, startDwell_taken hq hd]
  · rw [exec_noticeEnableChange hp]
    refine congrArg Host.Outcome.next ?_
    split
    · next h => exact startDwell_not (hno.resolve_left (by rw [h]; decide))
    · rfl

end Sys2Proof
end

section
/-! Proofs for the settings store (R193). -/

namespace Sys2Proof.Machine

-- Proofs are elaborated in turn: side by side they take more memory.
set_option Elab.async false


open Sys2Proof

theorem exec_saveSettings_busy {s : State} (h : s.mgmt.save ≠ none) :
    exec .saveSettings s = .next (s.recorded .busy) := by
  show answered (saveSettings s) = _
  unfold saveSettings
  split
  · rfl
  · next hn => exact absurd hn h

theorem exec_saveSettings_idle {s : State} (h : s.mgmt.save = none) :
    exec .saveSettings s = .next (State.recorded .ok (setSave { record := settingsRecord s, phase := .writeEnable }
      (some { command := 0x06, driven := [], reads := 0 }) s)) := by
  show answered (saveSettings s) = _
  unfold saveSettings
  rw [h]
  rfl

theorem noAnswer_iff (data : List Byte) : noAnswer data = true ↔ ∀ b ∈ data, b = 0xFF := by simp [noAnswer]

section Save

variable {s : State} {v : Save} (hv : s.mgmt.save = some v)

include hv

theorem exec_transactionDone (data : List Byte) : exec (.settingsTransactionDone data) s =
    match v.phase with
    | .writeEnable => .next (setSave { v with phase := .write }
        (some { command := 0x02, driven := [0, 0] ++ v.record, reads := 0 }) s)
    | .write => .next (setSave { v with phase := .pollWait } none s)
    | .pollWait => .next s
    | .status =>
      if (data.getD 0 0xFF).getLsbD 0 then .next (setSave { v with phase := .pollWait } none s)
      else .next (setSave { v with phase := .readBack } (some { command := 0x03, driven := [0, 0], reads := 11 }) s)
    | .readBack => .next (endSave (if !noAnswer data && decide (data = v.record) then 0 else 1) s) := by
  show execSettingsTransactionDone data s = _
  unfold execSettingsTransactionDone
  rw [hv] <;> rfl

theorem exec_saveStatusPoll (hp : v.phase = .pollWait) : exec .saveStatusPoll s =
    .next (setSave { v with phase := .status } (some { command := 0x05, driven := [], reads := 1 }) s) := by
  show execSaveStatusPoll s = _
  unfold execSaveStatusPoll
  rw [hv]
  dsimp only
  rw [hp]

theorem exec_saveTimeout (hp : v.phase = .pollWait ∨ v.phase = .status) :
    exec .saveTimeout s = .next (endSave 1 s) := by
  show execSaveTimeout s = _
  unfold execSaveTimeout
  rw [hv]
  dsimp only
  obtain h | h := hp <;> rw [h]

end Save

end Sys2Proof.Machine

namespace Sys2Proof

open Sys2Proof.Machine

/-- Settles O58: each phase of the save goes to the next, or the save ends with its outcome. -/
theorem settingsAreSaved : Obligations.SettingsAreSaved := by
  intro s flag bits body stands ended
  refine ⟨exec_saveSettings_busy, exec_saveSettings_idle, fun v data hv => ?_⟩
  have hx := exec_transactionDone hv data
  refine ⟨fun hp => ?_, fun hp => ?_, fun hp b rest hd => ?_, fun hp => ?_, exec_saveStatusPoll hv, exec_saveTimeout hv⟩
  all_goals rw [hp] at hx
  · exact hx
  · exact hx
  · rw [hd] at hx
    rw [hd, hx]
    exact ⟨fun h => if_pos h, fun h => if_neg (Bool.eq_false_iff.1 h)⟩
  · rw [hx]
    refine ⟨fun he ⟨b, hb, hne⟩ => ?_, fun h => ?_⟩
    · have hn : noAnswer data = false := Bool.eq_false_iff.2 fun hn => hne ((noAnswer_iff data).1 hn b hb)
      show Host.Outcome.next (endSave (if !noAnswer data && decide (data = v.record) then 0 else 1) s) = _
      rw [hn, decide_eq_true he]
      rfl
    · have hn : (!noAnswer data && decide (data = v.record)) = false := by
        obtain h | h := h
        · rw [decide_eq_false h, Bool.and_false]
        · rw [(noAnswer_iff data).2 h]
          rfl
      show Host.Outcome.next (endSave (if !noAnswer data && decide (data = v.record) then 0 else 1) s) = _
      rw [hn]
      rfl

end Sys2Proof
end

section
/-! Proofs for the report classes (R196, R197). -/

namespace Sys2Proof.Machine

-- Proofs are elaborated in turn: side by side they take more memory.
set_option Elab.async false


open Sys2Proof

theorem raiseCell_eq (detail : List Byte) (x : ReportCell) : raiseCell detail x =
    { x with detail := detail, pending := true, due := if x.pending then x.due else x.enable } := by
  obtain ⟨pending, due, detail, enable, priority, offset⟩ := x
  cases pending <;> rfl

theorem testBit_pendingSet : (cells : List ReportCell) → (n : Nat) →
    (pendingSet cells).testBit n = (cells.getD n {}).pending
  | [], n => Nat.zero_testBit n
  | x :: xs, 0 => by
    rw [pendingSet, Nat.testBit_zero]
    cases hx : x.pending <;> simp [hx, bit]
  | x :: xs, n + 1 => by
    have hb : (bit x.pending + 2 * pendingSet xs) / 2 = pendingSet xs := by
      rw [Nat.add_mul_div_left _ _ (by decide), Nat.div_eq_of_lt (by cases x.pending <;> decide), Nat.zero_add]
    rw [pendingSet, Nat.testBit_succ, hb, testBit_pendingSet xs n]
    rfl

theorem getD_clearMasked (mask : Nat) : (i : Nat) → (cells : List ReportCell) → (n : Nat) → n < cells.length →
    (clearMasked mask i cells).getD n {} =
      if mask.testBit (i + n) then clearCell (cells.getD n {}) else cells.getD n {}
  | _, [], _, h => absurd h (Nat.not_lt_zero _)
  | _, _ :: _, 0, _ => rfl
  | i, _ :: xs, n + 1, h => by
    have := getD_clearMasked mask (i + 1) xs n (Nat.lt_of_succ_lt_succ h)
    rw [Nat.add_right_comm] at this
    exact this

theorem exec_clearReports {value : List Byte} {mask : Nat} (h : itemNumber value = some mask) (s : State) :
    exec (.clearReports value) s = .next (State.recorded .ok
      { s with reports := { s.reports with cells := clearMasked mask 0 s.reports.cells } }) := by
  show answered (clearReports value s) = _
  unfold clearReports
  rw [h]
  rfl

theorem softReset_reports (s : State) :
    (reofferReply (applySoftReset (meetRunning s))).reports = s.reports.clearAll := by
  rw [(reofferReply_unchanged _).reports (by decide), ← (meetRunning_unchanged s).reports (by decide)]
  rfl

/-- The detail of a class in STATUS. -/
theorem readStatus_detail (cls : ReportClass) (s : State) :
    readStatus (65 + reportNum cls) s = statusDetail s.reports (reportNum cls) := by cases cls <;> rfl

end Sys2Proof.Machine

namespace Sys2Proof

open Sys2Proof.Machine

/-- Settles O59. -/
theorem reportClassesAreRaisedAndCleared : Obligations.ReportClassesAreRaisedAndCleared := by
  intro s hlen cleared
  refine ⟨fun cls detail => ⟨raise_keeps (.refl [.reports] s), raise_onlyReport cls detail s,
      (report_raise_same cls detail s hlen).trans (raiseCell_eq detail _)⟩,
    ⟨_, rfl, fun n _ => testBit_pendingSet _ n⟩, fun cls h => ?_, fun value mask hm => ?_, fun t hd ht => ?_⟩
  · exact (readStatus_detail cls s).trans (if_neg h)
  · refine ⟨_, exec_clearReports hm s, reports_keeps (.refl [.reports] s), rfl, rfl,
      (clearMasked_length mask 0 _).trans hlen, fun n hn => ?_⟩
    rw [getD_clearMasked mask 0 _ n (hlen ▸ hn), Nat.zero_add]
    rfl
  · cases (softResetEffects_eq hd).symm.trans ht
    exact softReset_reports s

end Sys2Proof
end

section
/-! Proofs for the Consist Manager: offers made again (R51, R191) and LABELS frames (R57, R58). -/

namespace Sys2Proof.Machine

-- Proofs are elaborated in turn: side by side they take more memory.
set_option Elab.async false


open Sys2Proof

/-! ## Offers to an LTX (R20) -/

theorem Port.ltxTakes_down {q : Port} (h : q.isUp = false) : q.ltxTakes = true := by rw [Port.ltxTakes, h]; rfl

theorem Port.ltxTakes_room {q : Port} (h : q.ltx.length < 4) : q.ltxTakes = true := by
  rw [Port.ltxTakes, decide_eq_true h, Bool.or_true]

theorem Port.ltxTakes_full {q : Port} (hup : q.isUp = true) (h : 4 ≤ q.ltx.length) : ¬ q.ltxTakes = true := by
  rw [Port.ltxTakes, hup, decide_eq_false (Nat.not_lt.2 h)]
  decide

theorem placeLtx_up {p : PortId} {s : State} (h : (s.port p).isUp = true) (f : Frame) : placeLtx p f s =
    s.setPort p (Port.arbitrate { s.port p with ltx := (s.port p).ltx ++ [f] }) := if_pos h

theorem placeLtx_down {p : PortId} {s : State} (h : (s.port p).isUp = false) (f : Frame) : placeLtx p f s = s :=
  if_neg (by rw [h]; decide)

/-! ## The waiting return and the waiting reply -/

/-- The waiting return set. -/
def State.withReturn (w : Option Copy) (s : State) : State := { s with consist := { s.consist with waiting := w } }

/-- The waiting reply set. -/
def State.withReply (w : Option Copy) (s : State) : State := { s with mgmt := { s.mgmt with waiting := w } }

theorem withReturn_same {s : State} {c : Copy} (h : s.consist.waiting = some c) : s.withReturn (some c) = s := by
  rw [State.withReturn, ← h]

theorem withReply_same {s : State} {c : Copy} (h : s.mgmt.waiting = some c) : s.withReply (some c) = s := by
  rw [State.withReply, ← h]

section Offer

variable {p : PortId} {s : State} (f : Frame)

theorem offerReturn_down (h : (s.port p).isUp = false) : offerReturn p f s = s.withReturn none :=
  (if_pos (Port.ltxTakes_down h)).trans (placeLtx_down (s := s.withReturn none) h f)

theorem offerReturn_room (h : (s.port p).isUp = true) (hl : (s.port p).ltx.length < 4) : offerReturn p f s =
    (s.withReturn none).setPort p (Port.arbitrate { s.port p with ltx := (s.port p).ltx ++ [f] }) :=
  (if_pos (Port.ltxTakes_room hl)).trans (placeLtx_up (s := s.withReturn none) h f)

theorem offerReturn_full (h : (s.port p).isUp = true) (hl : 4 ≤ (s.port p).ltx.length) :
    offerReturn p f s = s.withReturn (some { frame := f, port := p }) := if_neg (Port.ltxTakes_full h hl)

theorem offerReply_down (h : (s.port p).isUp = false) : offerReply p f s = s.withReply none :=
  (if_pos (Port.ltxTakes_down h)).trans (placeLtx_down (s := s.withReply none) h f)

theorem offerReply_room (h : (s.port p).isUp = true) (hl : (s.port p).ltx.length < 4) : offerReply p f s =
    (s.withReply none).setPort p (Port.arbitrate { s.port p with ltx := (s.port p).ltx ++ [f] }) :=
  (if_pos (Port.ltxTakes_room hl)).trans (placeLtx_up (s := s.withReply none) h f)

theorem offerReply_full (h : (s.port p).isUp = true) (hl : 4 ≤ (s.port p).ltx.length) :
    offerReply p f s = s.withReply (some { frame := f, port := p }) := if_neg (Port.ltxTakes_full h hl)

end Offer

theorem exec_rollReturnRetry {s : State} {c : Copy} (h : s.consist.waiting = some c) :
    exec .rollReturnRetry s = .next (offerReturn c.port c.frame s) := by
  show execRollReturnRetry s = _
  rw [execRollReturnRetry, h]

theorem exec_replyRetry {s : State} {c : Copy} (h : s.mgmt.waiting = some c)
    (hr : s.consist.waiting.map (·.port) ≠ some c.port) :
    exec .replyRetry s = .next (offerReply c.port c.frame s) := by
  show execReplyRetry s = _
  rw [execReplyRetry, h]
  refine congrArg Host.Outcome.next (if_neg ?_)
  rw [returnWaits, decide_eq_false hr, Bool.and_false]
  decide

/-! ## LABELS -/

theorem headOf_eq {cls : Nat} {q rest : List Copy} {c : Copy} (h : q = c :: rest) (hc : c.frame.cls.toNat = cls) :
    headOf cls q = some (c, rest) := by
  rw [h]
  exact if_pos hc

/-- The head taken, and the table's labels replaced in order. -/
def State.relabelled (s : State) (rest : List Copy) (labels : List Byte) : State :=
  { setConsistIntake rest s with consist := { s.consist with
    table := (s.consist.table.zip labels).map fun e => { e.1 with label := e.2.toNat } } }

theorem exec_takeLabels {s : State} {c : Copy} {rest : List Copy} (h : s.classifier.consist = c :: rest)
    (hc : c.frame.cls = 5) : exec .takeLabels s =
      if labelsApply c.frame.payload s.consist then
        .next (consistChanged (setConsistIntake rest s)
          (setLabel ((c.frame.payload.drop 3).getD (s.consist.ordinal - 1) 0).toNat
            (s.relabelled rest (c.frame.payload.drop 3))))
      else .next (setConsistIntake rest s) := by
  show execTakeLabels s = _
  rw [execTakeLabels, headOf_eq h (by rw [hc]; rfl)]
  rfl

theorem setLabel_same {n : Nat} {s : State} (h : n = s.consist.label) : setLabel n s = s := if_pos h

theorem setLabel_ne {n : Nat} {s : State} (h : n ≠ s.consist.label) : setLabel n s =
    { s with consist := { s.consist with label := n }
             resv := { s.resv with inbox := s.resv.inbox ++ [.labelChange] } } := if_neg h

theorem consistChanged_same {s t : State} (h1 : s.consist.state = t.consist.state)
    (h2 : s.consist.label = t.consist.label) (h3 : s.consist.facing = t.consist.facing) : consistChanged s t = t :=
  if_pos ⟨h1, h2, h3⟩

theorem consistChanged_ne {s t : State} (h : s.consist.state ≠ t.consist.state ∨
    s.consist.label ≠ t.consist.label ∨ s.consist.facing ≠ t.consist.facing) :
    consistChanged s t = raiseConsist t :=
  if_neg fun ⟨h1, h2, h3⟩ => h.elim (absurd h1) fun h => h.elim (absurd h2) (absurd h3)

end Sys2Proof.Machine

namespace Sys2Proof

open Sys2Proof.Machine

/-- Settles O29. -/
theorem waitingOffersAreMadeAgain : Obligations.WaitingOffersAreMadeAgain := by
  intro c s q placed
  refine ⟨fun h => ?_, fun h hr => ?_⟩
  · rw [exec_rollReturnRetry h]
    exact ⟨fun hd => congrArg _ (offerReturn_down _ hd), fun hu hl => congrArg _ (offerReturn_room _ hu hl),
      fun hu hl => congrArg _ ((offerReturn_full _ hu hl).trans (withReturn_same h))⟩
  · rw [exec_replyRetry h hr]
    exact ⟨fun hd => congrArg _ (offerReply_down _ hd), fun hu hl => congrArg _ (offerReply_room _ hu hl),
      fun hu hl => congrArg _ ((offerReply_full _ hu hl).trans (withReply_same h))⟩

/-- Settles O30. -/
theorem labelsAreAppliedWhole : Obligations.LabelsAreAppliedWhole := by
  intro c rest s h hc taken payload labels applies
  have happ : labelsApply payload s.consist = true ↔ applies := by
    rw [labelsApply_iff]
    constructor
    · rintro ⟨h1, h2, h3, -, h5, h6, h7⟩
      exact ⟨h1, h2, h5 ▸ h3, h5, h6, h7⟩
    · rintro ⟨h1, h2, h3, h5, h6, h7⟩
      exact ⟨h1, h2, h5 ▸ h3, by omega, h5, h6, h7⟩
  have hx := exec_takeLabels h hc
  refine ⟨fun hn => hx.trans (if_neg (mt happ.1 hn)), fun ha => ?_⟩
  rw [if_pos (happ.2 ha)] at hx
  intro own k
  refine ⟨fun he => ?_, fun he => ?_⟩
  · rw [setLabel_same (s := s.relabelled rest labels) he] at hx
    refine hx.trans (congrArg Host.Outcome.next ((consistChanged_same
      (s := setConsistIntake rest s) (t := s.relabelled rest labels) rfl rfl rfl).trans ?_))
    show _ = { taken with consist := { s.consist with label := own, table := k.table } }
    rw [he]
    rfl
  · rw [setLabel_ne (s := s.relabelled rest labels) he] at hx
    exact hx.trans (congrArg Host.Outcome.next (consistChanged_ne (.inr (.inl (Ne.symm he)))))

end Sys2Proof
end

section
/-! Proofs for a roll's return (R52 to R55). -/

namespace Sys2Proof.Machine

-- Proofs are elaborated in turn: side by side they take more memory.
set_option Elab.async false


open Sys2Proof

/-! ## The check of a roll's list (R54) -/

section Check

variable {r : Roll} {k : Nat} {own : UnitId}

theorem rollFault_overfull (h : r.overfull = true) : rollFault r k own = some .overfull := if_pos h

theorem rollFault_duplicate (h : r.overfull = false) (hd : ¬ (r.list.map (·.unitId)).Nodup) :
    rollFault r k own = some .duplicateId := (if_neg (by rw [h]; decide)).trans (if_pos hd)

theorem rollFault_listed (h : r.overfull = false) (hd : (r.list.map (·.unitId)).Nodup) : rollFault r k own =
    if k ≠ 0 ∧ k ≤ r.count ∧ (r.list.map (·.unitId))[k - 1]? = some own then none else some .notListed := by
  refine ((if_neg (by rw [h]; decide)).trans (if_neg (not_not.2 hd))).trans ?_
  by_cases hl : k ≠ 0 ∧ k ≤ r.count ∧ (r.list.map (·.unitId))[k - 1]? = some own
  · refine Eq.trans (if_neg ?_) (if_pos hl).symm
    obtain ⟨h1, h2, h3⟩ := hl
    exact fun h => h.elim h1 fun h => h.elim (Nat.not_lt.2 h2) (absurd h3)
  · refine Eq.trans (if_pos ?_) (if_neg hl).symm
    by_contra hn
    simp only [not_or, Nat.not_lt, not_not] at hn
    exact hl hn

end Check

theorem checkRoll_fails {r : Roll} {rr : RollRecord} {s : State} {why : RollFailure}
    (h : rollFault r rr.ordinal s.consist.unitId = some why) : checkRoll r rr s = failRoll why s := by
  rw [checkRoll, h]

theorem checkRoll_adopts {r : Roll} {rr : RollRecord} {s : State}
    (h : rollFault r rr.ordinal s.consist.unitId = none) : checkRoll r rr s = adoptRoll r rr s := by
  rw [checkRoll, h]

theorem checkRoll_state (r : Roll) (rr : RollRecord) (s : State) :
    (checkRoll r rr s).consist.state = .uninaugurated ∨ (checkRoll r rr s).consist.state = .valid := by
  unfold checkRoll
  split
  · exact .inl rfl
  · exact .inr (by rw [adoptRoll_consist])

theorem setLabel_resv (n : Nat) (s : State) : (setLabel n s).resv =
    if n = s.consist.label then s.resv else { s.resv with inbox := s.resv.inbox ++ [.labelChange] } := by
  unfold setLabel
  split <;> rfl

theorem setLabel_reports (n : Nat) (s : State) : (setLabel n s).reports = s.reports := by
  unfold setLabel
  split <;> rfl

theorem raiseConsist_reports {a b : State} (hc : a.consist = b.consist) (hr : a.reports = b.reports) :
    (raiseConsist a).reports = (raiseConsist b).reports := by
  unfold raiseConsist
  rw [hc]
  exact raise_reports_congr hr _ _

theorem byteOf_facingCode (f : Option PortId) :
    byteOf (facingCode f) = (match f with | none => 0 | some .A => 1 | some .B => 2 : Byte) := by
  obtain _ | _ | _ := f <;> rfl

section Judged

variable {s u told : State} {r : Roll} {rr : RollRecord} (hk : u.consist = s.consist) (hv : u.resv = s.resv)
  (hr : u.reports = told.reports)

include hk hv hr

theorem checkRoll_failed {why : RollFailure} (h : rollFault r rr.ordinal s.consist.unitId = some why) :
    (checkRoll r rr u).resv = s.resv ∧
    (checkRoll r rr u).consist =
      { s.consist with state := .uninaugurated, record := none, table := [], ordinal := 0 } ∧
    (raiseConsist (checkRoll r rr u)).reports =
      (raiseConsist (raise .rollFailed (byteOf (rollFailureCode why) :: beBytes 2 s.consist.rollId.toNat)
        { told with consist := (checkRoll r rr u).consist })).reports := by
  rw [checkRoll_fails (hk ▸ h)]
  refine ⟨hv, hk ▸ rfl, raiseConsist_reports rfl ?_⟩
  rw [failRoll, hk]
  exact raise_reports_congr hr _ _

theorem checkRoll_adopted (h : rollFault r rr.ordinal s.consist.unitId = none) :
    (checkRoll r rr u).consist = { s.consist with
      state := .valid, record := none, table := rr.tableOf r, ordinal := rr.ordinalOf r
      label := (r.list.getD (rr.ordinal - 1) default).label } ∧
    (checkRoll r rr u).resv = (if (r.list.getD (rr.ordinal - 1) default).label = s.consist.label then s.resv
      else { s.resv with inbox := s.resv.inbox ++ [.labelChange] }) ∧
    (raiseConsist (checkRoll r rr u)).reports =
      (raiseConsist { told with consist := (checkRoll r rr u).consist }).reports := by
  have hrep : (adoptRoll r rr u).reports = told.reports := (setLabel_reports _ _).trans hr
  rw [checkRoll_adopts (hk ▸ h)]
  refine ⟨(adoptRoll_consist r rr u).trans (by rw [hk]), ?_, raiseConsist_reports rfl hrep⟩
  rw [adoptRoll, setLabel_resv, ← hv, ← hk]

end Judged

theorem exec_rollTimeout {s : State} (hs : s.consist.state = .rolling) (hr : s.consist.record.isSome = true) :
    exec .rollTimeout s = .next (raiseConsist (failRoll .timeout s)) := by
  show execRollTimeout s = _
  obtain ⟨rr, hr⟩ := Option.isSome_iff_exists.1 hr
  rw [execRollTimeout, hr]
  refine congrArg Host.Outcome.next (consistChanged_ne (.inl ?_))
  rw [hs]
  exact fun h => nomatch h

/-! ## The onward copy (R37, R52, R53) -/

section Onward

variable {p : PortId} {f : Frame} {s : State}

theorem returnOnward_none (h : f.hop = 31 ∨ (s.port p).isUp = false) : returnOnward p f s = s := by
  unfold returnOnward
  split
  · rfl
  · next hh => exact if_neg (by rw [h.resolve_left hh]; decide)

theorem returnOnward_room (hh : f.hop ≠ 31) (hu : (s.port p).isUp = true) (hl : (s.port p).ftx.length < 12) :
    returnOnward p f s = s.setPort p (Port.arbitrate { s.port p with ftx := (s.port p).ftx ++ [f.forward] }) :=
  (if_neg hh).trans ((if_pos hu).trans (if_pos hl))

theorem returnOnward_full (hh : f.hop ≠ 31) (hu : (s.port p).isUp = true) (hl : 12 ≤ (s.port p).ftx.length) :
    returnOnward p f s = raise .overflow [1, byteOf (portCode p)] s :=
  (if_neg hh).trans ((if_pos hu).trans (if_neg (Nat.not_lt.2 hl)))

theorem returnOnward_other {q : PortId} (h : q ≠ p) : (returnOnward p f s).port q = s.port q := by
  unfold returnOnward
  split
  · rfl
  · obtain ⟨-, -, he⟩ | ⟨-, -, he⟩ | ⟨-, he⟩ := offerFtx_cases p f.forward s <;> rw [he]
    · exact Link.port_setPort_ne s.link h _
    · rfl

theorem returnOnward_reports : (returnOnward p f s).reports =
    (if f.hop ≠ 31 ∧ (s.port p).isUp = true ∧ 12 ≤ (s.port p).ftx.length then
      raise .overflow [1, byteOf (portCode p)] s else s).reports := by
  by_cases h : f.hop = 31 ∨ (s.port p).isUp = false
  · rw [returnOnward_none h, if_neg]
    exact fun ⟨h1, h2, _⟩ => h.elim h1 fun h => absurd (h.symm.trans h2) (by decide)
  · obtain ⟨hh, hu⟩ := not_or.1 h
    have hu := Bool.of_not_eq_false hu
    by_cases hl : 12 ≤ (s.port p).ftx.length
    · rw [returnOnward_full hh hu hl, if_pos ⟨hh, hu, hl⟩]
    · rw [returnOnward_room hh hu (Nat.lt_of_not_le hl), if_neg fun h => hl h.2.2]
      rfl

end Onward

/-! ## TAKE_ROLL_RETURN -/

section Take

variable {s : State} {c : Copy} {rest : List Copy} (h : s.classifier.consist = c :: rest) (hc : c.frame.cls = 4)

include h hc

theorem exec_takeRollReturn_malformed (hr : rollOf c.frame.payload = none) :
    exec .takeRollReturn s = .next (setConsistIntake rest s) := by
  show execTakeRollReturn s = _
  rw [execTakeRollReturn, headOf_eq h (by rw [hc]; rfl)]
  dsimp only
  rw [hr]

variable {r : Roll} (hr : rollOf c.frame.payload = some r)

include hr

theorem exec_takeRollReturn_other (hn : s.consist.state ≠ .rolling ∨ r.rollId ≠ s.consist.rollId ∨
    ∃ rr, s.consist.record = some rr ∧ c.port = rr.arrival) :
    exec .takeRollReturn s = .next (returnOnward (opposite c.port) c.frame (setConsistIntake rest s)) := by
  have hm : returnMatches c r (setConsistIntake rest s) = none := by
    unfold returnMatches
    split
    · next rr hrec =>
      refine if_neg fun ⟨h1, h2, h3⟩ => ?_
      obtain h | h | ⟨x, hx, hp⟩ := hn
      · exact h h1
      · exact h h2
      · cases hx.symm.trans hrec
        exact opposite_ne _ (h3.symm.trans hp)
    · rfl
  show execTakeRollReturn s = _
  rw [execTakeRollReturn, headOf_eq h (by rw [hc]; rfl)]
  dsimp only
  rw [hr]
  dsimp only
  rw [hm]

theorem exec_takeRollReturn_match {rr : RollRecord} (hrec : s.consist.record = some rr)
    (hs : s.consist.state = .rolling) (hid : r.rollId = s.consist.rollId) (hp : c.port = opposite rr.arrival) :
    exec .takeRollReturn s = .next (raiseConsist (checkRoll r rr
      (returnOnward rr.arrival c.frame (setConsistIntake rest s)))) := by
  have hm : returnMatches c r (setConsistIntake rest s) = some rr := by
    unfold returnMatches
    rw [show (setConsistIntake rest s).consist.record = some rr from hrec]
    exact if_pos ⟨hs, hid, hp⟩
  show execTakeRollReturn s = _
  rw [execTakeRollReturn, headOf_eq h (by rw [hc]; rfl)]
  dsimp only
  rw [hr]
  dsimp only
  rw [hm]
  refine congrArg Host.Outcome.next (consistChanged_ne (.inl ?_))
  rw [returnOnward_consist]
  show s.consist.state ≠ _
  rw [hs]
  obtain he | he := checkRoll_state r rr (returnOnward rr.arrival c.frame (setConsistIntake rest s)) <;>
    exact he ▸ fun h => nomatch h

end Take

end Sys2Proof.Machine

namespace Sys2Proof

open Sys2Proof.Machine

/-- Settles O28. -/
theorem matchingReturnSettlesRoll : Obligations.MatchingReturnSettlesRoll := by
  refine ⟨fun s hs hr => ?_, fun c rest s h hc => ?_⟩
  · intro k
    rw [exec_rollTimeout hs hr]
    show Host.Outcome.next (raise .consist (_ ++ [byteOf (facingCode s.consist.facing)]) (failRoll .timeout s)) = _
    rw [byteOf_facingCode]
    rfl
  · intro taken onward
    refine ⟨exec_takeRollReturn_malformed h hc, fun r hr => ⟨fun rr hrec hs hid hp => ?_, fun hn => ?_⟩⟩
    · intro ids out lost
      have hx := exec_takeRollReturn_match h hc hr hrec hs hid hp
      have hu := returnOnward_keeps (p := rr.arrival) (f := c.frame) (.refl [.link, .reports] taken)
      have hk : (returnOnward rr.arrival c.frame taken).consist = s.consist := returnOnward_consist _ _ _
      have hrep : (returnOnward rr.arrival c.frame taken).reports = _ := returnOnward_reports
      have hother : (returnOnward rr.arrival c.frame taken).port c.port = s.port c.port :=
        returnOnward_other (by rw [hp]; exact opposite_ne _)
      have hroom : c.frame.hop ≠ 31 → out.isUp = true → out.ftx.length < 12 →
          (returnOnward rr.arrival c.frame taken).port rr.arrival =
            Port.arbitrate { out with ftx := out.ftx ++ [onward] } := fun h1 h2 h3 =>
        (congrArg (fun t => State.port t rr.arrival) (returnOnward_room (s := taken) h1 h2 h3)).trans
          (State.port_setPort_same taken _ _)
      have hsame : c.frame.hop = 31 ∨ out.isUp = false ∨ 12 ≤ out.ftx.length →
          (returnOnward rr.arrival c.frame taken).link = s.link := fun h => by
        by_cases hd : c.frame.hop = 31 ∨ out.isUp = false
        · rw [returnOnward_none (s := taken) hd]
        · obtain ⟨h1, h2⟩ := not_or.1 hd
          rw [returnOnward_full (s := taken) h1 (Bool.of_not_eq_false h2) ((h.resolve_left h1).resolve_left h2)]
          rfl
      rw [show setConsistIntake rest s = taken from rfl] at hx
      generalize returnOnward rr.arrival c.frame taken = u at hx hu hk hrep hother hroom hsame
      have hv : UnchangedBut [.consist, .resv, .reports] u (raiseConsist (checkRoll r rr u)) :=
        raiseConsist_keeps (checkRoll_keeps (.refl _ u))
      have hl : (raiseConsist (checkRoll r rr u)).link = u.link := hv.link (by decide)
      refine ⟨_, hx, ?_, (hv.classifier (by decide)).trans (hu.classifier (by decide)),
        (congrArg (Link.port · c.port) hl).trans hother, fun h => hl.trans (hsame h),
        fun h1 h2 h3 => (congrArg (Link.port · rr.arrival) hl).trans (hroom h1 h2 h3), ?_⟩
      · exact (classifier_keeps (.refl _ s)).trans ((hu.mono (by decide)).trans (hv.mono (by decide)))
      · intro told fails listed
        have hrep : u.reports = told.reports := by
          rw [hrep]
          show (if lost then _ else _ : State).reports = (if lost then _ else _ : State).reports
          split
          · exact raise_reports_congr rfl _ _
          · rfl
        have hfail {why : RollFailure} := checkRoll_failed (r := r) (rr := rr) (why := why) hk
          (hu.resv (by decide)) hrep
        refine ⟨fun h => hfail (rollFault_overfull h), fun h hd => hfail (rollFault_duplicate h hd),
          fun h hd hn => hfail ((rollFault_listed h hd).trans (if_neg hn)), fun h hd hl =>
          checkRoll_adopted hk (hu.resv (by decide)) hrep ((rollFault_listed h hd).trans (if_pos hl))⟩
    · intro o out
      have hx := exec_takeRollReturn_other h hc hr hn
      exact ⟨fun h => hx.trans (congrArg _ (returnOnward_none h)),
        fun h1 h2 h3 => hx.trans (congrArg _ (returnOnward_room h1 h2 h3)),
        fun h1 h2 h3 => hx.trans (congrArg _ (returnOnward_full h1 h2 h3))⟩

end Sys2Proof
end

section
/-! O27 is refuted: the chain end's own entry read back as label 0 is a label change (R54, R58, R202). -/

namespace Sys2Proof.Machine

-- Proofs are elaborated in turn: side by side they take more memory.
set_option Elab.async false

open Sys2Proof

/-- A ROLL of no entries from END1. -/
def emptyRoll : Copy :=
  { port := .A
    frame := { part := .single, origin := .end1, cls := 3, kind := 0, hop := 0, dest := 0, batchId := 0, seq := 0
               reserved := 0, payload := [0, 1, 0, 0] } }

/-- A part of label 100, with both ports OFF, before an empty roll. -/
def overLabelled : State :=
  { State.reset with
    classifier := { State.reset.classifier with consist := [emptyRoll] }
    consist := { State.reset.consist with label := 100 } }

/-- How many messages the Reservation Unit has not taken after a command. -/
def toldAfter : Out → Nat
  | .next t => t.resv.inbox.length
  | _ => 0

theorem toldAfter_takeRoll : toldAfter (exec .takeRoll overLabelled) = 1 := by decide

end Sys2Proof.Machine

namespace Sys2Proof

open Sys2Proof.Machine

/-- Refutes O27: nothing bounds the own label where the frame of the command is claimed. A part of label 100 at the
chain end finds its entry in the list with label 0, takes that label and tells the Reservation Unit so, which is
not among the blocks that the statement lets change. -/
theorem not_newRollIsJoined : ¬ Obligations.NewRollIsJoined := by
  intro h
  obtain ⟨t, ht, hu, -⟩ := (h emptyRoll [] overLabelled rfl rfl).2.2
    { rollId := 1, overfull := false, count := 0, entries := [] } (by decide) (.inl (by decide))
  have hk := toldAfter_takeRoll
  rw [ht, toldAfter, hu.resv (by decide)] at hk
  exact absurd hk (by decide)

end Sys2Proof
end

section
/-! Proofs for the transmit arbiter (R11, R23, R24). -/

namespace Sys2Proof.Machine

-- Proofs are elaborated in turn: side by side they take more memory.
set_option Elab.async false

open Sys2Proof

section Arbiter

variable {q : Port} {l : LaneId}

theorem Port.startLane_busy (h : (q.lane l).tx ≠ none) : q.startLane l = q := by
  obtain ⟨f, hf⟩ := Option.ne_none_iff_exists'.1 h
  rw [Port.startLane, hf]

theorem Port.startLane_active (hu : q.isUp = true) (ha : (q.lane l).state = .active) (ht : (q.lane l).tx = none) :
    q.startLane l = q.startActive l := by
  rw [Port.startLane, ht]
  exact if_pos (by rw [hu, ha]; rfl)

theorem Port.startActive_pause {w : Byte} (hw : q.waitingPause = some w) : q.startActive l =
    { q with waitingPause := none }.setLane l { q.lane l with tx := some (pauseFrame w) } := by
  rw [Port.startActive, hw]

theorem Port.startActive_sync (hw : q.waitingPause = none) (hs : (q.lane l).syncAnswer = true) :
    q.startActive l = q.setLane l { q.lane l with tx := some (trainFrame .sync), syncAnswer := false } := by
  rw [Port.startActive, hw]
  exact if_pos hs

theorem Port.startActive_beacon (hw : q.waitingPause = none) (hs : (q.lane l).syncAnswer = false)
    (hb : (q.lane l).beaconDue = true) :
    q.startActive l = q.setLane l { q.lane l with tx := some beaconFrame, beaconDue := false } := by
  rw [Port.startActive, hw]
  exact (if_neg (by rw [hs]; decide)).trans (if_pos hb)

theorem Port.startActive_queues (hw : q.waitingPause = none) (hs : (q.lane l).syncAnswer = false)
    (hb : (q.lane l).beaconDue = false) : q.startActive l =
      (q.fromQueues.map fun x => x.2.setLane l { q.lane l with tx := some x.1 }).getD q := by
  rw [Port.startActive, hw]
  refine (if_neg (by rw [hs]; decide)).trans ((if_neg (by rw [hb]; decide)).trans ?_)
  cases q.fromQueues <;> rfl

theorem Port.fromQueues_closed (h : q.gate = .closed) : q.fromQueues = none := by rw [Port.fromQueues, h]

variable (hg : q.gate = .opened)

include hg

theorem Port.fromQueues_none (hl : q.ltx = []) (hf : q.ftx = []) : q.fromQueues = none := by
  rw [Port.fromQueues, hg, hl, hf]

theorem Port.fromQueues_ftx {f : Frame} {fs : List Frame} (hl : q.ltx = []) (hf : q.ftx = f :: fs) :
    q.fromQueues = some (f, { q with ftx := fs }) := by
  rw [Port.fromQueues, hg]
  dsimp only
  rw [hl, hf]

theorem Port.fromQueues_ltx {g : Frame} {gs : List Frame} (hl : q.ltx = g :: gs) (hf : q.ftx = []) :
    q.fromQueues = some (g, { q with ltx := gs, fairness := 0 }) := by
  rw [Port.fromQueues, hg]
  dsimp only
  rw [hl, hf]

theorem Port.fromQueues_both {f g : Frame} {fs gs : List Frame} (hf : q.ftx = f :: fs) (hl : q.ltx = g :: gs) :
    q.fromQueues = if 4 ≤ q.fairness then some (g, { q with ltx := gs, fairness := 0 })
      else some (f, { q with ftx := fs, fairness := q.fairness + 1 }) := by
  rw [Port.fromQueues, hg]
  dsimp only
  rw [hl, hf]

end Arbiter

theorem exec_transmitDone {p : PortId} {l : LaneId} {f : Frame} {s : State} (h : ((s.port p).lane l).tx = some f) :
    exec (.transmitDone p l) s = .next (s.setPort p (Port.arbitrate ((s.port p).setLane l { (s.port p).lane l with
      tx := none, idleTimer := (s.port p).activeOn l || ((s.port p).lane l).idleTimer }))) := by
  show execTransmitDone p l s = _
  rw [execTransmitDone, h]
  cases (s.port p).activeOn l <;> rfl

end Sys2Proof.Machine

namespace Sys2Proof

open Sys2Proof.Machine

/-- Settles O23. -/
theorem transmitArbiter : Obligations.TransmitArbiter := by
  refine ⟨fun p l f s h => exec_transmitDone h, fun q l => ?_⟩
  refine ⟨Port.startLane_busy, fun hu ha ht => ?_⟩
  rw [Port.startLane_active hu ha ht]
  refine ⟨fun w hw => Port.startActive_pause hw, Port.startActive_sync, Port.startActive_beacon,
    fun hw hs hb => ?_⟩
  rw [Port.startActive_queues hw hs hb]
  refine ⟨fun hg => by rw [Port.fromQueues_closed hg]; rfl, fun hg => ⟨fun hl hf => ?_, fun f fs hf hl => ?_,
    fun g gs hl hf => ?_, fun f fs g gs hf hl => ?_⟩⟩
  · rw [Port.fromQueues_none hg hl hf]
    rfl
  · rw [Port.fromQueues_ftx hg hl hf]
    rfl
  · rw [Port.fromQueues_ltx hg hl hf]
    rfl
  · rw [Port.fromQueues_both hg hf hl]
    exact ⟨fun h => by rw [if_neg (Nat.not_le.2 h)]; rfl, fun h => by rw [if_pos h]; rfl⟩

end Sys2Proof
end

section
/-! Proofs for reception (R11 to R18, R21, R22). -/

namespace Sys2Proof.Machine

-- Proofs are elaborated in turn: side by side they take more memory.
set_option Elab.async false

open Sys2Proof

/-! ## Frames placed behind one that has been received (R15) -/

theorem rxFull_setPort {s : State} {p : PortId} {x : Port} (h : x.rxq = (s.port p).rxq) (fs : List Frame) :
    (s.setPort p x).rxFull p fs = (s.rxFull p fs).setPort p x := by
  unfold State.rxFull
  rw [State.port_setPort_same, h]
  split <;> rfl

@[simp] theorem rxFull_port (s : State) (p q : PortId) (fs : List Frame) : (s.rxFull p fs).port q = s.port q := by
  unfold State.rxFull
  split <;> rfl

@[simp] theorem Port.placed_setLane (q : Port) (l : LaneId) (x : Lane) (fs : List Frame) (n : Nat) :
    (q.setLane l x).placed fs n = (q.placed fs n).setLane l x := by
  unfold Port.placed
  rw [Port.setLane_isUp, Port.setLane_rxq]
  split <;> cases l <;> rfl

@[simp] theorem Port.placed_lane (q : Port) (l : LaneId) (fs : List Frame) (n : Nat) :
    (q.placed fs n).lane l = q.lane l := by
  unfold Port.placed
  dsimp only
  split <;> rfl

/-- The lane after a valid frame on it, and the other lane's held frames taken from it. -/
def Port.heard (l : LaneId) (q : Port) : Port :=
  (q.setLane l { q.lane l with rxSilence := true }).setLane (otherLane l)
    { q.lane (otherLane l) with held := [] }

theorem arbitrate_releaseHeld {s : State} {p : PortId} {x : Port} (h : x.rxq = (s.port p).rxq) (o : LaneId) :
    arbitrate p (releaseHeld p o (s.setPort p x)) = (s.rxFull p (x.lane o).held).setPort p
      (Port.arbitrate (Port.placed (x.lane o).held s.link.pauseQuanta (x.setLane o { x.lane o with held := [] }))) := by
  unfold arbitrate
  rw [releaseHeld_eq, State.port_setPort_same, rxFull_setPort h, State.setPort_quanta, State.setPort_setPort,
    State.port_setPort_same, State.setPort_setPort]

theorem afterValid_setPort {s : State} {p : PortId} {x : Port} (h : x.rxq = (s.port p).rxq) (l : LaneId) :
    afterValid p l (s.setPort p x) = (s.rxFull p (x.lane (otherLane l)).held).setPort p
      (Port.arbitrate (Port.placed (x.lane (otherLane l)).held s.link.pauseQuanta (x.heard l))) := by
  unfold afterValid
  dsimp only
  rw [State.port_setPort_same, State.setPort_setPort, arbitrate_releaseHeld (by rw [Port.setLane_rxq, h]),
    Port.lane_setLane_other]
  rfl

theorem afterValid_eq (p : PortId) (l : LaneId) (s : State) : afterValid p l s =
    (s.rxFull p ((s.port p).lane (otherLane l)).held).setPort p (Port.arbitrate
      (Port.placed ((s.port p).lane (otherLane l)).held s.link.pauseQuanta ((s.port p).heard l))) :=
  (congrArg (afterValid p l) (State.setPort_port s p).symm).trans (afterValid_setPort rfl l)

theorem Port.placed_heard (q : Port) (l : LaneId) (fs : List Frame) (n : Nat) :
    (q.heard l).placed fs n = (q.placed fs n).heard l := by
  rw [Port.heard, Port.placed_setLane, Port.placed_setLane, Port.heard, Port.placed_lane, Port.placed_lane]

theorem Port.heard_rxq (q : Port) (l : LaneId) : (q.heard l).rxq = q.rxq := by
  rw [Port.heard, Port.setLane_rxq, Port.setLane_rxq]

/-- What a frame placed at the tail of the RXQ leaves the lanes of. -/
theorem placeRxq_eq (p : PortId) (f : Frame) (s : State) : placeRxq p f s =
    (s.rxFull p [f]).setPort p ((s.port p).placed [f] s.link.pauseQuanta) := placeHeld_eq p [f] s

theorem afterValid_placeRxq (p : PortId) (l : LaneId) (f : Frame) (s : State) : afterValid p l (placeRxq p f s) =
    (s.rxFull p (f :: ((s.port p).lane (otherLane l)).held)).setPort p (Port.arbitrate
      (Port.placed (f :: ((s.port p).lane (otherLane l)).held) s.link.pauseQuanta ((s.port p).heard l))) := by
  have hl : ((placeRxq p f s).port p).lane (otherLane l) = (s.port p).lane (otherLane l) := by
    rw [placeRxq_eq, State.port_setPort_same, Port.placed_lane]
  have hh := placeHeld_eq p ((s.port p).lane (otherLane l)).held (placeRxq p f s)
  have hk : placeHeld p ((s.port p).lane (otherLane l)).held (placeRxq p f s) = _ :=
    placeHeld_eq p (f :: ((s.port p).lane (otherLane l)).held) s
  have hp := congrArg (fun t => State.port t p) (hh.symm.trans hk)
  rw [State.port_setPort_same, State.port_setPort_same] at hp
  rw [afterValid_eq, hl, Port.placed_heard, Port.placed_heard, ← hp]
  exact (State.setPort_setPort _ p _ _).symm.trans ((congrArg (State.setPort · p _) (hh.symm.trans hk)).trans
    (State.setPort_setPort _ p _ _))

theorem Port.activeOn_up {q : Port} {l : LaneId} (h : q.activeOn l = true) : q.isUp = true ∧ (q.lane l).state = .active := by
  rw [Port.activeOn, Bool.and_eq_true, decide_eq_true_eq] at h
  exact h

/-! ## The receive commands (R16) -/

section Receive

variable {p : PortId} {l : LaneId} {later : Bool} {bytes : List Byte} {s : State}

theorem exec_receive_bad {r : RxReason} (h : checkFrame bytes = .bad r) (hl : ((s.port p).lane l).state ≠ .off)
    {c : Instr} (hc : c ∈ [Instr.receiveTrain p l later bytes, .receiveBeacon p l later bytes,
      .receivePause p l later bytes, .receiveFrame p l later bytes]) : exec c s = .next (receiveBad p l r s) := by
  have key (good : Frame → State) : (if ((s.port p).lane l).state = .off then (.next s : Out)
      else match checkFrame bytes with
        | .bad r => .next (receiveBad p l r s)
        | .valid f => .next (good f)) = .next (receiveBad p l r s) := by
    rw [if_neg hl, h]
  rcases List.mem_cons.1 hc with rfl | hc
  · exact key _
  · rcases List.mem_cons.1 hc with rfl | hc
    · exact key _
    · rcases List.mem_cons.1 hc with rfl | hc
      · exact key _
      · cases List.mem_singleton.1 hc
        exact key _

variable {f : Frame} (h : checkFrame bytes = .valid f)

include h

theorem exec_receive_valid (good : Frame → State) (hl : ((s.port p).lane l).state ≠ .off) :
    (if ((s.port p).lane l).state = .off then (.next s : Out)
      else match checkFrame bytes with
        | .bad r => .next (receiveBad p l r s)
        | .valid f => .next (good f)) = .next (good f) := by
  rw [if_neg hl, h]

theorem exec_receiveTrain (hl : ((s.port p).lane l).state ≠ .off) (hc : f.cls = 0) :
    exec (.receiveTrain p l later bytes) s = .next (actTrain p l (trainPhase f) s) :=
  (exec_receive_valid h (fun f => if f.cls = 0 then actTrain p l (trainPhase f) s else s) hl).trans
    (congrArg Host.Outcome.next (if_pos hc))

section Active

variable (ha : (s.port p).activeOn l = true)

include ha

theorem exec_receiveBeacon (hc : f.cls = 1) : exec (.receiveBeacon p l later bytes) s = .next (afterValid p l s) :=
  (exec_receive_valid h (fun f => if f.cls = 1 ∧ (s.port p).activeOn l = true then afterValid p l s else s)
    fun e => absurd ((Port.activeOn_up ha).2.symm.trans e) (by decide)).trans
    (congrArg Host.Outcome.next (if_pos ⟨hc, ha⟩))

theorem exec_receivePause (hc : f.cls = 2) : exec (.receivePause p l later bytes) s =
    .next (afterValid p l (s.setPort p ((s.port p).gatePause (byteAt f.payload 0).toNat))) :=
  (exec_receive_valid h (fun f => if f.cls = 2 ∧ (s.port p).activeOn l = true then
      afterValid p l (s.setPort p ((s.port p).gatePause (byteAt f.payload 0).toNat)) else s)
    fun e => absurd ((Port.activeOn_up ha).2.symm.trans e) (by decide)).trans
    (congrArg Host.Outcome.next (if_pos ⟨hc, ha⟩))

theorem exec_receiveFrame (hc : 3 ≤ f.cls.toNat) : exec (.receiveFrame p l later bytes) s =
    .next (acceptFrame p l later f s) :=
  (exec_receive_valid h (fun f => if 3 ≤ f.cls.toNat ∧ (s.port p).activeOn l = true then
      acceptFrame p l later f s else s)
    fun e => absurd ((Port.activeOn_up ha).2.symm.trans e) (by decide)).trans
    (congrArg Host.Outcome.next (if_pos ⟨hc, ha⟩))

end Active

/-- A frame of a link class or of the RXQ on a lane that is not ACTIVE changes nothing. -/
theorem exec_receive_idle (ha : (s.port p).activeOn l = false) :
    exec (.receiveBeacon p l later bytes) s = .next s ∧ exec (.receivePause p l later bytes) s = .next s ∧
      exec (.receiveFrame p l later bytes) s = .next s := by
  have key (k : Frame → Prop) [DecidablePred k] (act : Frame → State) :
      (if ((s.port p).lane l).state = .off then (.next s : Out)
        else match checkFrame bytes with
          | .bad r => .next (receiveBad p l r s)
          | .valid f => .next (if k f ∧ (s.port p).activeOn l = true then act f else s)) = .next s := by
    by_cases hl : ((s.port p).lane l).state = .off
    · exact if_pos hl
    · rw [if_neg hl, h]
      exact congrArg Host.Outcome.next (if_neg fun e => absurd (ha.symm.trans e.2) (by decide))
  exact ⟨key _ _, key _ _, key _ _⟩

end Receive

/-! ## Frames that fail a check (R7, R15, R16) -/

theorem not_headerOk_iff (bs : List Byte) : headerOk bs = false ↔ (byteAt bs 0).toNat / 16 ≠ 1 ∨
    bs.length ≠ 16 + natAt bs 11 2 + 4 ∨ ((byteAt bs 1).toNat % 64 = 0 ∧ natAt bs 11 2 ≠ 1) ∨
    ((byteAt bs 1).toNat % 64 = 1 ∧ natAt bs 11 2 ≠ 0) ∨ ((byteAt bs 1).toNat % 64 = 2 ∧ natAt bs 11 2 ≠ 1) := by
  unfold headerOk
  generalize (byteAt bs 1).toNat % 64 = c
  rw [Bool.and_eq_false_iff, Bool.and_eq_false_iff, decide_eq_false_iff_not, decide_eq_false_iff_not, or_assoc]
  refine or_congr Iff.rfl (or_congr Iff.rfl ?_)
  unfold linkPayloadLength
  split_ifs <;> simp [*]

theorem Lane.breakRun_run {x : Lane} (h : (∃ n, x.state = .counting n) ∨ x.state = .good) :
    x.breakRun = { x with state := .counting 0 } := by
  unfold Lane.breakRun
  obtain ⟨n, h⟩ | h := h <;> rw [h]

/-- A frame judged on a lane: in UP the frames that waited on it are placed (R15). -/
def judged (p : PortId) (l : LaneId) (s : State) : State :=
  if (s.port p).isUp then arbitrate p (releaseHeld p (otherLane l) s) else s

section Bad

variable {p : PortId} {l : LaneId} {r : RxReason} {s : State}

theorem receiveBad_quiet (ht : (s.port p).state ≠ .training) (hu : (s.port p).isUp = false) : receiveBad p l r s =
    raise .rxError [byteOf (portCode p), byteOf (laneCode l), byteOf (rxReasonCode r)] s := by
  refine (congrArg (judged p l) (if_neg ht)).trans (if_neg ?_)
  rw [raise_port, hu]
  decide

theorem receiveBad_training (ht : (s.port p).state = .training) : receiveBad p l r s =
    (raise .rxError [byteOf (portCode p), byteOf (laneCode l), byteOf (rxReasonCode r)] s).setPort p
      ((s.port p).setLane l ((s.port p).lane l).breakRun) := by
  refine (congrArg (judged p l) (if_pos ht)).trans (if_neg ?_)
  rw [State.port_setPort_same, Port.setLane_isUp, raise_port, Port.isUp, ht]
  decide

theorem receiveBad_up (hu : (s.port p).isUp = true) : receiveBad p l r s =
    let t := raise .rxError [byteOf (portCode p), byteOf (laneCode l), byteOf (rxReasonCode r)] s
    let x := (s.port p).lane (otherLane l)
    (t.rxFull p x.held).setPort p (Port.arbitrate
      (Port.placed x.held s.link.pauseQuanta ((s.port p).setLane (otherLane l) { x with held := [] }))) := by
  have ht : (s.port p).state ≠ .training := fun e => by rw [Port.isUp, e] at hu; exact absurd hu (by decide)
  refine (congrArg (judged p l) (if_neg ht)).trans ((if_pos hu).trans ?_)
  exact (congrArg (fun t => arbitrate p (releaseHeld p (otherLane l) t)) (State.setPort_port _ p).symm).trans
    (arbitrate_releaseHeld rfl _)

end Bad

theorem actTrain_sync {p : PortId} {l : LaneId} {s : State} (ha : (s.port p).activeOn l = true) :
    actTrain p l .sync s =
      afterValid p l (s.setPort p ((s.port p).setLane l { (s.port p).lane l with syncAnswer := true })) := by
  have hu := (Port.activeOn_up ha).1
  unfold actTrain
  cases hs : (s.port p).state <;> first | exact if_pos ha | (rw [Port.isUp, hs] at hu; exact absurd hu (by decide))

end Sys2Proof.Machine

namespace Sys2Proof

open Sys2Proof.Machine

/-- Settles O19. -/
theorem linkControlInUp : Obligations.LinkControlInUp := by
  intro p l later bytes f s hv
  refine ⟨fun ha => ?_, fun ha => ⟨(exec_receive_idle hv ha).1, (exec_receive_idle hv ha).2.1⟩⟩
  intro q o held settled heard
  refine ⟨fun hc => ?_, fun hc => ?_, fun hc hb => ?_⟩
  · exact (exec_receiveBeacon hv ha hc).trans (congrArg _ (afterValid_eq p l s))
  · refine (exec_receivePause hv ha hc).trans (congrArg Host.Outcome.next ?_)
    by_cases hb : byteAt f.payload 0 = 0
    · rw [if_pos hb, show (s.port p).gatePause (byteAt f.payload 0).toNat = _ from if_pos (by rw [hb]; rfl)]
      exact (afterValid_setPort (x := { s.port p with gate := .opened, gateTimer := none }) rfl l).trans
        (by cases l <;> rfl)
    · rw [if_neg hb, show (s.port p).gatePause (byteAt f.payload 0).toNat = _ from
        if_neg fun e => hb (BitVec.eq_of_toNat_eq e)]
      exact (afterValid_setPort (x := { s.port p with
        gate := .closed, gateTimer := some (byteAt f.payload 0).toNat }) rfl l).trans (by cases l <;> rfl)
  · refine (exec_receiveTrain hv (fun e => absurd ((Port.activeOn_up ha).2.symm.trans e) (by decide)) hc).trans
      (congrArg Host.Outcome.next ?_)
    rw [trainPhase, if_neg hb, actTrain_sync ha, afterValid_setPort (by cases l <;> rfl)]
    cases l <;> rfl

/-- Settles O20. -/
theorem receivedFramesEnterRxq : Obligations.ReceivedFramesEnterRxq := by
  intro p l later bytes f s hv hc q o heard
  refine ⟨fun ha => (exec_receive_idle hv ha).2.2, fun ha hl hs => ?_, fun ha hl => ?_⟩
  · refine (exec_receiveFrame hv ha hc).trans (congrArg Host.Outcome.next (if_pos ?_))
    rw [hl, decide_eq_true hs]
    rfl
  · intro fs r₀ r told
    have hx : exec (.receiveFrame p l later bytes) s = .next (afterValid p l (placeRxq p f s)) := by
      refine (exec_receiveFrame hv ha hc).trans (congrArg Host.Outcome.next (if_neg fun e => ?_))
      rw [Bool.and_eq_true, decide_eq_true_eq] at e
      obtain h | h := hl
      · exact absurd (h.symm.trans e.1) (by decide)
      · exact absurd (h.symm.trans e.2) (by decide)
    have ht : s.rxFull p fs = told := by
      by_cases h : 8 < q.rxq.length + fs.length
      · exact (if_pos ⟨List.cons_ne_nil _ _, h⟩).trans (if_pos h).symm
      · exact (if_neg fun e => h e.2).trans (if_neg h).symm
    have hr : (q.heard l).rxq = q.rxq := q.heard_rxq l
    have hu : (q.heard l).isUp = true := by
      rw [Port.heard, Port.setLane_isUp, Port.setLane_isUp]
      exact (Port.activeOn_up ha).1
    rw [hx, afterValid_placeRxq, ← ht]
    refine ⟨fun h1 h2 => congrArg (fun x => Host.Outcome.next ((s.rxFull p fs).setPort p (Port.arbitrate x))) ?_,
      fun h => congrArg (fun x => Host.Outcome.next ((s.rxFull p fs).setPort p (Port.arbitrate x))) ?_⟩
    · refine (if_pos ⟨hu, by rw [hr]; exact h1, by rw [hr]; exact h2⟩).trans ?_
      rw [hr]
      rfl
    · refine (if_neg fun e => ?_).trans ?_
      · rw [hr] at e
        exact h.elim (Nat.not_le.2 e.2.1) (Nat.not_lt.2 e.2.2)
      · rw [hr]
        rfl

/-- Settles O21. -/
theorem receptionChecks : Obligations.ReceptionChecks := by
  refine ⟨fun bytes => ?_, fun p l later bytes r s hb hl c hc => ?_⟩
  · have hlong (h1 : 20 ≤ bytes.length) : checkFrame bytes = _ := if_neg (Nat.not_lt.2 h1)
    have hcrc (h1 : 20 ≤ bytes.length) (h2 : bytes.length ≤ 512) : checkFrame bytes = _ :=
      (hlong h1).trans (if_neg (Nat.not_lt.2 h2))
    refine ⟨fun h => if_pos h, fun h => (hlong (by omega)).trans (if_pos h), fun h1 h2 h => (hcrc h1 h2).trans (if_pos (by rw [h]; rfl)),
      fun h1 h2 h => ?_⟩
    have hok : checkFrame bytes = if !headerOk bytes then .bad .badHeader else .valid (frameOfBytes bytes) :=
      (hcrc h1 h2).trans (if_neg (by rw [h]; decide))
    rw [hok]
    refine ⟨?_, ?_⟩
    · rw [← not_headerOk_iff]
      cases headerOk bytes <;> simp
    · cases headerOk bytes
      · exact .inr rfl
      · exact .inl ⟨_, rfl⟩
  · intro t
    rw [exec_receive_bad hb hl hc]
    refine ⟨fun h => congrArg _ ?_, fun h hx => congrArg _ ?_, fun h => congrArg _ ?_⟩
    · exact receiveBad_quiet (by obtain h | h := h <;> rw [h] <;> decide)
        (by rw [Port.isUp]; obtain h | h := h <;> rw [h] <;> rfl)
    · rw [receiveBad_training h, Lane.breakRun_run hx]
    · exact receiveBad_up h

end Sys2Proof
end

section
/-! Proofs for training and the ports' states (R1, R4 to R10, R12 to R14, R21). -/

namespace Sys2Proof.Machine

-- Proofs are elaborated in turn: side by side they take more memory.
set_option Elab.async false

open Sys2Proof

/-! ## The arbiter of a port that is not in UP (R6) -/

/-- What a free lane of a port that is not in UP starts: a TRAIN that is due. -/
def Lane.startTrain (x : Lane) : Lane :=
  match x.tx, x.trainDue with
  | none, some ph => { x with tx := some (trainFrame ph), trainDue := none }
  | _, _ => x

section StartTrain

variable {x : Lane}

theorem Lane.startTrain_busy (h : x.tx ≠ none) : x.startTrain = x := by
  unfold Lane.startTrain
  split
  · next ht _ => exact absurd ht h
  · rfl

theorem Lane.startTrain_due {ph : TrainPhase} (ht : x.tx = none) (hd : x.trainDue = some ph) :
    x.startTrain = { x with tx := some (trainFrame ph), trainDue := none } := by
  rw [Lane.startTrain, ht, hd]

theorem Lane.startTrain_none (hd : x.trainDue = none) : x.startTrain = x := by
  unfold Lane.startTrain
  split
  · next h => exact nomatch hd.symm.trans h
  · rfl

theorem Lane.startTrain_state (x : Lane) : x.startTrain.state = x.state := by
  unfold Lane.startTrain
  split <;> rfl

end StartTrain

theorem Port.startLane_down {q : Port} (h : q.isUp = false) (l : LaneId) :
    q.startLane l = q.setLane l (q.lane l).startTrain := by
  unfold Port.startLane
  split
  · next f hf => rw [Lane.startTrain_busy (by rw [hf]; exact nofun), Port.setLane_lane]
  · next ht =>
    rw [h]
    refine (if_neg (by rw [Bool.false_and]; decide)).trans ?_
    split
    · next hd => rw [Lane.startTrain_due ht hd]
    · next hd => rw [Lane.startTrain_none hd, Port.setLane_lane]

theorem Port.arbitrate_down {q : Port} (h : q.isUp = false) :
    q.arbitrate = { q with lane0 := q.lane0.startTrain, lane1 := q.lane1.startTrain } := by
  rw [Port.arbitrate, Port.startLane_down h, Port.startLane_down (by rw [Port.setLane_isUp, h])]
  rfl

/-! ## The arbiter with a PAUSE waiting (R21, R23) -/

theorem Port.fromQueues_pause {q r : Port} {f : Frame} (h : q.fromQueues = some (f, r)) :
    r.waitingPause = q.waitingPause := by
  have key {y : Frame × Port} (hy : q.fromQueues = some y) (e : y.2.waitingPause = q.waitingPause) :
      r.waitingPause = q.waitingPause :=
    (congrArg (fun y : Frame × Port => y.2.waitingPause) (Option.some.inj (h.symm.trans hy))).trans e
  cases hg : q.gate with
  | closed => exact nomatch (Port.fromQueues_closed hg).symm.trans h
  | opened =>
    cases hl : q.ltx <;> cases hf : q.ftx
    · exact nomatch (Port.fromQueues_none hg hl hf).symm.trans h
    · exact key (Port.fromQueues_ftx hg hl hf) rfl
    · exact key (Port.fromQueues_ltx hg hl hf) rfl
    · have hb := Port.fromQueues_both hg hf hl
      split at hb <;> exact key hb rfl

theorem Port.startLane_other (q : Port) (l : LaneId) :
    (q.startLane l).lane (otherLane l) = q.lane (otherLane l) := by
  unfold Port.startLane Port.startActive
  split
  · rfl
  · split
    · split
      · exact (Port.lane_setLane_other _ l _).trans (by cases l <;> rfl)
      · split
        · exact Port.lane_setLane_other q l _
        · split
          · exact Port.lane_setLane_other q l _
          · split
            · next h => exact (Port.lane_setLane_other _ l _).trans (Port.fromQueues_lane h _)
            · rfl
    · split
      · exact Port.lane_setLane_other q l _
      · rfl

theorem Port.startLane_noPause {q : Port} (h : q.waitingPause = none) (l : LaneId) :
    (q.startLane l).waitingPause = none := by
  unfold Port.startLane Port.startActive
  split
  · exact h
  · split
    · split
      · exact Port.setLane_waitingPause _ l _
      · split
        · exact (Port.setLane_waitingPause q l _).trans h
        · split
          · exact (Port.setLane_waitingPause q l _).trans h
          · split
            · next hq => exact (Port.setLane_waitingPause _ l _).trans ((Port.fromQueues_pause hq).trans h)
            · exact h
    · split
      · exact (Port.setLane_waitingPause q l _).trans h
      · exact h

/-- Lane `l` is ACTIVE and sends nothing. -/
def Port.FreeLane (q : Port) (l : LaneId) : Prop := (q.lane l).state = .active ∧ (q.lane l).tx = none

theorem Port.startLane_notFree {q : Port} {l : LaneId} (h : ¬ q.FreeLane l) :
    (q.startLane l).waitingPause = q.waitingPause := by
  unfold Port.startLane
  split
  · rfl
  · next ht =>
    rw [decide_eq_false fun e => h ⟨e, ht⟩, Bool.and_false]
    refine (congrArg Port.waitingPause (if_neg (by decide))).trans ?_
    split
    · exact Port.setLane_waitingPause q l _
    · rfl

theorem Port.startLane_free {q : Port} {l : LaneId} {w : Byte} (hu : q.isUp = true) (hw : q.waitingPause = some w)
    (h : q.FreeLane l) :
    ((q.startLane l).lane l).tx = some (pauseFrame w) ∧ (q.startLane l).waitingPause = none := by
  rw [Port.startLane_active hu h.1 h.2, Port.startActive_pause hw]
  cases l <;> exact ⟨rfl, rfl⟩

theorem Port.arbitrate_pause {q : Port} {w : Byte} (hu : q.isUp = true) (hw : q.waitingPause = some w) :
    (q.FreeLane .zero → q.arbitrate.lane0.tx = some (pauseFrame w) ∧ q.arbitrate.waitingPause = none) ∧
    (¬ q.FreeLane .zero → q.FreeLane .one →
      q.arbitrate.lane1.tx = some (pauseFrame w) ∧ q.arbitrate.waitingPause = none) ∧
    (¬ q.FreeLane .zero → ¬ q.FreeLane .one → q.arbitrate.waitingPause = some w) := by
  have hone : (q.startLane .zero).FreeLane .one ↔ q.FreeLane .one := by
    rw [Port.FreeLane, show (q.startLane .zero).lane .one = q.lane .one from Port.startLane_other q .zero]
    rfl
  refine ⟨fun h => ?_, fun h0 h1 => ?_, fun h0 h1 => ?_⟩
  · obtain ⟨ht, hn⟩ := Port.startLane_free hu hw h
    exact ⟨(congrArg Lane.tx (Port.startLane_other (q.startLane .zero) .one)).trans ht, Port.startLane_noPause hn .one⟩
  · exact Port.startLane_free (l := .one) ((Port.Sends.startLane q .zero).isUp.trans hu)
      ((Port.startLane_notFree h0).trans hw) (hone.2 h1)
  · exact (Port.startLane_notFree (mt hone.1 h1)).trans ((Port.startLane_notFree h0).trans hw)

/-! ## Entering UP (R8, R9, R21) -/

/-- A port that stands in UP, before its arbiter has run. -/
def Port.atUp (st : PortState) (a b : Lane) (n : Nat) (q : Port) : Port :=
  let r := { q with state := st, windowCount := 0, windowTimer := false, syncTimer := false, gate := .opened
                    gateTimer := none, pauseAsserted := false, resendTimer := none, waitingPause := none
                    lane0 := a, lane1 := b }
  if 6 ≤ q.rxq.length then r.assertPause n else r

section AtUp

variable {q : Port} {st : PortState} {a b : Lane} {n : Nat}

theorem Port.atUp_sends : (q.atUp st a b n).Sends (q.toUp st a b n) := Port.Sends.arbitrate _

theorem Port.atUp_fields : (q.atUp st a b n).state = st ∧ (q.atUp st a b n).windowCount = 0 ∧
    (q.atUp st a b n).gate = .opened ∧ (q.atUp st a b n).gateTimer = none ∧ (q.atUp st a b n).rxq = q.rxq ∧
    (q.atUp st a b n).lane0 = a ∧ (q.atUp st a b n).lane1 = b := by
  unfold Port.atUp
  dsimp only
  split <;> exact ⟨rfl, rfl, rfl, rfl, rfl, rfl, rfl⟩

/-- The port once in UP, but for what its arbiter starts. -/
theorem Port.toUp_stands : (q.toUp st a b n).state = st ∧ (q.toUp st a b n).windowCount = 0 ∧
    (q.toUp st a b n).gate = .opened ∧
    ((q.toUp st a b n).lane0.state = a.state ∧ (q.toUp st a b n).lane0.idleTimer = a.idleTimer ∧
      (q.toUp st a b n).lane0.rxSilence = a.rxSilence) ∧
    (q.toUp st a b n).lane1.state = b.state ∧ (q.toUp st a b n).lane1.idleTimer = b.idleTimer ∧
      (q.toUp st a b n).lane1.rxSilence = b.rxSilence := by
  have hs := q.atUp_sends (st := st) (a := a) (b := b) (n := n)
  obtain ⟨h1, h2, h3, -, -, h6, h7⟩ := q.atUp_fields (st := st) (a := a) (b := b) (n := n)
  exact ⟨hs.state.trans h1, hs.windowCount.trans h2, hs.gate.trans h3,
    ⟨(hs.laneState .zero).trans (congrArg Lane.state h6), (hs.laneIdleTimer .zero).trans (congrArg Lane.idleTimer h6),
      (hs.laneRxSilence .zero).trans (congrArg Lane.rxSilence h6)⟩,
    (hs.laneState .one).trans (congrArg Lane.state h7), (hs.laneIdleTimer .one).trans (congrArg Lane.idleTimer h7),
    (hs.laneRxSilence .one).trans (congrArg Lane.rxSilence h7)⟩

theorem Port.toUp_flow {q₀ : Port} (hst : st = .upDual ∨ st = .upSingle) (hq : q.rxq = q₀.rxq)
    (ha : a.state = .active → a.tx = q₀.lane0.tx) (hb : b.state = .active → b.tx = q₀.lane1.tx) :
    FlowCheckedOnUp n q₀ (q.toUp st a b n) := by
  have hs := q.atUp_sends (st := st) (a := a) (b := b) (n := n)
  obtain ⟨h1, -, -, h4, h5, h6, h7⟩ := q.atUp_fields (st := st) (a := a) (b := b) (n := n)
  have hu : (q.atUp st a b n).isUp = true := by
    rw [Port.isUp, h1]
    obtain h | h := hst <;> rw [h] <;> rfl
  rw [hq] at h5
  have hfree (l : LaneId) : ((q.toUp st a b n).lane l).state = .active ∧ (q₀.lane l).tx = none ↔
      (q.atUp st a b n).FreeLane l := by
    rw [hs.laneState]
    cases l
    · show (q.atUp st a b n).lane0.state = .active ∧ q₀.lane0.tx = none ↔
        (q.atUp st a b n).lane0.state = .active ∧ (q.atUp st a b n).lane0.tx = none
      rw [h6]
      exact and_congr_right fun h => by rw [ha h]
    · show (q.atUp st a b n).lane1.state = .active ∧ q₀.lane1.tx = none ↔
        (q.atUp st a b n).lane1.state = .active ∧ (q.atUp st a b n).lane1.tx = none
      rw [h7]
      exact and_congr_right fun h => by rw [hb h]
  refine ⟨hs.rxq.trans h5, hs.gateTimer.trans h4, fun h => ?_, fun h => ?_⟩
  · have he : (q.atUp st a b n).pauseAsserted = false ∧ (q.atUp st a b n).resendTimer = none ∧
        (q.atUp st a b n).waitingPause = none := by
      unfold Port.atUp
      rw [if_neg (by rw [hq]; exact Nat.not_le.2 h)]
      exact ⟨rfl, rfl, rfl⟩
    exact ⟨hs.pauseAsserted.trans he.1, hs.resendTimer.trans he.2.1,
      Port.startLane_noPause (Port.startLane_noPause he.2.2 .zero) .one⟩
  · have he : (q.atUp st a b n).pauseAsserted = true ∧
        (q.atUp st a b n).resendTimer = some (max 1 (n / 2)) ∧ (q.atUp st a b n).waitingPause = some (byteOf n) := by
      unfold Port.atUp
      rw [if_pos (by rw [hq]; exact h)]
      exact ⟨rfl, rfl, rfl⟩
    obtain ⟨p1, p2, p3⟩ := Port.arbitrate_pause hu he.2.2
    exact ⟨hs.pauseAsserted.trans he.1, hs.resendTimer.trans he.2.1, fun h => p1 ((hfree .zero).1 h),
      fun h0 h1 => p2 (mt (hfree .zero).2 h0) ((hfree .one).1 h1),
      fun h0 h1 => p3 (mt (hfree .zero).2 h0) (mt (hfree .one).2 h1)⟩

end AtUp

theorem topologyChange_port (p : PortId) (s : State) : (topologyChange s).port p = s.port p := by
  unfold topologyChange
  split <;> rfl

/-- What entering UP leaves: the port as it stands then, and the other port. -/
theorem enterUp_port (p : PortId) (st : PortState) (a b : Lane) (s : State) :
    (enterUp p st a b s).port p = (s.port p).toUp st a b s.link.pauseQuanta ∧
      (enterUp p st a b s).port (opposite p) = s.port (opposite p) := by
  unfold enterUp
  exact ⟨(topologyChange_port p _).trans (State.port_setPort_same s p _),
    (topologyChange_port _ _).trans (State.port_setPort_opposite s p _)⟩

/-! ## TRAIN frames sent and counted (R5, R6, R7) -/

theorem trainFallsDue_eq {q : Port} (h : q.isUp = false) (ph : TrainPhase) : q.trainFallsDue ph =
    { q with lane0 := (q.lane0.trainFallsDue ph).startTrain, lane1 := (q.lane1.trainFallsDue ph).startTrain } :=
  Port.arbitrate_down (q := { q with lane0 := q.lane0.trainFallsDue ph, lane1 := q.lane1.trainFallsDue ph }) h

theorem trainFallsDue_spec {q : Port} (h : q.isUp = false) (ph : TrainPhase) :
    q.SameButLanes (q.trainFallsDue ph) ∧
      ∀ l, (q.trainFallsDue ph).lane l = ((q.lane l).trainFallsDue ph).startTrain := by
  rw [trainFallsDue_eq h]
  exact ⟨rfl, fun l => by cases l <;> rfl⟩

theorem onlyPort_setPort (s : State) (p : PortId) (x : Port) : OnlyPort p s (s.setPort p x) :=
  ⟨setPort_keeps (.refl [.link] s), State.port_setPort_opposite s p x, State.setPort_quanta s p x⟩

/-- The states of a lane that sends SYNC and is counted on (R6, R7). -/
def Lane.Trains (x : Lane) : Prop := (∃ n, x.state = .counting n) ∨ x.state = .good

section Trains

variable {x : Lane}

theorem Lane.trainFallsDue_seek (h : x.state = .seeking) :
    x.trainFallsDue .seek = { x with trainDue := some .seek } := by
  simp only [Lane.trainFallsDue, h]

theorem Lane.trainFallsDue_seek_ne (h : x.state ≠ .seeking) : x.trainFallsDue .seek = x := by
  unfold Lane.trainFallsDue
  split <;> first | rfl | exact absurd ‹x.state = .seeking› h | contradiction

theorem Lane.trainFallsDue_sync (h : x.Trains) : x.trainFallsDue .sync = { x with trainDue := some .sync } := by
  obtain ⟨n, h⟩ | h := h <;> simp only [Lane.trainFallsDue, h]

theorem Lane.trainFallsDue_sync_ne (h : ¬ x.Trains) : x.trainFallsDue .sync = x := by
  unfold Lane.trainFallsDue
  split
  · contradiction
  · next hx => exact absurd (.inl ⟨_, hx⟩) h
  · next hx => exact absurd (.inr hx) h
  · rfl

theorem Lane.countTrain_few {n : Nat} (h : x.state = .counting n) (hn : n < 3) :
    x.countTrain = { x with state := .counting (n + 1), trainSilence := true } := by
  rw [Lane.countTrain, h]
  exact congrArg (fun st => ({ x with state := st, trainSilence := true } : Lane)) (if_neg (Nat.not_le.2 hn))

theorem Lane.countTrain_good (h : (∃ n, x.state = .counting n ∧ 3 ≤ n) ∨ x.state = .good) :
    x.countTrain = { x with state := .good, trainSilence := true } := by
  unfold Lane.countTrain
  obtain ⟨n, h, hn⟩ | h := h
  · rw [h]
    exact congrArg (fun st => ({ x with state := st, trainSilence := true } : Lane)) (if_pos hn)
  · simp only [h]

end Trains

theorem Port.training_not_up {q : Port} (h : q.state = .training) : q.isUp = false := by rw [Port.isUp, h]; rfl

theorem Port.down_not_up {q : Port} (h : q.state = .down) : q.isUp = false := by rw [Port.isUp, h]; rfl

/-- Every lane within the limit is GOOD, said lane by lane. -/
theorem Port.allGood_iff {q : Port} {l : LaneId} (hw : q.within l = true) : q.allGood = true ↔
    (q.lane l).state = .good ∧ (q.within .one = true → (q.lane (otherLane l)).state = .good) := by
  unfold Port.allGood
  cases l
  · show _ ↔ q.lane0.state = .good ∧ (q.within .one = true → q.lane1.state = .good)
    simp [Bool.or_eq_true, imp_iff_not_or]
  · show _ ↔ q.lane1.state = .good ∧ (q.within .one = true → q.lane0.state = .good)
    simp [hw, and_comm]

theorem actTrain_training {p : PortId} {l : LaneId} {ph : TrainPhase} {s : State} {x : Lane}
    (h : (s.port p).state = .training) (hx : ((s.port p).lane l).countTrain = x) : actTrain p l ph s =
      let t := s.setPort p ((s.port p).setLane l x)
      if (t.port p).allGood then endWindowEarly p t else t := by
  unfold actTrain
  rw [h, hx]

theorem endWindowEarly_dual {p : PortId} {s : State} (h : (s.port p).within .one = true) :
    endWindowEarly p s = enterUp p .upDual (s.port p).lane0.toActive (s.port p).lane1.toActive s := if_pos h

theorem endWindowEarly_single {p : PortId} {s : State} (h : (s.port p).within .one = false) :
    endWindowEarly p s = enterUp p .upSingle (s.port p).lane0.toActive (s.port p).lane1 s :=
  if_neg (by rw [h]; decide)

end Sys2Proof.Machine

namespace Sys2Proof

open Sys2Proof.Machine

/-- Settles O16. -/
theorem trainFramesAreSentAndCounted : Obligations.TrainFramesAreSentAndCounted := by
  refine ⟨fun p s => ⟨fun h ht => ?_, fun h ht => ?_⟩, fun p l later bytes f s h hw => ?_⟩
  · obtain ⟨hsame, hl⟩ := trainFallsDue_spec (Port.down_not_up h) .seek
    refine ⟨_, congrArg Host.Outcome.next (if_pos ⟨h, ht⟩), onlyPort_setPort s p _, ?_, fun l => ?_⟩
    · rw [State.port_setPort_same]
      exact hsame
    · rw [State.port_setPort_same, hl]
      refine ⟨fun hx hn => ?_, fun hx hn => ?_, fun hx hn => ?_⟩
      · rw [Lane.trainFallsDue_seek hx]
        exact Lane.startTrain_due hn rfl
      · rw [Lane.trainFallsDue_seek hx]
        exact Lane.startTrain_busy hn
      · rw [Lane.trainFallsDue_seek_ne hx, Lane.startTrain_none hn]
  · obtain ⟨hsame, hl⟩ := trainFallsDue_spec (Port.training_not_up h) .sync
    refine ⟨_, congrArg Host.Outcome.next (if_pos ⟨h, ht⟩), onlyPort_setPort s p _, ?_, fun l => ?_⟩
    · rw [State.port_setPort_same]
      exact hsame
    · rw [State.port_setPort_same, hl]
      refine ⟨fun hx hn => ?_, fun hx hn => ?_, fun hx hn => ?_⟩
      · rw [Lane.trainFallsDue_sync hx]
        exact Lane.startTrain_due hn rfl
      · rw [Lane.trainFallsDue_sync hx]
        exact Lane.startTrain_busy hn
      · rw [Lane.trainFallsDue_sync_ne hx, Lane.startTrain_none hn]
  · intro x
    have hrun {n : Nat} (hx : x.state = .counting n) : x.state ≠ .off := by rw [hx]; exact nofun
    refine ⟨fun hv hc => ⟨fun n hx hn => ?_, fun hx => ?_⟩, fun ht hx => ?_⟩
    · rw [exec_receiveTrain hv (hrun hx) hc, actTrain_training h (Lane.countTrain_few hx hn)]
      refine congrArg Host.Outcome.next (if_neg fun hg => ?_)
      rw [State.port_setPort_same, Port.allGood_iff (l := l) (by cases l <;> exact hw), Port.lane_setLane_same] at hg
      exact absurd hg.1 nofun
    · have hoff : x.state ≠ .off := by
        obtain ⟨n, hx, -⟩ | hx := hx
        · exact hrun hx
        · rw [hx]
          decide
      rw [exec_receiveTrain hv hoff hc, actTrain_training h (Lane.countTrain_good hx)]
      have hwin (k : LaneId) : ((s.port p).setLane l { x with state := .good, trainSilence := true }).within k =
          (s.port p).within k := by cases l <;> cases k <;> rfl
      have hgood : ((s.port p).setLane l { x with state := .good, trainSilence := true }).allGood = true ↔
          ((s.port p).within .one = true → ((s.port p).lane (otherLane l)).state = .good) := by
        rw [Port.allGood_iff (l := l) (by rw [hwin, hw]), Port.lane_setLane_same, Port.lane_setLane_other, hwin]
        exact and_iff_right rfl
      have hkeep {st : PortState} {a b : Lane} : UnchangedBut [.link, .consist, .reports] s
          (enterUp p st a b (s.setPort p ((s.port p).setLane l { x with state := .good, trainSilence := true }))) :=
        enterUp_keeps (setPort_keeps (.refl _ s))
      have hport (st : PortState) (a b : Lane) := enterUp_port p st a b
        (s.setPort p ((s.port p).setLane l { x with state := .good, trainSilence := true }))
      simp only [State.port_setPort_same, State.port_setPort_opposite, State.setPort_quanta] at hport
      dsimp only
      rw [State.port_setPort_same]
      refine ⟨fun h1 hg => congrArg _ (if_neg fun e => hg (hgood.1 e h1)), fun h1 hg => ?_, fun h1 => ?_⟩
      · rw [if_pos (hgood.2 fun _ => hg), endWindowEarly_dual (by rw [State.port_setPort_same, hwin, h1])]
        refine ⟨_, rfl, hkeep, (hport _ _ _).2, ?_⟩
        rw [(hport _ _ _).1, State.port_setPort_same]
        obtain ⟨hs, hw, hg, h0, h1⟩ := Port.toUp_stands (q := (s.port p).setLane l
          { x with state := .good, trainSilence := true }) (st := .upDual) (n := s.link.pauseQuanta)
        exact ⟨hs, hw, hg, Port.toUp_flow (.inl rfl) (Port.setLane_rxq _ l _) (fun _ => by cases l <;> rfl)
          (fun _ => by cases l <;> rfl), fun k => by cases k <;> assumption⟩
      · have hl : l = .zero := by
          cases l
          · rfl
          · exact absurd (h1.symm.trans hw) (by decide)
        subst hl
        rw [if_pos (hgood.2 fun e => absurd (h1.symm.trans e) (by decide)),
          endWindowEarly_single (by rw [State.port_setPort_same, hwin, h1])]
        refine ⟨_, rfl, hkeep, (hport _ _ _).2, ?_⟩
        rw [(hport _ _ _).1, State.port_setPort_same]
        obtain ⟨hs, hw, hg, h0, h1⟩ := Port.toUp_stands (q := (s.port p).setLane .zero
          { x with state := .good, trainSilence := true }) (st := .upSingle) (n := s.link.pauseQuanta)
        exact ⟨hs, hw, hg, Port.toUp_flow (.inr rfl) (Port.setLane_rxq _ .zero _) (fun _ => rfl) (fun _ => rfl),
          h0⟩
    · refine congrArg Host.Outcome.next ((if_pos ⟨h, ht⟩).trans ?_)
      rw [Lane.breakRun_run hx]

end Sys2Proof
end

section
/-! Proofs for the ports' states: entering DOWN, OFF and TRAINING, and leaving UP (R1, R4, R5, R9, R10, R12 to R14). -/

namespace Sys2Proof.Machine

-- Proofs are elaborated in turn: side by side they take more memory.
set_option Elab.async false

open Sys2Proof

/-! ## Reports of a port (R13) -/

theorem raise_cells_length (cls : ReportClass) (d : List Byte) (s : State) :
    (raise cls d s).reports.cells.length = s.reports.cells.length := updAt_length _ _ _

theorem report_raised {s : State} (h : s.reports.cells.length = 16) (cls : ReportClass) (d : List Byte) :
    ((raise cls d s).report cls).pending = true ∧ ((raise cls d s).report cls).detail = d := by
  rw [report_raise_same cls d s h, raiseCell_eq]
  exact ⟨rfl, rfl⟩

theorem overflow_ne_portClass (p : PortId) : ReportClass.overflow ≠ portClass p := by cases p <;> decide

theorem report_reportPort (p : PortId) (k : Nat) (s : State) :
    (reportPort p k s).report .overflow = s.report .overflow := report_raise_other (overflow_ne_portClass p) _ s

theorem report_topologyChange (s : State) : (topologyChange s).report .overflow = s.report .overflow := by
  unfold topologyChange
  split
  · exact report_raise_other (by decide) _ _
  · rfl

theorem topologyChange_cells (s : State) :
    (topologyChange s).reports.cells.length = s.reports.cells.length := by
  unfold topologyChange
  split
  · exact raise_cells_length _ _ _
  · rfl

theorem topologyChange_consist (s : State) : (topologyChange s).consist =
    { s.consist with state := if s.consist.state = .valid then .stale else s.consist.state } := by
  unfold topologyChange
  split
  · rfl
  · rfl

theorem rxFull_cells (s : State) (p : PortId) (fs : List Frame) :
    (s.rxFull p fs).reports.cells.length = s.reports.cells.length := by
  unfold State.rxFull
  split
  · exact raise_cells_length _ _ _
  · rfl

theorem rxFull_raised {s : State} {p : PortId} {fs : List Frame} (hf : fs ≠ [])
    (hl : 8 < (s.port p).rxq.length + fs.length) (h : s.reports.cells.length = 16) :
    ((s.rxFull p fs).report .overflow).pending = true ∧
      ((s.rxFull p fs).report .overflow).detail = [0, byteOf (portCode p)] := by
  rw [State.rxFull, if_pos ⟨hf, hl⟩]
  exact report_raised h _ _

theorem rxFull_keeps {ps : List Part} {p : PortId} {fs : List Frame} {s t : State} (h : UnchangedBut ps s t)
    (m : Part.reports ∈ ps) : UnchangedBut ps s (t.rxFull p fs) := by
  unfold State.rxFull
  split
  · exact raise_keeps h
  · exact h

theorem Port.placed_rxq (q : Port) (fs : List Frame) (n : Nat) :
    (q.placed fs n).rxq = q.rxq ++ fs.take (8 - q.rxq.length) := by
  unfold Port.placed
  dsimp only
  split <;> rfl

theorem Port.placed_state (q : Port) (fs : List Frame) (n : Nat) : (q.placed fs n).state = q.state := by
  unfold Port.placed
  dsimp only
  split <;> rfl

theorem Port.placed_working (q : Port) (fs : List Frame) (n : Nat) :
    (q.placed fs n).working = q.working ∧ (q.placed fs n).heldSettings = q.heldSettings := by
  unfold Port.placed
  dsimp only
  split <;> exact ⟨rfl, rfl⟩

/-! ## Entering DOWN (R1, R5) -/

theorem Port.toDown_eq (q : Port) : q.toDown =
    { q with
      working := q.heldSettings, state := .down, windowCount := 0, windowTimer := false, seekTimer := true
      syncTimer := false, lane0 := (q.lane0.toDown true).startTrain
      lane1 := (q.lane1.toDown (decide (q.heldSettings.limit = .dual))).startTrain } :=
  Port.arbitrate_down rfl

/-- The port in OFF after it has adopted its held settings (R1, R4). -/
def Port.offAdopted (q : Port) : Port :=
  { q with state := .off, working := q.heldSettings, windowCount := 0, windowTimer := false, seekTimer := false
           syncTimer := false, lane0 := {}, lane1 := {} }

theorem Port.toOff_toDown (q : Port) : q.toDown.toOff = q.offAdopted := by rw [Port.toDown_eq]; rfl

theorem reportPort_toDown (p : PortId) (k : Nat) (q : Port) (s : State) : reportPort p k (s.setPort p q.toDown) =
    raise (portClass p) [1, 1, if q.heldSettings.limit = .dual then 1 else 0, byteOf k] (s.setPort p q.toDown) := by
  unfold reportPort
  rw [State.port_setPort_same, Port.toDown_eq]
  dsimp only
  rw [Lane.startTrain_state, Lane.startTrain_state]
  unfold Lane.toDown
  by_cases h : q.heldSettings.limit = .dual
  · rw [decide_eq_true h, if_pos h]
    rfl
  · rw [decide_eq_false h, if_neg h]
    rfl

section Down

variable {p : PortId} {k : Nat} {s : State}

theorem passToOff_present (h : (s.port p).working.presence = .present) : passToOff p s = s :=
  if_neg (by rw [h]; decide)

theorem passToOff_absent (h : (s.port p).working.presence = .absent) : passToOff p s =
    raise (portClass p) [0, 0, 0, 0] (s.setPort p (s.port p).toOff) := by
  refine (if_pos h).trans ?_
  unfold reportPort
  rw [State.port_setPort_same]
  rfl

theorem enterDown_present (h : (s.port p).heldSettings.presence = .present) : enterDown p k s =
    raise (portClass p) [1, 1, if (s.port p).heldSettings.limit = .dual then 1 else 0, byteOf k]
      (s.setPort p (s.port p).toDown) := by
  rw [enterDown, reportPort_toDown, passToOff_present]
  rw [raise_port, State.port_setPort_same, Port.toDown_eq]
  exact h

theorem enterDown_absent (h : (s.port p).heldSettings.presence = .absent) : enterDown p k s =
    raise (portClass p) [0, 0, 0, 0]
      (raise (portClass p) [1, 1, if (s.port p).heldSettings.limit = .dual then 1 else 0, byteOf k]
        (s.setPort p (s.port p).offAdopted)) := by
  rw [enterDown, reportPort_toDown, passToOff_absent]
  · rw [raise_port, State.port_setPort_same, Port.toOff_toDown, ← raise_setPort, State.setPort_setPort]
  · rw [raise_port, State.port_setPort_same, Port.toDown_eq]
    exact h

theorem reenterDown_present (h : (s.port p).heldSettings.presence = .present) :
    reenterDown p s = s.setPort p (s.port p).toDown := by
  refine passToOff_present ?_
  rw [State.port_setPort_same, Port.toDown_eq]
  exact h

theorem reenterDown_absent (h : (s.port p).heldSettings.presence = .absent) :
    reenterDown p s = raise (portClass p) [0, 0, 0, 0] (s.setPort p (s.port p).offAdopted) := by
  refine (passToOff_absent ?_).trans ?_
  · rw [State.port_setPort_same, Port.toDown_eq]
    exact h
  · rw [State.port_setPort_same, Port.toOff_toDown, State.setPort_setPort]

end Down

theorem Lane.toDown_abandon (c : Prop) [Decidable c] (x : Lane) : (x.abandon.toDown (decide c)).startTrain =
    if c then { state := .seeking, tx := some (trainFrame .seek) } else {} := by
  by_cases h : c
  · rw [decide_eq_true h, if_pos h]
    rfl
  · rw [decide_eq_false h, if_neg h]
    rfl

/-! ## Leaving UP (R14) -/

/-- A port that has left UP: what waited on start order placed, its queues and marks emptied, its lanes quiet. -/
def Port.left (n : Nat) (q : Port) : Port :=
  { q.placed (q.lane0.held ++ q.lane1.held) n with
    ftx := [], ltx := [], gate := .opened, gateTimer := none, pauseAsserted := false, resendTimer := none
    waitingPause := none, fairness := 0, lane0 := q.lane0.abandon, lane1 := q.lane1.abandon }

theorem leaveUp_eq (p : PortId) (s : State) : leaveUp p s = topologyChange
    ((s.rxFull p ((s.port p).lane0.held ++ (s.port p).lane1.held)).setPort p ((s.port p).left s.link.pauseQuanta)) := by
  have h0 := (s.port p).placed_lane .zero ((s.port p).lane0.held ++ (s.port p).lane1.held) s.link.pauseQuanta
  have h1 := (s.port p).placed_lane .one ((s.port p).lane0.held ++ (s.port p).lane1.held) s.link.pauseQuanta
  unfold leaveUp
  dsimp only
  rw [placeHeld_eq, State.port_setPort_same, State.setPort_setPort]
  exact congrArg (fun x => topologyChange ((s.rxFull p _).setPort p x))
    (congrArg₂ (fun a b => ({ (s.port p).left s.link.pauseQuanta with lane0 := a, lane1 := b } : Port))
      (congrArg Lane.abandon h0) (congrArg Lane.abandon h1))

theorem leaveUp_port (p : PortId) (s : State) : (leaveUp p s).port p = (s.port p).left s.link.pauseQuanta ∧
    (leaveUp p s).port (opposite p) = s.port (opposite p) := by
  rw [leaveUp_eq]
  exact ⟨(topologyChange_port _ _).trans (State.port_setPort_same _ _ _),
    (topologyChange_port _ _).trans ((State.port_setPort_opposite _ _ _).trans (rxFull_port _ _ _ _))⟩

theorem leaveUp_cells (p : PortId) (s : State) : (leaveUp p s).reports.cells.length = s.reports.cells.length := by
  rw [leaveUp_eq]
  exact (topologyChange_cells _).trans (rxFull_cells _ _ _)

theorem leaveUp_consist (p : PortId) (s : State) : (leaveUp p s).consist =
    { s.consist with state := if s.consist.state = .valid then .stale else s.consist.state } := by
  have h : (s.rxFull p ((s.port p).lane0.held ++ (s.port p).lane1.held)).consist = s.consist :=
    (rxFull_keeps (.refl [.reports] s) (by decide)).consist (by decide)
  rw [leaveUp_eq]
  refine (topologyChange_consist _).trans ?_
  rw [State.setPort_consist, h]

theorem leaveUp_overflow {p : PortId} {s : State} (hf : (s.port p).lane0.held ++ (s.port p).lane1.held ≠ [])
    (hl : 8 < (s.port p).rxq.length + ((s.port p).lane0.held ++ (s.port p).lane1.held).length)
    (h : s.reports.cells.length = 16) : ((leaveUp p s).report .overflow).pending = true ∧
      ((leaveUp p s).report .overflow).detail = [0, byteOf (portCode p)] := by
  rw [leaveUp_eq, report_topologyChange]
  exact rxFull_raised hf hl h

/-! ## Entering TRAINING (R5, R10) -/

theorem Port.toTraining_eq (l : LaneId) (q : Port) : q.toTraining l =
    { q with
      state := .training, windowCount := 1, windowTimer := true, seekTimer := false, syncTimer := true
      lane0 := (q.lane0.toTraining (q.within .zero) (if l = LaneId.zero then 1 else 0)).startTrain
      lane1 := (q.lane1.toTraining (q.within .one) (if l = LaneId.one then 1 else 0)).startTrain } :=
  Port.arbitrate_down rfl

theorem Port.toTraining_lane (l k : LaneId) (q : Port) : (q.toTraining l).lane k =
    ((q.lane k).toTraining (q.within k) (if k = l then 1 else 0)).startTrain := by
  rw [Port.toTraining_eq]
  cases k <;> cases l <;> rfl

theorem Lane.toTraining_free {x : Lane} (h : x.tx = none) (n : Nat) : (x.toTraining true n).startTrain =
    { state := .counting n, trainSilence := true, tx := some (trainFrame .sync) } := by
  rw [Lane.toTraining, if_pos rfl]
  exact Lane.startTrain_due h rfl

theorem Lane.toTraining_busy {x : Lane} (h : x.tx ≠ none) (n : Nat) : (x.toTraining true n).startTrain =
    { state := .counting n, tx := x.tx, trainSilence := true, trainDue := some .sync } := by
  rw [Lane.toTraining, if_pos rfl]
  exact Lane.startTrain_busy h

theorem Port.toTraining_out {q : Port} {l k : LaneId} (h : q.within k = false) : (q.toTraining l).lane k = {} := by
  rw [Port.toTraining_lane, h]
  rfl

theorem Port.toTraining_quiet (q : Port) (l k : LaneId) : ((q.toTraining l).lane k).held = [] ∧
    ((q.toTraining l).lane k).syncAnswer = false ∧ ((q.toTraining l).lane k).beaconDue = false := by
  rw [Port.toTraining_lane]
  cases q.within k
  · exact ⟨rfl, rfl, rfl⟩
  · by_cases h : (q.lane k).tx = none
    · rw [Lane.toTraining_free h]
      exact ⟨rfl, rfl, rfl⟩
    · rw [Lane.toTraining_busy h]
      exact ⟨rfl, rfl, rfl⟩

theorem Port.toTraining_within {q : Port} {l k : LaneId} (hk : q.within k = true) :
    ((q.toTraining l).lane k).state = .counting (if k = l then 1 else 0) ∧
    ((q.toTraining l).lane k).trainSilence = true ∧
    ((q.lane k).tx = none → ((q.toTraining l).lane k).tx = some (trainFrame .sync) ∧
      ((q.toTraining l).lane k).trainDue = none) ∧
    ((q.lane k).tx ≠ none → ((q.toTraining l).lane k).tx = (q.lane k).tx ∧
      ((q.toTraining l).lane k).trainDue = some .sync) := by
  rw [Port.toTraining_lane, hk]
  by_cases h : (q.lane k).tx = none
  · rw [Lane.toTraining_free h]
    exact ⟨rfl, rfl, fun _ => ⟨rfl, rfl⟩, absurd h⟩
  · rw [Lane.toTraining_busy h]
    exact ⟨rfl, rfl, fun e => absurd e h, fun _ => ⟨rfl, rfl⟩⟩

theorem Port.left_within (n : Nat) (q : Port) (k : LaneId) : (q.left n).within k = q.within k := by
  cases k
  · rfl
  · show decide (_ = _) = decide _
    rw [show (q.left n).working = q.working from (q.placed_working _ n).1]

theorem Port.left_lane_tx (n : Nat) (q : Port) (k : LaneId) : ((q.left n).lane k).tx = none := by cases k <;> rfl

/-- What a port enters TRAINING with, whatever it was before: the state, and its lanes. -/
theorem enterTraining_spec (p : PortId) (l : LaneId) (u : State) :
    (enterTraining p l u).port p = (u.port p).toTraining l ∧
      (enterTraining p l u).port (opposite p) = u.port (opposite p) ∧
      (enterTraining p l u).report .overflow = u.report .overflow ∧ (enterTraining p l u).consist = u.consist :=
  ⟨State.port_setPort_same u p _, State.port_setPort_opposite u p _, report_reportPort p 0 _, rfl⟩

theorem Port.arbitrate_quiet {q : Port} {l : LaneId} (h : (q.lane l).state ≠ .active)
    (hd : (q.lane l).trainDue = none) : q.arbitrate.lane l = q.lane l := by
  have key {r : Port} (h : (r.lane l).state ≠ .active) (hd : (r.lane l).trainDue = none) : r.startLane l = r := by
    unfold Port.startLane
    split
    · rfl
    · rw [decide_eq_false h, Bool.and_false, hd]
      rfl
  cases l with
  | zero =>
    rw [Port.arbitrate, key h hd]
    exact Port.startLane_other q .one
  | one =>
    have ho : (q.startLane .zero).lane .one = q.lane .one := Port.startLane_other q .zero
    rw [Port.arbitrate, key (by rw [ho]; exact h) (by rw [ho]; exact hd), ho]

/-! ## Writes of a port's settings (R1) -/

/-- The held settings after a write of presence or lane limit. -/
def PortSettings.written (presence v : Bool) (x : PortSettings) : PortSettings :=
  if presence then { x with presence := if v then .absent else .present }
  else { x with limit := if v then .single else .dual }

section Settings

variable {p : PortId} {presence : Bool} {value : List Byte} {s : State} (hl : s.mgmt.locked = false)

include hl

theorem exec_portSettingsWrite : exec (.portSettingsWrite
      (byteOf ((match p with | .A => 0 | .B => 2) + (if presence then 0 else 1))) value) s =
    answered (match itemNumber value with
      | some 0 => (writeHeld p ((s.port p).heldSettings.written presence false) s, .ok)
      | some 1 => (writeHeld p ((s.port p).heldSettings.written presence true) s, .ok)
      | _ => (s, .badValue)) := by
  have key : writePortItem p presence value s = _ := if_neg (by rw [hl]; decide)
  cases p <;> cases presence <;> exact congrArg answered key

theorem exec_portSettingsWrite_bit {v : Bool} (hv : itemNumber value = some (bit v)) : exec (.portSettingsWrite
      (byteOf ((match p with | .A => 0 | .B => 2) + (if presence then 0 else 1))) value) s =
    .next (State.recorded .ok (writeHeld p ((s.port p).heldSettings.written presence v) s)) := by
  rw [exec_portSettingsWrite hl, hv]
  cases v <;> rfl

theorem exec_portSettingsWrite_bad (hv : ∀ v : Bool, itemNumber value ≠ some (bit v)) : exec (.portSettingsWrite
      (byteOf ((match p with | .A => 0 | .B => 2) + (if presence then 0 else 1))) value) s =
    .next (s.recorded .badValue) := by
  rw [exec_portSettingsWrite hl]
  split
  · next h => exact absurd h (hv false)
  · next h => exact absurd h (hv true)
  · rfl

end Settings

section Held

variable {p : PortId} {x : PortSettings} {s : State}

theorem writeHeld_later (h : (s.port p).state = .training ∨ (s.port p).state = .upDual ∨
    (s.port p).state = .upSingle) : writeHeld p x s = s.setPort p { s.port p with heldSettings := x } := by
  unfold writeHeld
  obtain h | h | h := h <;> (dsimp only; rw [h])

theorem writeHeld_off (h : (s.port p).state = .off) : writeHeld p x s =
    if x.presence = .present ∧ s.mgmt.loading = false then
      enterDown p 0 (s.setPort p { s.port p with heldSettings := x })
    else s.setPort p { s.port p with heldSettings := x, working := x } := by
  unfold writeHeld
  dsimp only
  rw [h]

theorem writeHeld_down (h : (s.port p).state = .down) :
    writeHeld p x s = reenterDown p (s.setPort p { s.port p with heldSettings := x }) := by
  unfold writeHeld
  dsimp only
  rw [h]

end Held

end Sys2Proof.Machine

namespace Sys2Proof

open Sys2Proof.Machine

/-- Settles O17. -/
theorem trainTakesPortToTraining : Obligations.TrainTakesPortToTraining := by
  intro p l later bytes f s hv hc hl hd q held
  rw [exec_receiveTrain hv hl hc]
  obtain hd | ⟨hu, hp⟩ := hd
  · have hnot : q.isUp = false := Port.down_not_up hd
    obtain ⟨h1, h2, -, h4⟩ := enterTraining_spec p l s
    refine ⟨_, congrArg Host.Outcome.next (by unfold actTrain; rw [hd]), enterTraining_keeps (.refl _ s), h2, ?_⟩
    rw [h1]
    refine ⟨?_, ?_, ?_, ?_, ?_, fun k hk => ?_, fun k hk => Port.toTraining_out hk, fun _ => ⟨?_, h4⟩,
      fun hu => absurd (hu.symm.trans hnot) (by decide)⟩
    case refine_6 =>
      obtain ⟨a, b, c, d⟩ := Port.toTraining_within (l := l) hk
      exact ⟨a, b, fun h => c (h.resolve_left (by rw [hnot]; decide)), fun _ => d⟩
    all_goals rw [Port.toTraining_eq]
  · have hnot : q.state ≠ .down := fun h => by rw [Port.down_not_up h] at hu; exact absurd hu (by decide)
    obtain ⟨h1, h2, h3, h4⟩ := enterTraining_spec p l (leaveUp p s)
    obtain ⟨l1, l2⟩ := leaveUp_port p s
    have hact : actTrain p l (trainPhase f) s = enterTraining p l (leaveUp p s) := by
      rw [hp, actTrain]
      rw [Port.isUp, Bool.or_eq_true, decide_eq_true_eq, decide_eq_true_eq] at hu
      obtain hu | hu := hu <;> rw [hu]
    refine ⟨_, congrArg Host.Outcome.next hact, enterTraining_keeps (leaveUp_keeps (.refl _ s)), h2.trans l2, ?_⟩
    rw [h1, l1]
    refine ⟨?_, ?_, ?_, ?_, ?_, fun k hk => ?_, fun k hk => Port.toTraining_out ((Port.left_within _ q k).trans hk),
      fun h => absurd h hnot, fun _ => ⟨?_, fun hf ho hr => ?_, ?_, ?_, ?_, ?_, ?_, ?_, ?_, ?_,
      fun k => Port.toTraining_quiet _ l k, h4.trans (leaveUp_consist p s)⟩⟩
    case refine_6 =>
      obtain ⟨a, b, c, -⟩ := Port.toTraining_within (l := l) ((Port.left_within s.link.pauseQuanta q k).trans hk)
      exact ⟨a, b, fun _ => c (Port.left_lane_tx _ q k), fun h => absurd h hnot⟩
    case refine_8 =>
      rw [h3]
      exact leaveUp_overflow hf ho hr
    case refine_7 =>
      rw [Port.toTraining_eq]
      exact Port.placed_rxq _ _ _
    all_goals rw [Port.toTraining_eq] <;> rfl

/-- Settles O18. -/
theorem windowExpiryOutcomes : Obligations.WindowExpiryOutcomes := by
  intro p s h ht
  have hx : exec (.windowExpiry p) s = _ := congrArg Host.Outcome.next (if_pos ⟨h, ht⟩)
  refine ⟨fun l hw hg ho => ?_, fun hg => ?_⟩
  · have hwl : (s.port p).within l = true := by cases l <;> first | rfl | exact hw
    have hall : ¬ (s.port p).allGood = true := fun e => ho (((Port.allGood_iff hwl).1 e).2 hw)
    have hup : exec (.windowExpiry p) s = .next (match l with
        | .zero => enterUp p .upSingle (s.port p).lane0.toActive (s.port p).lane1.toLost s
        | .one => enterUp p .upSingle (s.port p).lane0.toLost (s.port p).lane1.toActive s) := by
      refine hx.trans (congrArg Host.Outcome.next ((if_neg hall).trans ?_))
      cases l
      · exact if_pos (by rw [hw]; exact decide_eq_true hg)
      · refine (if_neg ?_).trans (if_pos (by rw [hw]; exact decide_eq_true hg))
        rw [hw]
        exact fun e => ho (of_decide_eq_true e)
    cases l
    · obtain ⟨h1, h2⟩ := enterUp_port p .upSingle (s.port p).lane0.toActive (s.port p).lane1.toLost s
      refine ⟨_, hup, enterUp_keeps (.refl _ s), h2, ?_⟩
      rw [h1]
      obtain ⟨a, b, c, ⟨d1, d2, d3⟩, e, -⟩ := Port.toUp_stands (q := s.port p) (st := .upSingle)
        (a := (s.port p).lane0.toActive) (b := (s.port p).lane1.toLost) (n := s.link.pauseQuanta)
      exact ⟨a, b, d1, d2, d3, e, c, Port.toUp_flow (.inr rfl) rfl (fun _ => rfl) nofun⟩
    · obtain ⟨h1, h2⟩ := enterUp_port p .upSingle (s.port p).lane0.toLost (s.port p).lane1.toActive s
      refine ⟨_, hup, enterUp_keeps (.refl _ s), h2, ?_⟩
      rw [h1]
      obtain ⟨a, b, c, ⟨d1, -⟩, e⟩ := Port.toUp_stands (q := s.port p) (st := .upSingle)
        (a := (s.port p).lane0.toLost) (b := (s.port p).lane1.toActive) (n := s.link.pauseQuanta)
      exact ⟨a, b, e.1, e.2.1, e.2.2, d1, c, Port.toUp_flow (.inr rfl) rfl nofun (fun _ => rfl)⟩
  · have hno (b : Bool) (l : LaneId) : ¬ (b && decide (((s.port p).lane l).state = .good)) = true := by
      rw [decide_eq_false (hg l), Bool.and_false]
      decide
    have hq : exec (.windowExpiry p) s = .next (if (s.port p).windowCount < 16 then
        s.setPort p { s.port p with windowCount := (s.port p).windowCount + 1 } else enterDown p 1 s) :=
      hx.trans (congrArg Host.Outcome.next ((if_neg fun e => hg .zero ((Port.allGood_iff (l := .zero) rfl).1 e).1).trans
        ((if_neg (hno _ .zero)).trans (if_neg (hno _ .one)))))
    refine ⟨fun hn => hq.trans (congrArg _ (if_pos hn)), fun hn hp => ?_, fun hn hp => ?_⟩
    · rw [if_neg (Nat.not_lt.2 hn), enterDown_present hp] at hq
      refine ⟨_, hq, raise_keeps (setPort_keeps (.refl _ s)), State.port_setPort_opposite s p _, ?_⟩
      rw [raise_port, State.port_setPort_same, Port.toDown_eq]
      exact ⟨rfl, rfl, rfl, rfl⟩
    · rw [if_neg (Nat.not_lt.2 hn), enterDown_absent hp] at hq
      exact hq

/-- Settles O22. -/
theorem portTimersExpire : Obligations.PortTimersExpire := by
  intro p l s q
  refine ⟨fun ha ht => congrArg Host.Outcome.next (if_pos ⟨ha, ht⟩),
    fun n hn => congrArg Host.Outcome.next (if_pos (by rw [hn]; rfl)), fun n hu hn => ?_, ?_⟩
  · have hx : exec (.pauseResendExpiry p) s = _ := congrArg Host.Outcome.next (if_pos ⟨hu, by rw [hn]; rfl⟩)
    exact ⟨fun h => hx.trans (congrArg _ (if_pos h)), fun h => hx.trans (congrArg _ (if_neg (Nat.not_le.2 h)))⟩
  · intro passed told
    refine ⟨fun hs ha ht => ?_, fun hs ha ht => ?_⟩
    · have hon : q.activeOn l = true := by rw [Port.activeOn, Port.isUp, hs, ha]; rfl
      have hx : exec (.receiveSilenceExpiry p l) s = _ :=
        congrArg Host.Outcome.next ((if_pos ⟨hon, ht⟩).trans (if_pos hs))
      let y : Port := Port.setLane { q with state := .upSingle } l (q.lane l).toLost
      have hlo : y.lane (otherLane l) = q.lane (otherLane l) := by cases l <;> rfl
      have hy : y.rxq = q.rxq := Port.setLane_rxq _ l _
      have hr := arbitrate_releaseHeld (s := s) (p := p) (x := y) hy (otherLane l)
      rw [hlo] at hr
      generalize hz : Port.placed (q.lane (otherLane l)).held s.link.pauseQuanta
        (y.setLane (otherLane l) { q.lane (otherLane l) with held := [] }) = z at hr
      have hzl : z.lane l = { state := .lost, held := (q.lane l).held } := by
        rw [← hz, Port.placed_lane]
        cases l <;> rfl
      have hzo : z.lane (otherLane l) = { q.lane (otherLane l) with held := [] } := by
        rw [← hz, Port.placed_lane, Port.lane_setLane_same]
      have hzs : z.state = .upSingle := by
        rw [← hz, Port.placed_state, Port.setLane_state]
        exact Port.setLane_state _ l _
      have hzr : z.rxq = q.rxq ++ (q.lane (otherLane l)).held.take (8 - q.rxq.length) := by
        rw [← hz, Port.placed_rxq, Port.setLane_rxq, hy]
      have hk := Port.Sends.arbitrate z
      have hport : ((s.rxFull p (q.lane (otherLane l)).held).setPort p z.arbitrate).port p = z.arbitrate :=
        State.port_setPort_same _ p _
      refine ⟨_, hx.trans (congrArg (fun t => Host.Outcome.next (reportPort p 0 t)) hr),
        reportPort_keeps (setPort_keeps (rxFull_keeps (.refl _ s) (by decide))),
        ⟨(State.port_setPort_opposite _ p _).trans (rxFull_port _ _ _ _), ?_, fun hf ho h => ?_⟩, ?_, ?_, ?_, ?_,
        fun h => ?_⟩
      · exact (congrArg Port.rxq hport).trans (hk.rxq.trans hzr)
      · rw [report_reportPort]
        exact rxFull_raised hf ho h
      · exact (congrArg Port.state hport).trans (hk.state.trans hzs)
      · exact (congrArg (Port.lane · l) hport).trans
          ((Port.arbitrate_quiet (by rw [hzl]; exact nofun) (by rw [hzl])).trans hzl)
      · exact (congrArg (fun x => (Port.lane x _).state) hport).trans
          ((hk.laneState _).trans (by rw [hzo]))
      · exact (congrArg (fun x => (Port.lane x _).held) hport).trans
          ((hk.laneHeld _).trans (by rw [hzo]))
      · obtain ⟨h1, h2⟩ := report_raised (s := (s.rxFull p (q.lane (otherLane l)).held).setPort p z.arbitrate)
          ((rxFull_cells s p _).trans h) (portClass p) [byteOf (portStateCode
            (((s.rxFull p (q.lane (otherLane l)).held).setPort p z.arbitrate).port p).state), _, _, _]
        exact ⟨h1, h2.trans (congrArg (fun st => [byteOf (portStateCode st), _, _, _])
          ((congrArg Port.state hport).trans (hk.state.trans hzs)))⟩
    · have hon : q.activeOn l = true := by rw [Port.activeOn, Port.isUp, hs, ha]; rfl
      have hx : exec (.receiveSilenceExpiry p l) s = .next (enterDown p 0 (leaveUp p s)) :=
        congrArg Host.Outcome.next ((if_pos ⟨hon, ht⟩).trans (if_neg (by rw [hs]; decide)))
      obtain ⟨l1, l2⟩ := leaveUp_port p s
      have hleft : ((s.port p).left s.link.pauseQuanta).heldSettings = q.heldSettings := (q.placed_working _ _).2
      have hall {r : State} {d : Port} {tail : Prop} (hr : r.port p = d)
          (ho : r.port (opposite p) = (leaveUp p s).port (opposite p))
          (hrep : r.report .overflow = (leaveUp p s).report .overflow) (hc : r.consist = (leaveUp p s).consist)
          (hd : d = { ((s.port p).left s.link.pauseQuanta) with
            state := d.state, working := ((s.port p).left s.link.pauseQuanta).heldSettings, windowCount := 0
            windowTimer := d.windowTimer, seekTimer := d.seekTimer, syncTimer := d.syncTimer
            lane0 := d.lane0, lane1 := d.lane1 }) (ht : tail) :
          passed (q.lane0.held ++ q.lane1.held) r ∧ (r.port p).ftx = [] ∧ (r.port p).ltx = [] ∧
          (r.port p).gate = .opened ∧ (r.port p).gateTimer = none ∧ (r.port p).pauseAsserted = false ∧
          (r.port p).resendTimer = none ∧ (r.port p).waitingPause = none ∧ (r.port p).fairness = 0 ∧
          (r.port p).working = q.heldSettings ∧ (r.port p).windowCount = 0 ∧
          r.consist = { s.consist with state := if s.consist.state = .valid then .stale else s.consist.state } ∧
          tail := by
        rw [hr, hd]
        refine ⟨⟨ho.trans l2, ?_, fun hf ho h => ?_⟩, rfl, rfl, rfl, rfl, rfl, rfl, rfl, rfl, hleft, rfl,
          hc.trans (leaveUp_consist p s), ht⟩
        · rw [hr, hd]
          exact Port.placed_rxq _ _ _
        · rw [hrep]
          exact leaveUp_overflow hf ho h
      have hkeep {t : State} (h : UnchangedBut [.link, .consist, .reports] (leaveUp p s) t) :
          UnchangedBut [.link, .consist, .reports] s t := (leaveUp_keeps (.refl _ s)).trans h
      have hother (d : List Byte) (t : State) : (raise (portClass p) d t).report .overflow = t.report .overflow :=
        report_raise_other (overflow_ne_portClass p) d t
      cases hp : q.heldSettings.presence with
      | present =>
        rw [enterDown_present (by rw [l1, hleft]; exact hp), l1, Port.toDown_eq] at hx
        refine ⟨_, hx, hkeep (raise_keeps (setPort_keeps (.refl _ _))), hall (State.port_setPort_same _ p _)
          (State.port_setPort_opposite _ p _) (hother _ _) rfl rfl ⟨fun _ => ?_, nofun⟩⟩
        rw [raise_port, State.port_setPort_same, hleft]
        exact ⟨rfl, rfl, rfl, Lane.toDown_abandon _ _, fun h => report_raised ((leaveUp_cells p s).trans h) _ _⟩
      | absent =>
        rw [enterDown_absent (by rw [l1, hleft]; exact hp), l1] at hx
        refine ⟨_, hx, hkeep (raise_keeps (raise_keeps (setPort_keeps (.refl _ _)))),
          hall (State.port_setPort_same _ p _) (State.port_setPort_opposite _ p _)
            ((hother _ _).trans (hother _ _)) rfl rfl ⟨nofun, fun _ => ?_⟩⟩
        rw [raise_port, raise_port, State.port_setPort_same]
        exact ⟨rfl, rfl, rfl, rfl, fun h => report_raised
          ((raise_cells_length _ _ _).trans ((leaveUp_cells p s).trans h)) _ _⟩

/-- Settles O26. -/
theorem portSettingsAreHeld : Obligations.PortSettingsAreHeld := by
  intro p presence value s hl index q
  refine ⟨fun v hv => ?_, exec_portSettingsWrite_bad hl⟩
  intro x
  rw [show exec (.portSettingsWrite index value) s = .next (State.recorded .ok (writeHeld p x s)) from
    exec_portSettingsWrite_bit hl hv]
  have hport : (s.setPort p { q with heldSettings := x }).port p = { q with heldSettings := x } :=
    State.port_setPort_same s p _
  refine ⟨fun h => congrArg (fun t => Host.Outcome.next (State.recorded .ok t)) (writeHeld_later h),
    fun h ha => congrArg (fun t => Host.Outcome.next (State.recorded .ok t)) ((writeHeld_off h).trans (if_neg fun e => ?_)), fun h hp hm => ?_,
    fun h hp => ?_, fun h ha => ?_⟩
  · obtain ha | ha := ha
    · exact absurd (ha.symm.trans e.1) (by decide)
    · exact absurd (ha.symm.trans e.2) (by decide)
  · rw [writeHeld_off h, if_pos ⟨hp, hm⟩, enterDown_present (by rw [hport]; exact hp), hport, State.setPort_setPort]
    refine ⟨_, rfl, raise_keeps (setPort_keeps (.refl _ s)), State.port_setPort_opposite s p _, ?_⟩
    rw [raise_port, State.port_setPort_same, Port.toDown_eq]
    exact ⟨rfl, rfl, rfl, rfl, rfl, rfl⟩
  · rw [writeHeld_down h, reenterDown_present (by rw [hport]; exact hp), hport, State.setPort_setPort]
    refine ⟨_, rfl, onlyPort_setPort s p _, ?_⟩
    rw [State.port_setPort_same, Port.toDown_eq]
    exact ⟨rfl, rfl, rfl⟩
  · rw [writeHeld_down h, reenterDown_absent (by rw [hport]; exact ha), hport, State.setPort_setPort]
    rfl

end Sys2Proof
end


section
/-! The Batch Assembler: where a part finds its slot, and what each of its commands does with it
(sections 4.1 to 4.6). -/

namespace Sys2Proof.Machine

-- Proofs are elaborated in turn: side by side they take more memory.
set_option Elab.async false

open Sys2Proof

theorem partOf_head {c : Copy} {rest : List Copy} {k : LoadClass} {part : PartFlag} {s : State}
    (hq : s.classifier.batch = c :: rest) (hp : c.frame.part = part) (hk : loadClassOf c.frame.cls.toNat = some k) :
    partOf part s = some (k, c.frame, rest) := by
  simp only [partOf, hq, hp, if_true, hk, Option.map_some]

theorem findSlot_none {k : Slots} {test : Batch → Bool} (h : ∀ i b, k.slot i = some b → test b = false) :
    k.findSlot test = none := by
  have free (o : Option Batch) (ho : ∀ b, o = some b → test b = false) : ¬ (o.map test).getD false = true := by
    cases o with
    | none => exact Bool.false_ne_true
    | some b => exact ne_true_of_eq_false (ho b rfl)
  rw [Slots.findSlot, if_neg (free k.slot0 (h .zero)), if_neg (free k.slot1 (h .one))]

theorem belongs_iff {k : LoadClass} {f : Frame} {b : Batch} :
    belongs k f b = true ↔ b.cls = k ∧ b.origin = f.origin ∧ b.batchId = f.batchId := by
  simp only [belongs, Bool.and_eq_true, decide_eq_true_eq, and_assoc]

/-- The slot of the batch that a part belongs to. -/
theorem findSlot_belongs {q : Slots} {k : LoadClass} {f : Frame} {i : SlotId} {b : Batch} (hb : q.slot i = some b)
    (hm : b.cls = k ∧ b.origin = f.origin ∧ b.batchId = f.batchId)
    (h0 : i = .one → ∀ x, q.slot0 = some x → ¬ (x.cls = k ∧ x.origin = f.origin ∧ x.batchId = f.batchId)) :
    q.findSlot (belongs k f) = some i :=
  findSlot_one hb (belongs_iff.2 hm) fun h1 x hx => eq_false_of_ne_true fun hh => h0 h1 x hx (belongs_iff.1 hh)

/-- A claim of the slot of the class, whose batch is superseded. -/
theorem claimSlot_own {k : LoadClass} {s : State} {i : SlotId} {b : Batch} (hb : s.slots.slot i = some b)
    (hk : b.cls = k) (h0 : i = .one → ∀ x, s.slots.slot0 = some x → x.cls ≠ k) :
    claimSlot k s =
      some (i, batchRejected b.cls b.origin b.batchId .superseded b.lastSeq 0 0 (setSlot i none s)) := by
  have hf := findSlot_one (test := fun b => decide (b.cls = k)) hb (decide_eq_true hk)
    fun h1 x hx => decide_eq_false (h0 h1 x hx)
  simp only [claimSlot, hf, hb]

/-- A claim when neither slot holds the class: of the first FREE slot. -/
theorem claimSlot_other {k : LoadClass} {s : State} (h : ∀ i b, s.slots.slot i = some b → b.cls ≠ k) :
    claimSlot k s = s.slots.freeSlot.map (·, s) := by
  have hf : s.slots.findSlot (fun b => decide (b.cls = k)) = none :=
    findSlot_none fun i b hb => decide_eq_false (h i b hb)
  simp only [claimSlot, hf]

theorem freeSlot_none {q : Slots} (h : ∀ i, q.slot i ≠ none) : q.freeSlot = none := by
  have h0 : q.slot0.isNone = false := Option.isNone_eq_false_iff.2 (Option.isSome_iff_ne_none.2 (h .zero))
  have h1 : q.slot1.isNone = false := Option.isNone_eq_false_iff.2 (Option.isSome_iff_ne_none.2 (h .one))
  rw [Slots.freeSlot, h0, h1]
  rfl

theorem freeSlot_some {q : Slots} {i : SlotId} (h : q.slot i = none) : ∃ j, q.freeSlot = some j := by
  cases i with
  | zero =>
    have h0 : q.slot0 = none := h
    exact ⟨.zero, by rw [Slots.freeSlot, h0]; rfl⟩
  | one =>
    have h1 : q.slot1 = none := h
    rw [Slots.freeSlot, h1]
    split
    · exact ⟨_, rfl⟩
    · exact ⟨_, rfl⟩

/-- Only a slot set leaves the slot of the other class as it is. -/
theorem slots_forall {q : Slots} {P : Batch → Prop} (h0 : ∀ b, q.slot0 = some b → P b)
    (h1 : ∀ b, q.slot1 = some b → P b) : ∀ i b, q.slot i = some b → P b
  | .zero, b, h => h0 b h
  | .one, b, h => h1 b h

theorem byteOf_seq (n : Byte) : byteOf n.toNat = n := by simp [byteOf]

/-- A batch abandoned in a state: its slot FREE, in a drain the Management Unit told, and its report raised. -/
theorem abandonBatch_eq (i : SlotId) (b : Batch) (why : BatchReason) (n : Nat) (s : State) :
    abandonBatch i b why n s = raise .batchRejected
      [byteOf (loadClassCode b.cls), byteOf (endCode b.origin), b.batchId, byteOf (batchReasonCode why), byteOf n,
        0, 0, 0]
      { s with
        slots := s.slots.setSlot i none
        mgmt := if s.mgmt.draining = true ∧ s.slots.setSlot i none = {} then { s.mgmt with noBatch := true }
          else s.mgmt } := by
  have hempty (q : Slots) : (q = {}) ↔ (q.slot0.isNone = true ∧ q.slot1.isNone = true) := by
    rcases q with ⟨_ | _, _ | _⟩ <;> simp
  unfold abandonBatch noteNoBatch
  by_cases h : s.mgmt.draining = true ∧ s.slots.setSlot i none = {}
  · rw [if_pos h]
    exact if_pos (by rw [Bool.and_eq_true, Bool.and_eq_true, and_assoc]; exact ⟨h.1, (hempty _).1 h.2⟩)
  · rw [if_neg h]
    exact if_neg (by
      rw [Bool.and_eq_true, Bool.and_eq_true, and_assoc]
      exact fun hh => h ⟨hh.1, (hempty _).2 hh.2⟩)

/-- A batch abandoned outside a drain. -/
theorem abandonBatch_still {i : SlotId} {b : Batch} {why : BatchReason} {n : Nat} {s : State}
    (hd : s.mgmt.draining = false) :
    abandonBatch i b why n s = raise .batchRejected
      [byteOf (loadClassCode b.cls), byteOf (endCode b.origin), b.batchId, byteOf (batchReasonCode why), byteOf n,
        0, 0, 0] { s with slots := s.slots.setSlot i none } := by
  rw [abandonBatch_eq, if_neg (fun h => Bool.false_ne_true (hd.symm.trans h.1))]

theorem partFault_gap {b : Batch} {f : Frame} (h : b.expected ≠ some f.seq.toNat) : partFault b f = some .gap :=
  if_pos h

theorem partFault_tooLarge {b : Batch} {f : Frame} (h : b.expected = some f.seq.toNat)
    (hl : 16384 < b.content.length + f.payload.length) : partFault b f = some .tooLarge :=
  (if_neg (not_not.2 h)).trans (if_pos hl)

theorem partFault_none {b : Batch} {f : Frame} (h : b.expected = some f.seq.toNat)
    (hl : b.content.length + f.payload.length ≤ 16384) : partFault b f = none :=
  (if_neg (not_not.2 h)).trans (if_neg (Nat.not_lt.2 hl))

section
variable {c : Copy} {rest : List Copy} {k : LoadClass} {s : State} (hq : s.classifier.batch = c :: rest)
  (hk : loadClassOf c.frame.cls.toNat = some k)
include hq hk

/-- BATCH_START outside a drain with sequence 0: by the slot it claims. -/
theorem exec_batchStart (hp : c.frame.part = .start) (hd : s.mgmt.draining = false) (h0 : c.frame.seq = 0) :
    exec .batchStart s = match claimSlot k (setBatchIntake rest s) with
      | none => .next (refusePart k c.frame .noSlot (setBatchIntake rest s))
      | some (i, t) => .next (setSlot i (some
          { cls := k, origin := c.frame.origin, batchId := c.frame.batchId, expected := some 1, parts := 1
            content := c.frame.payload }) t) := by
  have hd : (setBatchIntake rest s).mgmt.draining = false := hd
  simp only [exec, execBatchStart, partOf_head hq hp hk, hd, h0, ne_eq, not_true_eq_false, if_false,
    Bool.false_eq_true] <;>
    rfl

/-- BATCH_SINGLE outside a drain: by the slot it claims. -/
theorem exec_batchSingle (hp : c.frame.part = .single) (hd : s.mgmt.draining = false) :
    exec .batchSingle s = match claimSlot k (setBatchIntake rest s) with
      | none => .next (refusePart k c.frame .noSlot (setBatchIntake rest s))
      | some (_, t) => .next (noteNoBatch (handover k c.frame 1 c.frame.payload t)) := by
  have hd : (setBatchIntake rest s).mgmt.draining = false := hd
  simp only [exec, execBatchSingle, partOf_head hq hp hk, hd, if_false, Bool.false_eq_true] <;>
    rfl

/-- A MIDDLE part of no batch only leaves the intake. -/
theorem exec_batchMiddle_stray (hp : c.frame.part = .middle)
    (hf : s.slots.findSlot (belongs k c.frame) = none) : exec .batchMiddle s = .next (setBatchIntake rest s) := by
  have hf : (setBatchIntake rest s).slots.findSlot (belongs k c.frame) = none := hf
  simp only [exec, execBatchMiddle, partOf_head hq hp hk, hf]

/-- A MIDDLE part of the batch of a slot is accepted, or ends it. -/
theorem exec_batchMiddle (hp : c.frame.part = .middle) {i : SlotId} {b : Batch}
    (hf : s.slots.findSlot (belongs k c.frame) = some i) (hb : s.slots.slot i = some b) :
    exec .batchMiddle s = match partFault b c.frame with
      | some why => .next (abandonBatch i b why c.frame.seq.toNat (setBatchIntake rest s))
      | none => .next (setSlot i (some (b.accept c.frame)) (setBatchIntake rest s)) := by
  have hf : (setBatchIntake rest s).slots.findSlot (belongs k c.frame) = some i := hf
  have hb : (setBatchIntake rest s).slots.slot i = some b := hb
  simp only [exec, execBatchMiddle, partOf_head hq hp hk, hf, hb] <;>
    rfl

/-- An END part of no batch only leaves the intake. -/
theorem exec_batchEnd_stray (hp : c.frame.part = .finish)
    (hf : s.slots.findSlot (belongs k c.frame) = none) : exec .batchEnd s = .next (setBatchIntake rest s) := by
  have hf : (setBatchIntake rest s).slots.findSlot (belongs k c.frame) = none := hf
  simp only [exec, execBatchEnd, partOf_head hq hp hk, hf]

/-- An END part of the batch of a slot hands the load over, or ends the batch. -/
theorem exec_batchEnd (hp : c.frame.part = .finish) {i : SlotId} {b : Batch}
    (hf : s.slots.findSlot (belongs k c.frame) = some i) (hb : s.slots.slot i = some b) :
    exec .batchEnd s = match partFault b c.frame with
      | some why => .next (abandonBatch i b why c.frame.seq.toNat (setBatchIntake rest s))
      | none => .next (noteNoBatch (handover k c.frame (b.accept c.frame).parts (b.accept c.frame).content
          (setSlot i none (setBatchIntake rest s)))) := by
  have hf : (setBatchIntake rest s).slots.findSlot (belongs k c.frame) = some i := hf
  have hb : (setBatchIntake rest s).slots.slot i = some b := hb
  simp only [exec, execBatchEnd, partOf_head hq hp hk, hf, hb] <;>
    rfl

end

/-- A handover ends as its owner judges. -/
theorem handover_judged {k : LoadClass} {f : Frame} {parts : Nat} {content : List Byte} {t : State} {cmd : Instr}
    {s : State} (hx : exec cmd s = .next (noteNoBatch (handover k f parts content t)))
    (hd : t.mgmt.draining = false) :
    (∀ u, u.mgmt.draining = false → judge k f.origin f.batchId content (catchUp k t) = .committed u →
      exec cmd s = .next (batchCommitted k f content parts u)) ∧
    (∀ cause index, judge k f.origin f.batchId content (catchUp k t) = .rejected cause index →
      exec cmd s = .next (batchInvalid k f (causeCode cause) index (catchUp k t))) := by
  constructor
  · intro u hu hj
    have he : handover k f parts content t = batchCommitted k f content parts u := by
      simp only [handover, hj]; rfl
    rw [hx, he, noteNoBatch_id (by exact hu)]
  · intro cause index hj
    have he : handover k f parts content t = batchInvalid k f (causeCode cause) index (catchUp k t) := by
      simp only [handover, hj]
      simp [batchRejected, batchInvalid, batchReasonCode, byteOf]
    have hu : (catchUp k t).mgmt.draining = false := by
      rw [← hd]
      exact congrArg Mgmt.draining ((catchUp_keeps (c := k) (.refl [.notices, .panels, .reports, .resv] t)).mgmt (by decide))
    rw [hx, he, noteNoBatch_id (by exact hu)]

end Sys2Proof.Machine

namespace Sys2Proof

open Sys2Proof.Machine

/-- Settles O31: each command by the slot it finds and the check it makes. -/
theorem partsOpenAndExtendBatches : Obligations.PartsOpenAndExtendBatches := by
  unfold Obligations.PartsOpenAndExtendBatches
  constructor
  · intro c rest k s hq hp hk f t b rejected
    have hpart := partOf_head hq hp hk
    have own {x : LoadClass} {i : SlotId} {y : Batch} (hx : x = k) (hb : s.slots.slot i = some y) (hy : y.cls = x)
        (h0 : i = .one → ∀ x, s.slots.slot0 = some x → x.cls ≠ k) :=
      claimSlot_own (s := setBatchIntake rest s) hb (hy.trans hx) h0
    refine ⟨fun hd => ?_, fun hd h0 => ?_, fun hd h0 => ?_⟩
    · have hd : (setBatchIntake rest s).mgmt.draining = true := hd
      simp only [exec, execBatchStart, hpart, hd, if_true]
      rfl
    · have hd : (setBatchIntake rest s).mgmt.draining = false := hd
      have h0 : c.frame.seq ≠ 0 := h0
      simp only [exec, execBatchStart, hpart, hd, Bool.false_eq_true, if_false, if_pos h0]
      rfl
    · have hx := exec_batchStart hq hk hp hd h0
      refine ⟨fun e0 h1 => ?_, fun x e0 hx0 e1 => ?_, fun x e0 hx0 => ?_, fun x y e0 hx0 e1 hy => ?_,
        fun e0 y e1 hy => ?_, fun x y e0 hx0 e1 hy => ?_⟩
      · rw [hx, claimSlot_other (s := setBatchIntake rest s)
          (slots_forall (fun b hb => nomatch e0.symm.trans hb) h1), Slots.freeSlot,
          show (setBatchIntake rest s).slots.slot0 = none from e0]
        rfl
      · rw [hx, claimSlot_other (s := setBatchIntake rest s)
          (slots_forall (fun b hb => Option.some.inj (e0.symm.trans hb) ▸ hx0)
            (fun b hb => nomatch e1.symm.trans hb)), Slots.freeSlot,
          show (setBatchIntake rest s).slots.slot0 = some x from e0,
          show (setBatchIntake rest s).slots.slot1 = none from e1]
        rfl
      · rw [hx, own (i := .zero) rfl e0 hx0 nofun]
        subst hx0
        rfl
      · rw [hx, own (i := .one) rfl e1 hy (fun _ z hz => Option.some.inj (e0.symm.trans hz) ▸ hx0)]
        subst hy
        rfl
      · rw [hx, own (i := .one) rfl e1 hy (fun _ z hz => nomatch e0.symm.trans hz)]
        subst hy
        rfl
      · rw [hx, claimSlot_other (s := setBatchIntake rest s)
          (slots_forall (fun b hb => Option.some.inj (e0.symm.trans hb) ▸ hx0)
            (fun b hb => Option.some.inj (e1.symm.trans hb) ▸ hy)), Slots.freeSlot,
          show (setBatchIntake rest s).slots.slot0 = some x from e0,
          show (setBatchIntake rest s).slots.slot1 = some y from e1]
        rfl
  · intro s hd rejected
    constructor
    · intro c rest k hq hp hk f t mine
      constructor
      · intro i b hb hm h0
        have hx := exec_batchMiddle hq hk hp (findSlot_belongs hb hm h0) hb
        refine ⟨fun he hl => ?_, fun he => ?_, fun he hl => ?_⟩
        · have hseq : (c.frame.seq.toNat = 255) = (f.seq = 255) :=
            propext ⟨fun h => BitVec.eq_of_toNat_eq h, fun h => congrArg BitVec.toNat h⟩
          rw [hx, show partFault b c.frame = none from partFault_none he hl]
          simp only [Batch.accept, hseq]
          rfl
        · rw [hx, partFault_gap he]
          exact congrArg Host.Outcome.next (abandonBatch_still hd)
        · rw [hx, partFault_tooLarge he hl]
          exact congrArg Host.Outcome.next (abandonBatch_still hd)
      · intro hno
        exact exec_batchMiddle_stray hq hk hp
          (findSlot_none fun i b hb => eq_false_of_ne_true fun hh => hno i b hb (belongs_iff.1 hh))
    · intro i b hb
      have hx : exec (.batchTimeout i) s = .next (abandonBatch i b .timeout b.lastSeq s) := by
        simp only [exec, execBatchTimeout, hb]
      exact hx.trans (congrArg Host.Outcome.next (abandonBatch_still hd))

/-- Settles O32: the slot claimed or found decides who hands the load over, and the owner's judgement how it
ends. -/
theorem completeLoadIsHandedOver : Obligations.CompleteLoadIsHandedOver := by
  unfold Obligations.CompleteLoadIsHandedOver
  intro c rest k s hq hk f t refused judged mine
  refine ⟨fun hp => ⟨?_, fun hno => ?_⟩, fun hp hd => ?_, fun hd => ⟨fun hp => ?_, ?_⟩⟩
  · intro i b hb hm h0 u ended
    have hx := exec_batchEnd hq hk hp (findSlot_belongs hb hm h0) hb
    have hend (why : BatchReason) (hw : partFault b c.frame = some why) :
        exec .batchEnd s = .next (ended (byteOf (batchReasonCode why))) := by
      rw [hx, hw]
      dsimp only
      rw [abandonBatch_eq, hm.1, byteOf_seq]
      rfl
    exact ⟨fun he => hend .gap (partFault_gap he), fun he hl => hend .tooLarge (partFault_tooLarge he hl)⟩
  · exact exec_batchEnd_stray hq hk hp
      (findSlot_none fun i b hb => eq_false_of_ne_true fun hh => hno i b hb (belongs_iff.1 hh))
  · have hd : (setBatchIntake rest s).mgmt.draining = true := hd
    simp only [exec, execBatchSingle, partOf_head hq hp hk, hd, if_true, refusePart, byteOf_seq, batchRejected]
    rfl
  · have hx := exec_batchSingle hq hk hp hd
    refine ⟨fun hno => ?_, fun i b hb hc h0 => ?_⟩
    · rw [claimSlot_other (s := setBatchIntake rest s) hno] at hx
      refine ⟨fun ⟨i, hi⟩ => ?_, fun hall => ?_⟩
      · obtain ⟨j, hj⟩ := freeSlot_some hi
        rw [show (setBatchIntake rest s).slots.freeSlot = some j from hj] at hx
        exact handover_judged hx hd
      · rw [hx, show (setBatchIntake rest s).slots.freeSlot = none from freeSlot_none hall]
        simp only [Option.map_none, refusePart, byteOf_seq, batchRejected]
        rfl
    · rw [claimSlot_own (s := setBatchIntake rest s) hb hc h0] at hx
      subst hc
      exact handover_judged hx hd
  · intro i b hp hb hc ho hid h0 he hl
    have hx := exec_batchEnd hq hk hp (findSlot_belongs hb ⟨hc, ho, hid⟩ h0) hb
    rw [partFault_none he hl] at hx
    exact handover_judged hx hd

end Sys2Proof

end


section
/-! The JOURNEY and TRIGGERS loads: the verdict on a content by its first failing check, and what a content that
passes leaves (R77, R101, R102). -/

namespace Sys2Proof.Machine

-- Proofs are elaborated in turn: side by side they take more memory.
set_option Elab.async false

open Sys2Proof

/-! ## JOURNEY (R77) -/

theorem stopInRange_iff {bs : List Byte} : stopInRange bs = true ↔
    natAt bs 0 4 ≤ 4194303 ∧ natAt bs 4 1 ≤ 1 ∧ natAt bs 5 1 ≤ 3 ∧ natAt bs 6 2 ≤ 511 ∧ natAt bs 8 1 ≤ 127 ∧
      1 ≤ natAt bs 9 1 ∧ natAt bs 9 1 ≤ 24 ∧ ∀ c ∈ slice bs 10 (natAt bs 9 1), c ≠ 253 ∧ c ≠ 254 := by
  simp only [stopInRange, Bool.and_eq_true, decide_eq_true_eq, List.all_eq_true, and_assoc]

theorem stopFault_range {count k : Nat} {before : Option Nat} {bs : List Byte} (h : stopInRange bs = false) :
    stopFault count k before bs = some .range := if_pos (by rw [h]; rfl)

theorem stopFault_order {count k : Nat} {before : Option Nat} {bs : List Byte} (h : stopInRange bs = true)
    (ho : orderFails before bs = true) : stopFault count k before bs = some .order :=
  (if_neg (by rw [h]; decide)).trans (if_pos ho)

theorem stopFault_kind {count k : Nat} {before : Option Nat} {bs : List Byte} (h : stopInRange bs = true)
    (ho : orderFails before bs = false) (hk : ¬ (k = 1 ∨ k = count → natAt bs 4 1 = 0)) :
    stopFault count k before bs = some .kind :=
  (if_neg (by rw [h]; decide)).trans ((if_neg (ne_true_of_eq_false ho)).trans (if_pos (Classical.not_imp.1 hk)))

/-- The order row in the records of a content. -/
theorem orderFails_iff {content : List Byte} {count k : Nat} (hk : k < count) :
    orderFails (distanceBefore none (stopRecords content count) k) (slice content (4 + 34 * k) 34) = false ↔
      (k ≠ 0 → natAt (slice content (4 + 34 * (k - 1)) 34) 0 4 < natAt (slice content (4 + 34 * k) 34) 0 4) := by
  rcases k with _ | k
  · exact iff_of_true rfl fun h => absurd rfl h
  · rw [distanceBefore, if_neg (Nat.succ_ne_zero k), stopRecords_getD (by omega)]
    exact decide_eq_false_iff_not.trans (by rw [Nat.not_le]; exact ⟨fun h _ => h, fun h => h (Nat.succ_ne_zero k)⟩)

theorem stopOf_side (bs : List Byte) : (stopOf bs).side =
    if natAt bs 5 1 = 0 then .left else if natAt bs 5 1 = 1 then .right
      else if natAt bs 5 1 = 2 then .both else .none := by
  unfold stopOf
  dsimp only
  split <;> simp_all

theorem endOfBit_lead {n : Nat} (h : n ≤ 1) :
    endOfBit (decide (n = 1)) = if n = 0 then TrainEnd.end1 else .end2 := by
  obtain rfl | rfl : n = 0 ∨ n = 1 := by omega
  · rfl
  · rfl

section
variable {v : List Byte} {s : State}

theorem loadJourney_fault {c : Cause} {k : Nat} (h : journeyFault v = some (c, k)) :
    loadJourney v s = .rejected c k := by
  unfold loadJourney
  rw [h]

theorem loadJourney_opens (h : journeyFault v = none) (hs : (journeyOf v).stops ≠ []) :
    loadJourney v s = .committed (tellJourney (.journey (resvJourneyOf (journeyOf v)))
      { s with tracker := s.tracker.openAt (journeyOf v) }) := by
  unfold loadJourney
  rw [h]
  exact if_neg hs

theorem loadJourney_closes (h : journeyFault v = none) (hs : (journeyOf v).stops = []) :
    loadJourney v s = .committed (tellJourney .closed { s with tracker := s.tracker.close }) := by
  unfold loadJourney
  rw [h]
  exact if_pos hs

end

/-- A CLEAN page of a MAP or NOTICE panel is DIRTY when every page is marked. -/
theorem markAll_clean {s : State} {p : PanelId} (hc : (s.panel p).composer = some .clean)
    (hr : (s.panel p).config.role = .map ∨ (s.panel p).config.role = .notice) :
    (markAll s).panel p = { s.panel p with composer := some .dirty } := by
  have hdirty : (s.panel p).markDirty = { s.panel p with composer := some .dirty } := by
    rw [Panel.markDirty, hc]
  have hmap : ((s.panel p).markRole .map) =
      if (s.panel p).config.role = .map then (s.panel p).markDirty else s.panel p := rfl
  rw [markAll, markRole_panel, markRole_panel, hmap]
  rcases hr with hr | hr
  · rw [if_pos hr, hdirty]
    exact if_neg (by rw [hr]; decide)
  · rw [if_neg (by rw [hr]; decide), Panel.markRole, if_pos hr, hdirty]

/-! ## TRIGGERS (R101, R102) -/

/-- The first row of R101 that a record fails. -/
def triggerFault (stops : List Stop) (bs : List Byte) : Option Cause :=
  if !triggerInRange stops bs then some .range
  else if natAt bs 1 1 ≠ 0 ∧ (stopAt stops (natAt bs 0 1)).kind ≠ .stop then some .kind
  else none

theorem checkTriggers_cons (stops : List Stop) (k : Nat) (bs : List Byte) (rest : List (List Byte)) :
    checkTriggers stops k (bs :: rest) =
      match triggerFault stops bs with
      | some c => some (c, k)
      | none => checkTriggers stops (k + 1) rest := by
  rw [checkTriggers, triggerFault]
  split
  · rfl
  · split <;> rfl

/-- The verdict on the whole list is that on the first record that fails. -/
theorem checkTriggers_of_first {stops : List Stop} {c : Cause} : (records : List (List Byte)) → (k i : Nat) →
    i < records.length → (∀ m, m < i → triggerFault stops (records.getD m []) = none) →
    triggerFault stops (records.getD i []) = some c → checkTriggers stops k records = some (c, k + i)
  | bs :: rest, k, 0, _, _, hi => by
    rw [checkTriggers_cons, show triggerFault stops bs = some c from hi]
    rfl
  | bs :: rest, k, i + 1, hlen, hm, hi => by
    rw [checkTriggers_cons, show triggerFault stops bs = none from hm 0 (Nat.succ_pos i),
      show k + (i + 1) = k + 1 + i by omega]
    exact checkTriggers_of_first rest (k + 1) i (Nat.lt_of_succ_lt_succ hlen)
      (fun m h => hm (m + 1) (Nat.succ_lt_succ h)) hi

theorem checkTriggers_none {stops : List Stop} : (records : List (List Byte)) → (k : Nat) →
    (∀ bs ∈ records, triggerFault stops bs = none) → checkTriggers stops k records = none
  | [], _, _ => rfl
  | bs :: rest, k, h => by
    rw [checkTriggers_cons, h bs List.mem_cons_self]
    exact checkTriggers_none rest (k + 1) fun x hx => h x (List.mem_cons_of_mem bs hx)

theorem triggerInRange_iff {stops : List Stop} {bs : List Byte} : triggerInRange stops bs = true ↔
    natAt bs 0 1 < stops.length ∧ natAt bs 1 1 ≤ 2 ∧ natAt bs 4 1 ≤ 3 ∧ natAt bs 5 1 ≤ 1 ∧ 1 ≤ natAt bs 6 1 ∧
      natAt bs 7 1 ≤ 64 := by
  simp only [triggerInRange, Bool.and_eq_true, decide_eq_true_eq, and_assoc]

theorem triggerFault_range {stops : List Stop} {bs : List Byte} (h : triggerInRange stops bs = false) :
    triggerFault stops bs = some .range := if_pos (by rw [h]; rfl)

theorem triggerFault_of_inRange {stops : List Stop} {bs : List Byte} (h : triggerInRange stops bs = true) :
    triggerFault stops bs =
      if natAt bs 1 1 = 0 ∨ (stopAt stops (natAt bs 0 1)).kind = .stop then none else some .kind := by
  rw [triggerFault, if_neg (by rw [h]; decide)]
  by_cases hf : natAt bs 1 1 = 0 ∨ (stopAt stops (natAt bs 0 1)).kind = .stop
  · rw [if_pos hf, if_neg fun hh => hf.elim hh.1 hh.2]
  · rw [if_neg hf, if_pos (not_or.1 hf)]

theorem triggerOf_event (bs : List Byte) : (triggerOf bs).event =
    if natAt bs 1 1 = 0 then .distance else if natAt bs 1 1 = 1 then .arrival else .departure := by
  unfold triggerOf
  dsimp only
  split <;> simp_all

theorem triggerOf_kind (bs : List Byte) : (triggerOf bs).kind =
    if natAt bs 4 1 = 0 then .nextStop else if natAt bs 4 1 = 1 then .arriving
      else if natAt bs 4 1 = 2 then .connection else .custom := by
  unfold triggerOf
  dsimp only
  split <;> simp_all

theorem triggerOf_departs {stops : List Stop} {bs : List Byte} (h : triggerInRange stops bs = true) :
    (triggerOf bs).event = .departure ↔ natAt bs 1 1 = 2 := by
  have h2 := (triggerInRange_iff.1 h).2.1
  rw [triggerOf_event]
  obtain h0 | h0 | h0 : natAt bs 1 1 = 0 ∨ natAt bs 1 1 = 1 ∨ natAt bs 1 1 = 2 := by omega
  all_goals rw [h0]; decide

theorem splitReset_none : {ms : List TrackerMsg} → (∀ m ∈ ms, m ≠ .journeyReset) → splitReset ms = none
  | [], _ => rfl
  | m :: ms, h => by
    rw [splitReset, splitReset_none fun x hx => h x (List.mem_cons_of_mem m hx)]
    exact if_neg (h m List.mem_cons_self)

theorem catchUp_triggers {s : State} (h : ∀ m ∈ s.notices.fromTracker, m ≠ .journeyReset) :
    catchUp .triggers s = s := by
  show catchUpNotices s = s
  unfold catchUpNotices
  rw [splitReset_none h]

theorem loadTriggers_fault {v : List Byte} {s : State} {c : Cause} {k : Nat}
    (h : triggersFault v s.tracker.journey = some (c, k)) : loadTriggers v s = .rejected c k := by
  unfold loadTriggers
  rw [h]

end Sys2Proof.Machine

namespace Sys2Proof

open Sys2Proof.Machine

/-- Settles O33: the checks in their order, then the journey opened at stop 0 or closed. -/
theorem journeyLoadOpensJourney : Obligations.JourneyLoadOpensJourney := by
  intro cmd f content parts s t hands count id lead whole bytes field name rejects
  have hkeep := hands_keeps hands
  have hdrain : t.mgmt.draining = false := by
    rw [hkeep.mgmt (by decide)]
    exact hands.1
  have hreject {c : Cause} {i : Nat} (hv : journeyFault content = some (c, i)) : rejects (causeCode c) i :=
    hands_rejected hands rfl (loadJourney_fault hv) hdrain
  refine ⟨fun hw => hreject (c := .length) (if_pos (by omega)), fun hw hr => ?_, fun hw h1 h2 h3 => ?_⟩
  · exact hreject (c := .range) ((if_neg (by omega)).trans (if_pos hr))
  intro inRange inOrder kindFits passes
  have hchecks : journeyFault content = checkStops count 1 none (stopRecords content count) :=
    (if_neg (by omega)).trans (if_neg (by omega))
  have hkind (k : Nat) : (1 + k = 1 ∨ 1 + k = count → field k 4 1 = 0) ↔ kindFits k := by
    show _ ↔ (k = 0 ∨ k + 1 = count → field k 4 1 = 0)
    rw [Nat.add_eq_left, Nat.add_comm 1 k]
  have hpass {k : Nat} (hk : k < count) (hp : passes k) : stopFault count (1 + k)
      (distanceBefore none (stopRecords content count) k) ((stopRecords content count).getD k []) = none := by
    rw [stopRecords_getD hk]
    exact stopFault_none.2 ⟨stopInRange_iff.2 hp.1, (orderFails_iff hk).2 hp.2.1, (hkind k).2 hp.2.2⟩
  constructor
  · intro k hk hb
    have hfail {c : Cause} (hc : stopFault count (1 + k)
        (distanceBefore none (stopRecords content count) k) (bytes k) = some c) : rejects (causeCode c) (k + 1) := by
      rw [Nat.add_comm]
      refine hreject (hchecks.trans (checkStops_of_first _ _ _ _ k (by rwa [stopRecords_length]) c
        (fun m hm => hpass (by omega) (hb m hm)) ?_))
      rwa [stopRecords_getD hk]
    refine ⟨fun hr => hfail (stopFault_range (eq_false_of_ne_true (mt stopInRange_iff.1 hr))), fun hr ho => ?_,
      fun hr ho hkf => ?_⟩
    · exact hfail (stopFault_order (stopInRange_iff.2 hr)
        (eq_true_of_ne_false (mt (orderFails_iff hk).1 ho)))
    · exact hfail (stopFault_kind (stopInRange_iff.2 hr) ((orderFails_iff hk).2 ho) (mt (hkind k).1 hkf))
  · intro hall stop j tracker u
    have hnone : journeyFault content = none := hchecks.trans ((checkStops_none _ _ _ _).2 fun i hi => by
      rw [stopRecords_length] at hi
      exact hpass hi (hall i hi))
    have hstop (bs : List Byte) : stopOf bs =
      { distance := natAt bs 0 4, kind := if natAt bs 4 1 = 0 then .stop else .pass
        side := if natAt bs 5 1 = 0 then .left else if natAt bs 5 1 = 1 then .right
          else if natAt bs 5 1 = 2 then .both else .none
        x := natAt bs 6 2, y := natAt bs 8 1, name := slice bs 10 (natAt bs 9 1) } := by
      rw [← stopOf_side]
      rfl
    have hstops : (stopRecords content count).map stopOf = (List.range count).map stop := by
      rw [stopRecords, List.map_map]
      exact List.map_congr_left fun k _ => hstop _
    have hj : journeyOf content = j := by
      rw [journeyOf, endOfBit_lead h2, hstops]
    have hlen : (journeyOf content).stops.length = count := by
      rw [hj]
      exact (List.length_map _).trans List.length_range
    have hdone : exec cmd s = .next (batchCommitted .journey f content parts u) := by
      have hn := hkeep.notices (by decide)
      have hr := hkeep.resv (by decide)
      have ht := hkeep.tracker (by decide)
      by_cases h0 : count = 0
      · have hu : u = tellJourney .closed { t with tracker := t.tracker.close } := by
          simp only [u, tracker, if_pos h0, ← hn, ← hr, ← ht]
          rfl
        have hv := loadJourney_closes (s := t) hnone (List.length_eq_zero_iff.1 (hlen.trans h0))
        rw [← hu] at hv
        refine hands_committed hands rfl hv ?_
        rw [hu]
        exact hdrain
      · have hfirst : stopAt j.stops 0 = stop 0 := by
          simp [stopAt, j, List.getD_eq_getElem?_getD, Nat.pos_of_ne_zero h0]
        have hu : u = tellJourney (.journey (resvJourneyOf j)) { t with tracker := t.tracker.openAt j } := by
          simp only [u, tracker, if_neg h0, ← hn, ← hr, ← ht, Tracker.openAt, hfirst]
          rfl
        have hv := loadJourney_opens (s := t) hnone (fun h => h0 (hlen ▸ congrArg List.length h))
        rw [hj, ← hu] at hv
        refine hands_committed hands rfl hv ?_
        rw [hu]
        exact hdrain
    refine ⟨hdone, fun p hc hr => ?_⟩
    have hp : t.panel p = s.panel p := congrArg (Panels.panel · p) (hkeep.panels (by decide))
    rw [← hp] at hc hr ⊢
    exact markAll_clean (s := { t with tracker := tracker, notices := _, resv := _ }) hc hr

/-- Settles O34: the checks in their order, then each record armed or void by where the train stands. -/
theorem triggersLoadArmsTable : Obligations.TriggersLoadArmsTable := by
  intro cmd f content parts s t hands hinbox count whole field k' rejects
  have hkeep := hands_keeps hands
  have hn := hkeep.notices (by decide)
  have ht := hkeep.tracker (by decide)
  have hdrain : t.mgmt.draining = false := by
    rw [hkeep.mgmt (by decide)]
    exact hands.1
  have hcatch : catchUp .triggers t = t := catchUp_triggers (by rwa [hn])
  have hreject {c : Cause} {i : Nat} (hv : triggersFault content s.tracker.journey = some (c, i)) :
      rejects (causeCode c) i := hands_rejected hands hcatch (loadTriggers_fault (by rw [ht, hv])) hdrain
  refine ⟨fun hw => hreject (c := .length) (if_pos (by omega)), fun hw hc => ?_, fun hw hc hno => ?_,
    fun hw hc j hj hid => ?_⟩
  · exact hreject (c := .range) ((if_neg (by omega)).trans (if_pos hc))
  · refine hreject (c := .wrongJourney) ((if_neg (by omega)).trans ((if_neg (by omega)).trans ?_))
    cases hjo : s.tracker.journey with
    | none => rfl
    | some j => exact if_pos (hno j hjo)
  intro inRange kindFits
  have hchecks : triggersFault content s.tracker.journey = checkTriggers j.stops 1 (triggerRecords content) := by
    rw [hj]
    exact (if_neg (by omega)).trans ((if_neg (by omega)).trans (if_neg (not_not.2 hid)))
  have hlen : (triggerRecords content).length = count := (List.length_map _).trans List.length_range
  have hrec {k : Nat} (hk : k < count) : (triggerRecords content).getD k [] = slice content (3 + 72 * k) 72 := by
    simp [triggerRecords, List.getD_eq_getElem?_getD, show k < natAt content 2 1 from hk]
  have hpass {k : Nat} (hr : inRange k) (hf : kindFits k) :
      triggerFault j.stops (slice content (3 + 72 * k) 72) = none := by
    rw [triggerFault_of_inRange (triggerInRange_iff.2 hr)]
    exact if_pos hf
  constructor
  · intro k hk hb
    have hfail {c : Cause} (hc : triggerFault j.stops (slice content (3 + 72 * k) 72) = some c) :
        rejects (causeCode c) (k + 1) := by
      rw [Nat.add_comm]
      refine hreject (hchecks.trans (checkTriggers_of_first _ 1 k (by rwa [hlen]) (fun m hm => ?_) ?_))
      · rw [hrec (by omega)]
        exact hpass (hb m hm).1 (hb m hm).2
      · rwa [hrec hk]
    refine ⟨fun hr => hfail (triggerFault_range (eq_false_of_ne_true (mt triggerInRange_iff.1 hr))), fun hr hf => ?_⟩
    refine hfail (c := .kind) ?_
    rw [triggerFault_of_inRange (triggerInRange_iff.2 hr)]
    exact if_neg hf
  · intro hall entry
    have hnone : triggersFault content t.tracker.journey = none := by
      rw [ht]
      refine hchecks.trans (checkTriggers_none _ 1 fun bs hbs => ?_)
      obtain ⟨k, hk, rfl⟩ := List.mem_map.1 hbs
      have hk := hall k (List.mem_range.1 hk)
      exact hpass hk.1 hk.2
    have htable : (triggerRecords content).map
        (fun bs => armEntry t.tracker.c t.tracker.state (triggerOf bs)) = (List.range count).map entry := by
      rw [triggerRecords, List.map_map, ht]
      refine List.map_congr_left fun k hk => ?_
      have hin := triggerInRange_iff.2 (hall k (List.mem_range.1 hk)).1
      simp only [entry, Function.comp, armEntry, triggerOf_departs hin]
      congr 1
      rw [← triggerOf_event, ← triggerOf_kind]
      rfl
    refine hands_committed hands hcatch (u := { t with notices := { s.notices with
      table := (List.range count).map entry } }) ?_ hdrain
    show loadTriggers content t = _
    unfold loadTriggers
    rw [hnone, ← htable, ← hn]

end Sys2Proof

end


section
/-! The GLYPHS load: the font it leaves, and how far the running record may have got meanwhile (R178, R179,
log 7). -/

namespace Sys2Proof.Machine

-- Proofs are elaborated in turn: side by side they take more memory.
set_option Elab.async false

open Sys2Proof

/-! ## The bitmaps of a font -/

theorem find?_loaded (first size count : Nat) (v : List Byte) (code : Nat) :
    (((List.range count).map fun k => (first + k, slice v (5 + k * size) size)).find? (fun b => b.1 = code)).map
        (·.2) =
      if first ≤ code ∧ code < first + count then some (slice v (5 + (code - first) * size) size) else none := by
  rw [List.find?_map]
  by_cases h : first ≤ code ∧ code < first + count
  · have hf : (List.range count).find? (fun k => decide (first + k = code)) = some (code - first) :=
      List.find?_range_eq_some.2 ⟨decide_eq_true (by omega), List.mem_range.2 (by omega),
        fun j hj => by simp; omega⟩
    rw [if_pos h, show ((fun b : Nat × List Byte => decide (b.1 = code)) ∘ fun k => (first + k, _)) =
      fun k => decide (first + k = code) from rfl, hf]
    rfl
  · have hf : (List.range count).find? (fun k => decide (first + k = code)) = none :=
      List.find?_eq_none.2 fun k hk => by have := List.mem_range.1 hk; simp; omega
    rw [if_neg h, show ((fun b : Nat × List Byte => decide (b.1 = code)) ∘ fun k => (first + k, _)) =
      fun k => decide (first + k = code) from rfl, hf]
    rfl

/-- Below or above the range of a load, the bitmap found is the one kept. -/
theorem find?_kept (kept : List (Nat × List Byte)) (P : Nat → Prop) [DecidablePred P] (code : Nat) :
    (kept.filter fun b => decide (P b.1)).find? (fun b => b.1 = code) =
      if P code then kept.find? (fun b => b.1 = code) else none := by
  rw [List.find?_filter]
  simp only [decide_eq_true_eq]
  by_cases hp : P code
  · rw [if_pos hp]
    congr 1
    funext b
    exact decide_eq_decide.2 ⟨And.right, fun h => ⟨h ▸ hp, h⟩⟩
  · rw [if_neg hp]
    exact List.find?_eq_none.2 fun b _ hb => hp ((of_decide_eq_true hb).2 ▸ (of_decide_eq_true hb).1)

theorem bitmap_load (old : Option Font) (width height first size count : Nat) (v : List Byte) {code : Nat}
    (hc : code < 253) :
    (Font.load old width height first
        ((List.range count).map fun k => (first + k, slice v (5 + k * size) size))).bitmap code =
      if first ≤ code ∧ code < first + count then slice v (5 + (code - first) * size) size
      else match old with
        | some f => if f.width = width ∧ f.height = height then f.bitmap code else []
        | none => [] := by
  have hfind (kept : List (Nat × List Byte)) :
      (((kept.filter (fun b => decide (b.1 < first)) ++
          (List.range count).map (fun k => (first + k, slice v (5 + k * size) size)) ++
          kept.filter (fun b => decide (first + count ≤ b.1))).find? (fun b => b.1 = code)).map (·.2)).getD [] =
        if first ≤ code ∧ code < first + count then slice v (5 + (code - first) * size) size
        else ((kept.find? (fun b => b.1 = code)).map (·.2)).getD [] := by
    rw [List.find?_append, List.find?_append, Option.map_or, Option.map_or, find?_loaded,
      find?_kept kept (· < first), find?_kept kept (first + count ≤ ·)]
    rcases Nat.lt_or_ge code first with h | h
    · have hin : ¬ (first ≤ code ∧ code < first + count) := by omega
      rw [if_pos h, if_neg hin, if_neg hin, if_neg (show ¬ first + count ≤ code by omega), Option.map_none,
        Option.or_none, Option.or_none]
    · rw [if_neg (Nat.not_lt.2 h)]
      rcases Nat.lt_or_ge code (first + count) with h2 | h2
      · have hin : first ≤ code ∧ code < first + count := ⟨h, h2⟩
        rw [if_pos hin, if_pos hin, if_neg (Nat.not_le.2 h2)]
        rfl
      · have hin : ¬ (first ≤ code ∧ code < first + count) := by omega
        rw [if_neg hin, if_neg hin, if_pos (show first + count ≤ code from h2)]
        rfl
  have hlen : ((List.range count).map fun k => (first + k, slice v (5 + k * size) size)).length = count := by simp
  rw [Font.bitmap, if_neg (by omega)]
  unfold Font.load
  dsimp only
  rw [hlen]
  refine (hfind _).trans (congrArg (ite _ _) ?_)
  rcases old with _ | f
  · rfl
  · dsimp only
    split
    · exact (if_neg (by omega)).symm
    · rfl

/-! ## The running record met (log 7) -/

theorem meetRunning_idle {s : State} (h : s.engine.running = none) : meetRunning s = s := by
  unfold meetRunning
  rw [h]

theorem meetRunning_some {s : State} {u : Running} (h : s.engine.running = some u) :
    ∃ met, met = runPart s.panels.fonts u.record (Config.unitsDone s.freeCount) (Config.pixelsDone s.freeCount)
        u.part u.cell (s.panel u.record.panelId) u.work ∧
      meetRunning s = { s.setPanel u.record.panelId met.panel with
        engine := { s.engine with running := some { u with work := met.work, part := met.part, cell := met.cell } }
        freeCount := s.freeCount + 1 } := by
  refine ⟨_, rfl, ?_⟩
  unfold meetRunning
  rw [h]
  rfl

/-- A glyph begun meanwhile keeps the font of the glyph store it was begun in. -/
theorem runPart_cell (fonts : List (Option Font)) (r : Record) : (n k : Nat) → (x : Panel) → (w : Work) →
    (runPart fonts r n k 0 none x w).part ≠ 0 → (runPart fonts r n k 0 none x w).cell = r.fontIn fonts
  | 0, k, x, w, h => by
    unfold runPart at h ⊢
    split
    · next hf => exact absurd rfl (if_pos hf ▸ h)
    · next hf =>
      rw [if_neg hf] at h
      exact if_neg h
  | n + 1, k, x, w, h => by
    unfold runPart at h ⊢
    split
    · next hf => exact absurd rfl (if_pos hf ▸ h)
    · next hf =>
      rw [if_neg hf] at h
      dsimp only at h ⊢
      split
      · next hg => exact absurd rfl (if_pos hg ▸ h)
      · next hg =>
        rw [if_neg hg] at h
        exact runPart_cell fonts r n k _ _ h

/-- The record met writes pixels of its own panel's back page only. -/
theorem meetRunning_panel (s : State) (p : PanelId) : (s.panel p).Painted ((meetRunning s).panel p) ∧
    (s.engine.running.all (fun v => decide (v.record.target ≠ some p) && v.record.target.isSome) = true →
      (meetRunning s).panel p = s.panel p) := by
  cases hr : s.engine.running with
  | none => rw [meetRunning_idle hr]; exact ⟨.refl _, fun _ => rfl⟩
  | some v =>
    obtain ⟨met, hmet, hm⟩ := meetRunning_some hr
    have hother (hp : p ≠ v.record.panelId) : (meetRunning s).panel p = s.panel p := by
      rw [hm]
      exact State.panel_setPanel_ne s hp _
    constructor
    · by_cases hp : p = v.record.panelId
      · have hsame : (meetRunning s).panel p = met.panel := by
          rw [hm, hp]
          exact State.panel_setPanel_same s _ _
        rw [hsame, hmet, ← hp]
        exact .runPart _ _ _ _ _ _ _ _
      · rw [hother hp]
        exact .refl _
    · intro h
      obtain ⟨hne, hsome⟩ := Bool.and_eq_true_iff.1
        (show (decide (v.record.target ≠ some p) && v.record.target.isSome) = true from h)
      obtain ⟨q, hq⟩ := Option.isSome_iff_exists.1 hsome
      refine hother fun hp => of_decide_eq_true hne ?_
      rw [hp, Record.panelId, hq]
      rfl

theorem meetRunning_glyphStore (s : State) : (meetRunning s).panels.fonts = s.panels.fonts ∧
    (meetRunning s).panels.composing = s.panels.composing := by
  cases hr : s.engine.running with
  | none => rw [meetRunning_idle hr]; exact ⟨rfl, rfl⟩
  | some v =>
    obtain ⟨met, -, hm⟩ := meetRunning_some hr
    rw [hm]
    cases v.record.panelId <;> exact ⟨rfl, rfl⟩

theorem Panel.Painted.markDirty {x y : Panel} (h : x.Painted y) : x.markDirty.Painted y.markDirty := by
  obtain ⟨m, rfl, hm⟩ := h
  unfold Panel.markDirty
  dsimp only
  split <;> exact ⟨m, rfl, hm⟩

theorem Panel.Painted.markRole {x y : Panel} (r : Role) (h : x.Painted y) :
    (x.markRole r).Painted (y.markRole r) := by
  have hc : y.config = x.config := by
    obtain ⟨m, rfl, -⟩ := h
    rfl
  unfold Panel.markRole
  rw [hc]
  split
  · exact h.markDirty
  · exact h

/-- A GLYPHS content that passes its checks. -/
theorem loadGlyphs_committed {v : List Byte} {s : State} (h5 : 5 ≤ v.length)
    (hr : ¬ (3 < natAt v 0 1 ∨ natAt v 1 1 < 4 ∨ 16 < natAt v 1 1 ∨ natAt v 2 1 < 4 ∨ 16 < natAt v 2 1 ∨
      252 < natAt v 3 1 ∨ natAt v 4 1 < 1 ∨ 253 < natAt v 4 1 ∨ 253 < natAt v 3 1 + natAt v 4 1))
    (hw : v.length = 5 + natAt v 4 1 * bitmapSize (natAt v 1 1) (natAt v 2 1)) :
    loadGlyphs v s = .committed (markRole .notice { meetRunning s with panels := { (meetRunning s).panels with
      fonts := updAt (natAt v 0 1) (fun old => some (Font.load old (natAt v 1 1) (natAt v 2 1) (natAt v 3 1)
          ((List.range (natAt v 4 1)).map fun k => (natAt v 3 1 + k,
            slice v (5 + k * bitmapSize (natAt v 1 1) (natAt v 2 1)) (bitmapSize (natAt v 1 1) (natAt v 2 1))))))
        (meetRunning s).panels.fonts } }) :=
  (if_neg (by omega)).trans ((if_neg hr).trans (if_neg (not_not.2 hw)))

end Sys2Proof.Machine

namespace Sys2Proof

open Sys2Proof.Machine

/-- Settles O51: the checks in their order, then the font loaded upon what the running record has come to. -/
theorem glyphsLoadSetsFont : Obligations.GlyphsLoadSetsFont := by
  intro cmd f content parts s t hands hfour font width height first count size inRange whole rejects
  have hkeep := hands_keeps hands
  have hpanels : t.panels = s.panels := hkeep.panels (by decide)
  have hengine : t.engine = s.engine := hkeep.engine (by decide)
  have hdrain : t.mgmt.draining = false := by
    rw [hkeep.mgmt (by decide)]
    exact hands.1
  have hreject {c : Cause} (hv : loadGlyphs content t = .rejected c 0) : rejects (causeCode c) :=
    hands_rejected hands rfl hv hdrain
  have hrange (h : inRange) : ¬ (3 < font ∨ width < 4 ∨ 16 < width ∨ height < 4 ∨ 16 < height ∨ 252 < first ∨
      count < 1 ∨ 253 < count ∨ 253 < first + count) := by omega
  refine ⟨fun h => hreject (c := .length) (if_pos h), fun h hr => ?_, fun h hr hw => ?_, fun hr hw => ?_⟩
  · exact hreject (c := .range) ((if_neg (by omega)).trans (if_pos (by omega)))
  · exact hreject (c := .length) ((if_neg (by omega)).trans ((if_neg (hrange hr)).trans (if_pos hw)))
  have hv := loadGlyphs_committed (s := t) (by omega) (hrange hr) hw
  have hunch := loadGlyphs_keeps (.refl [.engine, .panels, .freeCount] t) hv
  generalize hu : markRole _ _ = u at hv hunch
  have hfonts : u.panels.fonts = updAt font (fun old => some (Font.load old width height first
      ((List.range count).map fun k => (first + k, slice content (5 + k * size) size)))) s.panels.fonts := by
    rw [← hu, ← hpanels, ← (meetRunning_glyphStore t).1]
    rfl
  have hpanel (p : PanelId) : u.panel p = ((meetRunning t).panel p).markRole .notice := by
    rw [← hu, markRole_panel]
    cases p <;> rfl
  have ht (p : PanelId) : t.panel p = s.panel p := congrArg (Panels.panel · p) hpanels
  refine ⟨u, hands_committed hands rfl hv (by rw [hunch.mgmt (by decide), hdrain]), hunch, ?_, fun i hi => ?_, ?_, ?_,
    fun p => ?_, fun h => ?_, fun v h => ?_⟩
  · rw [hfonts, updAt_length, hfour]
  · rw [hfonts, getElem?_updAt_ne hi]
  · have hold : s.panels.fonts[font]? = some (s.panels.fonts.getD font none) := by
      have : font < s.panels.fonts.length := by omega
      simp [List.getD_eq_getElem?_getD, List.getElem?_eq_getElem this]
    rw [hfonts, getElem?_updAt_same, hold]
    exact ⟨_, rfl, rfl, rfl, fun code hc => (bitmap_load _ width height first size count content hc).trans rfl⟩
  · rw [← hu, ← hpanels, ← (meetRunning_glyphStore t).2]
    rfl
  · obtain ⟨hpaint, hstill⟩ := meetRunning_panel t p
    rw [hengine, ht] at hstill
    rw [ht] at hpaint
    intro x
    have hx : x = (s.panel p).markRole .notice := rfl
    refine ⟨?_, ?_, fun h => ?_⟩
    · obtain ⟨m, hm, -⟩ := hpaint.markRole .notice
      rw [hpanel, hm, hx]
    · obtain ⟨m, hm, -⟩ := hpaint.markRole .notice
      rw [hpanel, hm, hx]
    · rw [hpanel, hstill h, hx]
  · rw [← hu, meetRunning_idle (hengine ▸ h), ← hengine]
    rfl
  · rw [← hengine] at h
    obtain ⟨met, hmet, hm⟩ := meetRunning_some h
    refine ⟨met.work, met.part, met.cell, ?_, fun h0 hn hp => ?_⟩
    · rw [← hu, hm, ← hengine]
      rfl
    · rw [h0, hn, hpanels] at hmet
      rw [hmet] at hp ⊢
      exact runPart_cell _ _ _ _ _ _ hp

end Sys2Proof

end


section
/-! The REPORT frame: its cause, and the LTX it is offered to (R198, R199). -/

namespace Sys2Proof.Machine

-- Proofs are elaborated in turn: side by side they take more memory.
set_option Elab.async false

open Sys2Proof

theorem numbered_eq (cells : List ReportCell) :
    numbered cells = (List.range cells.length).map fun n => (n, cells.getD n {}) := by
  refine List.ext_getElem (by simp [numbered]) fun i h1 h2 => ?_
  have hi : i < cells.length := by simpa using h2
  simp [numbered, List.getD_eq_getElem?_getD, hi]

/-- The due classes are the numbers of the due cells with their cells. -/
theorem dueClasses_eq (cells : List ReportCell) :
    dueClasses cells = ((List.range cells.length).filter fun n => (cells.getD n {}).due).map
      fun n => (n, cells.getD n {}) := by
  rw [dueClasses, numbered_eq, List.filter_map]
  rfl

/-- The cause is the lowest URGENT class due, or with none URGENT the lowest due. -/
theorem causeOf_lowest {q : Nat → Bool} {cell : Nat → ReportCell} {k n : Nat} (hn : n ∈ (List.range k).filter q)
    (h : ((cell n).priority = .urgent ∧ ∀ m ∈ (List.range k).filter q, m < n → (cell m).priority = .normal) ∨
      ((∀ m ∈ (List.range k).filter q, (cell m).priority = .normal) ∧ ∀ m ∈ (List.range k).filter q, n ≤ m)) :
    causeOf (((List.range k).filter q).map fun n => (n, cell n)) = some (n, cell n) := by
  obtain ⟨hk, hq⟩ := List.mem_filter.1 hn
  have hin {m : Nat} (hm : m < n) (hqm : q m = true) : m ∈ (List.range k).filter q :=
    List.mem_filter.2 ⟨List.mem_range.2 (hm.trans (List.mem_range.1 hk)), hqm⟩
  rw [causeOf, List.find?_map]
  rcases h with ⟨hu, hlow⟩ | ⟨hnorm, hlow⟩
  · have hf : ((List.range k).filter q).find? ((fun x : Nat × ReportCell => decide (x.2.priority = .urgent)) ∘
        fun n => (n, cell n)) = some n := by
      rw [List.find?_filter, List.find?_range_eq_some]
      refine ⟨decide_eq_true ⟨hq, decide_eq_true hu⟩, hk, fun m hm => ?_⟩
      rw [decide_eq_false fun hh => ?_, Bool.not_false]
      have := hlow m (hin hm hh.1) hm
      exact absurd (of_decide_eq_true hh.2) (by simp [this])
    rw [hf]
    rfl
  · have hf : ((List.range k).filter q).find? ((fun x : Nat × ReportCell => decide (x.2.priority = .urgent)) ∘
        fun n => (n, cell n)) = none :=
      List.find?_eq_none.2 fun m hm hh => absurd (of_decide_eq_true hh) (by simp [hnorm m hm])
    have hhead : ((List.range k).filter q).head? = some n := by
      rw [List.head?_filter, List.find?_range_eq_some]
      refine ⟨hq, hk, fun m hm => ?_⟩
      rw [eq_false_of_ne_true fun hh => Nat.not_le.2 hm (hlow m (hin hm hh)), Bool.not_false]
    rw [hf, List.head?_map, hhead]
    rfl

/-- A frame offered to the LTX of a port: placed at its tail, or discarded when the port is not UP. -/
theorem placeLtx_eq (p : PortId) (f : Frame) (s : State) : placeLtx p f s = s.setPort p
    (if (s.port p).isUp then Port.arbitrate { s.port p with ltx := (s.port p).ltx ++ [f] } else s.port p) := by
  cases h : (s.port p).isUp with
  | true => exact placeLtx_up h f
  | false => rw [placeLtx_down h]; exact (State.setPort_port s p).symm

theorem reportFits_iff {p : PortId} {s : State} (hc : s.consist.waiting = none) (hm : s.mgmt.waiting = none) :
    reportFits p s = true ↔ ((s.port p).isUp = true → (s.port p).ltx.length < 4) := by
  have hno : decide (Option.map (fun x : Copy => x.port) none = some p) = false := rfl
  rw [reportFits, returnWaits, replyWaits, hc, hm, hno, Bool.and_false,
    Bool.not_false, Bool.and_true, Bool.and_true]
  constructor
  · intro h hup
    exact Nat.lt_of_not_le fun hle => Port.ltxTakes_full hup hle h
  · intro h
    cases hup : (s.port p).isUp with
    | true => exact Port.ltxTakes_room (h hup)
    | false => exact Port.ltxTakes_down hup

section
variable {s : State} {cause : Nat × ReportCell} (hcause : causeOf (dueClasses s.reports.cells) = some cause)
include hcause

theorem exec_reportBuild_one {lead : TrainEnd} {p : PortId} (hway : reportWay s = some (lead, p)) :
    exec .reportBuild s = if reportFits p s then
      .next (placeLtx p (endFrame 16 lead (endValue lead) (reportPayload s.reports cause))
        { s with reports := s.reports.sent })
    else .next s := by
  simp only [exec, execReportBuild, hcause, hway]

theorem exec_reportBuild_both (hway : reportWay s = none) :
    exec .reportBuild s = if reportFits .A s ∧ reportFits .B s then
      .next (placeLtx .B (endFrame 16 .end1 3 (reportPayload s.reports cause))
        (placeLtx .A (endFrame 16 .end1 3 (reportPayload s.reports cause)) { s with reports := s.reports.sent }))
    else .next s := by
  simp only [exec, execReportBuild, hcause, hway]

end

end Sys2Proof.Machine

namespace Sys2Proof

open Sys2Proof.Machine

/-- Settles O60: the cause and payload from the due classes, then the LTX of one port or of both. -/
theorem reportFrameIsBuilt : Obligations.ReportFrameIsBuilt := by
  intro s hlen hreturn hreply r cell due sent
  have hdue : dueClasses s.reports.cells = due.map fun n => (n, cell n) := by rw [dueClasses_eq, hlen]
  refine ⟨fun h0 => ?_, fun n hn hfirst => ?_⟩
  · have hcause : causeOf (dueClasses s.reports.cells) = none := by rw [hdue, h0]; rfl
    simp only [exec, execReportBuild, hcause]
  intro payload after
  have hcause : causeOf (dueClasses s.reports.cells) = some (n, cell n) := by
    rw [hdue]
    exact causeOf_lowest hn hfirst
  have hpayload : reportPayload s.reports (n, cell n) = payload := by
    simp only [reportPayload, hdue, List.length_map, List.flatMap_map]
    rfl
  have hfits {p : PortId} := reportFits_iff (p := p) hreturn hreply
  refine ⟨fun j p hj hp => ?_, fun hno => ?_⟩
  · intro o f
    have hway : reportWay s = some (j.lead, o) := by
      rw [reportWay, hj, hp]
      rcases p with _ | _ <;> cases hl : j.lead <;> simp only [o, hl] <;> rfl
    have hframe : endFrame 16 j.lead (endValue j.lead) (reportPayload s.reports (n, cell n)) = f := by
      rw [hpayload]
      cases hl : j.lead <;> simp only [f, hl] <;> rfl
    have hx := exec_reportBuild_one hcause hway
    rw [hframe] at hx
    refine ⟨fun hroom => ?_, fun hup hfull => ?_⟩
    · rw [hx, if_pos (hfits.2 fun hup => hroom.resolve_left (by rw [hup]; decide)), placeLtx_eq]
      rfl
    · rw [hx, if_neg fun hh => Nat.not_lt.2 hfull (hfits.1 hh hup)]
  · intro f
    have hway : reportWay s = none := by
      unfold reportWay
      split
      · next j p hj hp => exact hno.elim (fun h => nomatch h.symm.trans hj) fun h => nomatch h.symm.trans hp
      · rfl
    have hx := exec_reportBuild_both hcause hway
    rw [hpayload] at hx
    refine ⟨fun hroom => ?_, fun ⟨p, hup, hfull⟩ => ?_⟩
    · rw [hx, if_pos ⟨hfits.2 (hroom .A), hfits.2 (hroom .B)⟩, placeLtx_eq, placeLtx_eq]
      rfl
    · rw [hx, if_neg fun hh => ?_]
      have hh : reportFits p s = true := by
        cases p
        · exact hh.1
        · exact hh.2
      exact Nat.not_lt.2 hfull (hfits.1 hh hup)

end Sys2Proof

end


section
/-! The Panel Unit: rows and the frame boundary, and the writes of fields, palettes and side glyphs (sections 10.1 to
10.4). -/

namespace Sys2Proof.Machine

-- Proofs are elaborated in turn: side by side they take more memory.
set_option Elab.async false

open Sys2Proof

/-! ## Rows and the frame boundary -/

theorem Panel.flipComposer_eq (x : Panel) : x.flipComposer = { x with
    composer := if x.composer = some .flipWait then (if x.redo then some .dirty else some .clean) else x.composer
    redo := if x.composer = some .flipWait then false else x.redo } := by
  unfold Panel.flipComposer
  split
  · next h =>
    rw [if_pos h, if_pos h]
    split
    · rfl
    · next hr => exact congrArg (fun b => { x with composer := some .clean, redo := b }) (eq_false_of_ne_true hr)
  · next h => rw [if_neg h, if_neg h]

theorem completeFlip_eq (p : PanelId) (s : State) : completeFlip p s =
    { s.setPanel p { s.panel p with
        shown := (s.panel p).back, back := (s.panel p).shown, flipPending := false
        composer := if (s.panel p).composer = some .flipWait then
            (if (s.panel p).redo then some .dirty else some .clean)
          else (s.panel p).composer
        redo := if (s.panel p).composer = some .flipWait then false else (s.panel p).redo } with
      notices := if (s.panel p).config.role = .notice then { s.notices with
          fromPanels := s.notices.fromPanels ++ [.flipped (s.panel p).back.tag (s.panel p).enabled] }
        else s.notices } := by
  unfold completeFlip
  rw [Panel.flipComposer_eq]
  dsimp only [Panel.exchange]
  split <;> rfl

section
variable {p : PanelId} {f : Refresh} {s : State} (hf : (s.panel p).refresh = some f)
include hf

theorem exec_panelRowEnd (hb : f.boundaryDue = false) : exec (.panelRowEnd p) s =
    .next (s.setPanel p { s.panel p with refresh := some ((s.panel p).rowEnd f) }) := by
  simp only [exec, execPanelRowEnd, hf, hb, Bool.false_eq_true, if_false]

theorem exec_frameBoundary (hb : f.boundaryDue = true) : exec (.frameBoundary p) s =
    .next (if (s.panel p).flipPending then
      runEngine (completeFlip p (s.setPanel p
        { (s.panel p).adoptTiming with refresh := some { f with boundaryDue := false } }))
    else s.setPanel p { (s.panel p).adoptTiming with refresh := some { f with boundaryDue := false } }) := by
  simp only [exec, execFrameBoundary, hf, hb, if_true, State.panel_setPanel_same]
  rfl

end

/-! ## Fields -/

theorem clampTo_zero (hi n : Nat) : clampTo 0 hi n = min n hi := by
  rw [clampTo, if_neg (Nat.not_lt_zero n)]
  split <;> omega

theorem storedResult_clamp (hi n : Nat) : storedResult n (clampTo 0 hi n) = if n ≤ hi then .ok else .clamped := by
  rw [clampTo_zero, storedResult]
  by_cases h : n ≤ hi
  · rw [if_pos h, if_pos (Nat.min_eq_left h)]
  · rw [if_neg h, if_neg (by omega)]

/-- A field of a panel set that is not its role. -/
theorem setConfig_eq {p : PanelId} {r : Role} {c : PanelConfig} {s : State} (hc : c.role = (s.panel p).config.role) :
    setConfig p r c s = s.setPanel p (if c = (s.panel p).config then s.panel p
      else if (s.panel p).config.role = r then Panel.markDirty { s.panel p with config := c }
      else { s.panel p with config := c }) := by
  unfold setConfig
  dsimp only
  by_cases h : c = (s.panel p).config
  · rw [if_pos h, if_pos h, State.setPanel_panel]
  · rw [if_neg h, if_neg h, ← hc]
    rfl

theorem writeClamped_eq {p : PanelId} {r : Role} {hi : Nat} {value : List Byte} {set : Nat → PanelConfig → PanelConfig}
    {s : State} {n : Nat} (hn : itemNumber value = some n)
    (hset : ∀ n c, (set n c).role = c.role) :
    answered (writeClamped p r hi value set s) = .next (State.recorded (if n ≤ hi then .ok else .clamped)
      (s.setPanel p (if set (min n hi) (s.panel p).config = (s.panel p).config then s.panel p
        else if (s.panel p).config.role = r then
          Panel.markDirty { s.panel p with config := set (min n hi) (s.panel p).config }
        else { s.panel p with config := set (min n hi) (s.panel p).config }))) := by
  unfold writeClamped
  rw [hn]
  dsimp only
  rw [setConfig_eq (hset _ _), storedResult_clamp, clampTo_zero]
  rfl

/-! ## Writes that change what pixels show (log 8) -/

/-- Before such a write the row being shifted only gains colours. -/
theorem keepShifted_eq (p : PanelId) (s : State) : ∃ (r : Option Refresh) (n : Nat),
    keepShifted p s = { s.setPanel p { s.panel p with refresh := r } with freeCount := n } ∧
    ((s.panel p).refresh = none → r = none) ∧
    ∀ f, (s.panel p).refresh = some f → ∃ more, r = some { f with shifted := f.shifted ++ more } := by
  have hself : { s.setPanel p { s.panel p with refresh := (s.panel p).refresh } with freeCount := s.freeCount } = s :=
    State.setPanel_panel s p
  have hkeep (f : Refresh) : (s.panel p).refresh = some f →
      ∃ more, (s.panel p).refresh = some { f with shifted := f.shifted ++ more } :=
    fun h => ⟨[], by rw [List.append_nil, h]⟩
  unfold keepShifted
  dsimp only
  split
  · exact ⟨_, _, hself.symm, id, hkeep⟩
  · next f hf =>
    split
    · exact ⟨_, _, hself.symm, id, hkeep⟩
    · refine ⟨_, _, rfl, fun h => absurd (hf.symm.trans h) nofun, fun g hg => ?_⟩
      cases hf.symm.trans hg
      exact ⟨_, rfl⟩

/-- A write that follows, of what the refresh does not hold. -/
theorem keepShifted_written (p : PanelId) (g : Panel → Panel)
    (hg : ∀ x r, g { x with refresh := r } = { g x with refresh := r }) (s : State) :
    let t := (keepShifted p s).setPanel p (g ((keepShifted p s).panel p))
    UnchangedBut [.panels, .freeCount] s t ∧ (∀ q, q ≠ p → t.panel q = s.panel q) ∧
      t.panel p = { g (s.panel p) with refresh := (t.panel p).refresh } ∧
      ((s.panel p).refresh = none → (t.panel p).refresh = none) ∧
      ∀ f, (s.panel p).refresh = some f → ∃ more, (t.panel p).refresh = some { f with shifted := f.shifted ++ more } := by
  intro t
  obtain ⟨r, n, hk, hnone, hsome⟩ := keepShifted_eq p s
  have hx : (keepShifted p s).panel p = { s.panel p with refresh := r } := by
    rw [hk]
    exact State.panel_setPanel_same s p _
  have ht : t.panel p = { g (s.panel p) with refresh := r } := by
    rw [← hg, ← hx]
    exact State.panel_setPanel_same _ p _
  refine ⟨setPanel_keeps (keepShifted_keeps (.refl [.panels, .freeCount] s)), fun q hq => ?_, ?_, ?_, ?_⟩
  · rw [show t.panel q = (keepShifted p s).panel q from State.panel_setPanel_ne _ hq _, hk]
    exact State.panel_setPanel_ne s hq _
  · rw [ht]
  · rw [ht]
    exact hnone
  · rw [ht]
    exact hsome

theorem panelOfNat_panelNum (p : PanelId) {e : Nat} (he : e < 16) :
    panelOfNat ((byteOf (panelNum p * 16 + e)).toNat / 16) = some p ∧ (byteOf (panelNum p * 16 + e)).toNat % 16 = e := by
  have hp : panelNum p < 4 := by cases p <;> decide
  have h : (byteOf (panelNum p * 16 + e)).toNat = panelNum p * 16 + e := by
    rw [byteOf, BitVec.toNat_ofNat]
    exact Nat.mod_eq_of_lt (by omega)
  rw [h, show (panelNum p * 16 + e) / 16 = panelNum p by omega]
  exact ⟨by cases p <;> rfl, by omega⟩

theorem writePalettes_eq {p : PanelId} {e n : Nat} {value : List Byte} {s : State} (he : e < 16)
    (hn : itemNumber value = some n) : exec (.palettesWrite (byteOf (panelNum p * 16 + e)) value) s =
      .next (State.recorded (if n ≤ 4095 then .ok else .clamped) ((keepShifted p s).setPanel p
        { (keepShifted p s).panel p with
          palette := ((keepShifted p s).panel p).palette.set e (BitVec.ofNat 12 (min n 4095)) })) := by
  obtain ⟨hp, hm⟩ := panelOfNat_panelNum p he
  show answered (writePalettes _ value s) = _
  unfold writePalettes
  rw [hp, hn, hm]
  dsimp only
  rw [storedResult_clamp, clampTo_zero, updAt_eq_modify, List.modify_eq_set_getElem?]
  cases h : ((keepShifted p s).panel p).palette[e]? with
  | none => rw [List.set_eq_of_length_le (List.getElem?_eq_none_iff.1 h)]; rfl
  | some c => rfl

/-! ## Side glyphs -/

theorem setSide_eq (k : Panels) {i : Byte} (h : i.toNat < 3) (code : Option Byte) : k.setSide i.toNat code =
    if i = 0 then { k with sideLeft := code } else if i = 1 then { k with sideRight := code }
    else { k with sideBoth := code } := by
  obtain rfl | rfl | rfl : i = 0 ∨ i = 1 ∨ i = 2 := by
    simp only [← BitVec.toNat_inj]
    exact (show i.toNat = 0 ∨ i.toNat = 1 ∨ i.toNat = 2 by omega)
  all_goals rfl

end Sys2Proof.Machine

namespace Sys2Proof

open Sys2Proof.Machine

/-- Settles O52: the row latched and the next begun, and the flip that a boundary completes. -/
theorem panelRefreshAndFlip : Obligations.PanelRefreshAndFlip := by
  intro p f s hf x
  refine ⟨fun hb => ⟨fun y hy => ?_, fun k hk => ?_⟩, fun hb => ?_⟩
  · intro n k colour g
    rw [exec_panelRowEnd hf hb, Panel.rowEnd, hy]
    rfl
  · intro g
    rw [exec_panelRowEnd hf hb, Panel.rowEnd, hk]
  · intro adopted
    have hx := exec_frameBoundary hf hb
    refine ⟨fun hno => ?_, fun hyes => ?_⟩
    · rw [hx, if_neg (show ¬ (s.panel p).flipPending = true by rw [hno]; decide)]
      rfl
    · rw [if_pos hyes] at hx
      have hflip := completeFlip_eq p (s.setPanel p adopted)
      rw [State.panel_setPanel_same, State.setPanel_setPanel] at hflip
      exact ⟨_, hx, completeFlip_keeps (setPanel_keeps (.refl [.panels, .notices] s)), congrArg State.panels hflip,
        congrArg State.notices hflip⟩

/-- Settles O54: each field by the one write it is. -/
theorem displayFieldsAreWritten : Obligations.DisplayFieldsAreWritten := by
  refine ⟨fun x => ⟨fun h => ?_, fun h => ?_, fun h => ?_⟩, fun p value s => ?_⟩
  · rcases h with h | h <;> rw [Panel.markDirty, h]
  · rw [Panel.markDirty, h]
  · rcases h with h | h <;> rw [Panel.markDirty, h]
  intro x stored
  refine ⟨fun hl => ?_, fun n hn => ?_, fun b hb => ?_, fun e n he hn => ?_, fun i n hi hn => ?_⟩
  · show answered (writePrefix p value s) = _
    rw [writePrefix, if_neg (Nat.not_lt.2 hl)]
    exact congrArg (fun t => answered (t, .ok))
      (setConfig_eq (c := { (s.panel p).config with prefixText := value }) rfl)
  · intro small v
    exact ⟨writeClamped_eq hn fun _ _ => rfl, writeClamped_eq hn fun _ _ => rfl, writeClamped_eq hn fun _ _ => rfl,
      writeClamped_eq hn fun _ _ => rfl, writeClamped_eq hn fun _ _ => rfl, writeClamped_eq hn fun _ _ => rfl,
      writeClamped_eq hn fun _ _ => rfl⟩
  · have hflag : flagValue value = some b := by
      rw [flagValue, hb]
      cases b <;> rfl
    by_cases hsame : b = x.config.forceBlank
    · refine ⟨s, ?_, .refl _ s, fun _ _ => rfl, by rw [hsame], id, fun f hf => ⟨[], by rw [List.append_nil, hf]⟩⟩
      show answered (writeForceBlank p value s) = _
      unfold writeForceBlank
      rw [hflag]
      exact congrArg answered (if_pos hsame)
    · refine ⟨_, ?_, keepShifted_written p (fun y => { y with config := { y.config with forceBlank := b } })
        (fun _ _ => rfl) s⟩
      show answered (writeForceBlank p value s) = _
      unfold writeForceBlank
      rw [hflag]
      exact congrArg answered (if_neg hsame)
  · exact ⟨_, writePalettes_eq he hn, keepShifted_written p
      (fun y => { y with palette := y.palette.set e (BitVec.ofNat 12 (min n 4095)) }) (fun _ _ => rfl) s⟩
  · have hx : exec (.sideglyphsWrite i value) s = answered (if 252 < n ∧ n ≠ 255 then (s, .badValue)
        else if s.panels.setSide i.toNat (if n = 255 then none else some (byteOf n)) = s.panels then (s, .ok)
        else (markRole .notice
          { s with panels := s.panels.setSide i.toNat (if n = 255 then none else some (byteOf n)) }, .ok)) := by
      show answered (writeSideglyphs i.toNat value s) = _
      unfold writeSideglyphs
      rw [if_neg (Nat.not_le.2 hi), hn]
    refine ⟨fun h1 h2 => ?_, fun h => ?_⟩
    · rw [hx, if_pos ⟨h1, h2⟩]
      rfl
    intro code k
    have hk : s.panels.setSide i.toNat (if n = 255 then none else some (byteOf n)) = k := setSide_eq _ hi _
    rw [if_neg (by omega), hk] at hx
    refine ⟨fun hs => ?_, fun hs => ?_⟩
    · rw [hx, if_pos hs]
      rfl
    · rw [if_neg hs] at hx
      have hpanel (q : PanelId) : k.panel q = s.panels.panel q ∧ k.fonts = s.panels.fonts ∧
          k.composing = s.panels.composing := by
        simp only [k]
        split
        · cases q <;> exact ⟨rfl, rfl, rfl⟩
        · split <;> cases q <;> exact ⟨rfl, rfl, rfl⟩
      refine ⟨_, hx, markRole_keeps (panels_keeps (.refl [.panels] s)), rfl, rfl, rfl, (hpanel p).2.1, (hpanel p).2.2,
        fun q => ?_⟩
      refine (markRole_panel _ _ q).trans ?_
      rw [show ({ s with panels := k } : State).panel q = s.panel q from (hpanel q).1]
      rfl

end Sys2Proof

end


section
/-! The writes of the tables CLASSIFY, GROUPS, SEATMAP, LINES, DOORS and REPORTS, and of the scanner enable. -/

namespace Sys2Proof.Machine

-- Proofs are elaborated in turn: side by side they take more memory.
set_option Elab.async false

open Sys2Proof

theorem flagValue_bit {value : List Byte} {b : Bool} (h : itemNumber value = some (bit b)) :
    flagValue value = some b := by
  rw [flagValue, h]
  cases b <;> rfl

/-! ## The classifier's tables -/

theorem setFlag_eq (f : Nat) (b : Bool) : ClassEntry.setFlag (f % 3) b = fun e : ClassEntry => match f % 3 with
    | 0 => { e with consumeOnMatch := b }
    | 1 => { e with forwardOnMatch := b }
    | _ => { e with forwardOnNomatch := b } := by
  funext e
  have h3 : f % 3 < 3 := Nat.mod_lt f (by decide)
  generalize f % 3 = r at h3
  match r with
  | 0 => rfl
  | 1 => rfl
  | 2 => rfl

/-- One place of the group set written. -/
theorem getLsbD_groups (g : BitVec 64) {k n : Nat} (hk : k < 64) (hn : n < 64) (b : Bool) :
    (if b then g ||| BitVec.twoPow 64 k else g &&& ~~~ BitVec.twoPow 64 k).getLsbD n =
      if n = k then b else g.getLsbD n := by
  cases b <;> by_cases h : n = k <;> simp [h, hk, hn, Ne.symm]

/-! ## The seat map -/

theorem any_other_number {seats : List Seat} {k n : Nat}
    (hne : n ≠ (seats.getD k {}).number) : seats.any (fun x => decide (x.number = n)) = true ↔
      ∃ j x, seats[j]? = some x ∧ j ≠ k ∧ x.number = n := by
  rw [List.any_eq_true]
  constructor
  · rintro ⟨x, hx, hn⟩
    obtain ⟨j, hj⟩ := List.mem_iff_getElem?.1 hx
    refine ⟨j, x, hj, fun h => hne ?_, of_decide_eq_true hn⟩
    rw [List.getD_eq_getElem?_getD, ← h, hj]
    exact (of_decide_eq_true hn).symm
  · rintro ⟨j, x, hj, -, hn⟩
    exact ⟨x, List.mem_of_getElem? hj, decide_eq_true hn⟩

section
variable {k n : Nat} {value : List Byte} {s : State} (hl : s.mgmt.locked = false) (hn : itemNumber value = some n)
include hl hn

theorem writeSeatmap_eq (hk : k < 96) (h255 : n ≤ 255) : writeSeatmap k value s =
    if (s.resv.seats.getD k {}).number = n then (s, .ok)
    else if n ≠ 0 ∧ s.resv.seats.any (fun x => decide (x.number = n)) then (s, .badValue)
    else (commitSeats (updAt k (fun x => { x with number := n, segments := [], data := .unknown }) s.resv.seats) s,
      .ok) := by
  unfold writeSeatmap
  rw [if_neg (Nat.not_le.2 hk), if_neg (by rw [hl]; decide), hn]
  exact if_neg (Nat.not_lt.2 h255)

theorem writeLines_eq (hk : k < 32) (hv : n ≤ if k < 8 then 1 else 7) : writeLines k value s =
    ({ s with scanner := { s.scanner with lines := s.scanner.lines.setLine k n } }, .ok) := by
  unfold writeLines
  rw [if_neg (Nat.not_le.2 hk), if_neg (by rw [hl]; decide), hn]
  exact if_neg (Nat.not_lt.2 hv)

theorem writeDoors_eq (hk : k < 2) {m : DoorMode} (hm : doorModeOf n = some m) : writeDoors k value s =
    ({ s with
        tracker := s.tracker.setDoor (if k = 0 then .left else .right)
          { s.tracker.door (if k = 0 then .left else .right) with mode := m } }, .ok) := by
  unfold writeDoors
  rw [if_neg (Nat.not_le.2 hk), if_neg (by rw [hl]; decide), hn, Option.bind_some, hm]

end

end Sys2Proof.Machine

namespace Sys2Proof

open Sys2Proof.Machine

/-- Settles O55: each table by its one write. -/
theorem tablesAreWritten : Obligations.TablesAreWritten := by
  intro i value s hl k
  have hl' : ¬ s.mgmt.locked = true := by rw [hl]; decide
  refine ⟨fun b hb => ?_, fun n hn => ?_, rfl⟩
  · have hflag := flagValue_bit hb
    refine ⟨fun hk h21 => ?_, fun hk ht => ?_, fun hk => ?_, fun hs => ?_, fun ht hs => ?_, fun hf hs => ?_,
      fun hk h3 => ?_, fun hk h3 => ?_⟩
    · show answered (writeClassify k value s) = _
      unfold writeClassify
      rw [if_neg (Nat.not_le.2 hk), if_neg hl', hflag]
      dsimp only
      rw [if_neg h21, updAt_eq_modify, setFlag_eq]
      rfl
    · show answered (writeClassify k value s) = _
      unfold writeClassify
      rw [if_neg (by omega), if_neg hl', hflag]
      exact congrArg answered (if_pos ⟨hk, ht⟩)
    · refine ⟨{ s with classifier := { s.classifier with
        groups := if b then s.classifier.groups ||| BitVec.twoPow 64 k
          else s.classifier.groups &&& ~~~ BitVec.twoPow 64 k } }, ?_, rfl, fun n hn => getLsbD_groups s.classifier.groups hk hn b⟩
      show answered (writeGroups k value s) = _
      unfold writeGroups
      rw [if_neg (Nat.not_le.2 hk), hflag]
      rfl
    · show answered (writeScannerEnable value s) = _
      unfold writeScannerEnable
      rw [hflag]
      exact congrArg answered (if_pos hs)
    · have hx : writeScannerEnable value s = ({ s with scanner := s.scanner.start s.resv.image }, .ok) := by
        unfold writeScannerEnable
        rw [hflag]
        exact (if_neg (by rw [ht, hs]; decide)).trans (if_pos ht)
      exact ⟨_, congrArg answered hx, scanner_keeps (.refl [.scanner] s), rfl, rfl, rfl, rfl, rfl, rfl, rfl, rfl, rfl⟩
    · show answered (writeScannerEnable value s) = _
      unfold writeScannerEnable
      rw [hflag]
      exact congrArg answered ((if_neg (by rw [hf, hs]; decide)).trans (if_neg (by rw [hf]; decide)))
    · show answered (writeReports k value s) = _
      unfold writeReports
      rw [if_neg (Nat.not_le.2 hk), h3, hflag]
      exact congrArg (fun l => Host.Outcome.next (State.recorded .ok { s with reports := { s.reports with cells := l } }))
        (updAt_eq_modify _ _ _)
    · show answered (writeReports k value s) = _
      unfold writeReports
      rw [if_neg (Nat.not_le.2 hk), h3, hb, Option.bind_some,
        show priorityOf (bit b) = some (if b then .urgent else .normal) by cases b <;> rfl]
      exact congrArg (fun l => Host.Outcome.next (State.recorded .ok { s with reports := { s.reports with cells := l } }))
        (updAt_eq_modify _ _ _)
  · refine ⟨fun hk h3 => ?_, fun hk h1 => ?_, fun line hline => ⟨fun h8 hk h7 => ?_, fun h20 hk h7 => ?_⟩,
      fun m hm => ⟨fun hk => ?_, fun hk => ?_⟩, fun hk h255 _ => ?_⟩
    · show answered (writeReports k value s) = _
      unfold writeReports
      rw [if_neg (Nat.not_le.2 hk), h3, hn]
      dsimp only
      rw [storedResult_clamp, clampTo_zero, setCell, updAt_eq_modify]
      rfl
    · show answered (writeLines k value s) = _
      rw [writeLines_eq hl hn (by omega) (by rwa [if_pos hk]), Lines.setLine, if_pos hk, updAt_eq_modify,
        show n.testBit 0 = decide (n = 1) by
          obtain rfl | rfl : n = 0 ∨ n = 1 := by omega
          · rfl
          · rfl]
      rfl
    · show answered (writeLines k value s) = _
      rw [writeLines_eq hl hn (by omega) (by rwa [if_neg (by omega)]), Lines.setLine, if_neg (by omega), if_pos hk,
        updAt_eq_modify, hline]
      rfl
    · show answered (writeLines k value s) = _
      rw [writeLines_eq hl hn hk (by rwa [if_neg (by omega)]), Lines.setLine, if_neg (by omega),
        if_neg (by omega), updAt_eq_modify, hline]
      rfl
    · have hmode : doorModeOf n = some m := by rw [hm]; cases m <;> rfl
      show answered (writeDoors k value s) = _
      rw [writeDoors_eq hl hn (by omega) hmode, if_pos hk]
      rfl
    · have hmode : doorModeOf n = some m := by rw [hm]; cases m <;> rfl
      show answered (writeDoors k value s) = _
      rw [writeDoors_eq hl hn (by omega) hmode, if_neg (by omega)]
      rfl
    · intro old other
      have hx : exec (.seatmapWrite i value) s = answered _ := congrArg answered (writeSeatmap_eq hl hn hk h255)
      have hany (hne : n ≠ old) := any_other_number hne
      refine ⟨fun hs => ?_, fun hne h0 ho => ?_, fun hne hfree => ?_⟩
      · rw [hx, if_pos hs.symm]
        rfl
      · rw [hx, if_neg (Ne.symm hne), if_pos ⟨h0, (hany hne).2 ho⟩]
        rfl
      · rw [hx, if_neg (Ne.symm hne), if_neg fun h => hfree.elim h.1 fun hno => hno ((hany hne).1 h.2),
          updAt_eq_modify]
        rfl

end Sys2Proof

end


section
/-! Management items: what a read and a write answer, what the lock refuses, and the reply to a frame (sections
11.1 and 11.2). -/

namespace Sys2Proof.Machine

-- Proofs are elaborated in turn: side by side they take more memory.
set_option Elab.async false

open Sys2Proof

theorem exec_readItem (i : ReadItem) (s : State) : exec (.mgmtReadItem (.item i)) s =
    .next { s with mgmt := { s.mgmt with answer := some (applyRead i s) } } := rfl

theorem writeNumber_eq {value : List Byte} {n : Nat} (hn : itemNumber value = some n) (lo hi : Nat)
    (set : Nat → State → State) (s : State) : answered (writeNumber lo hi value set s) =
      .next (State.recorded (if clampTo lo hi n = n then .ok else .clamped) (set (clampTo lo hi n) s)) := by
  unfold writeNumber
  rw [hn]
  rfl

/-! ## Reading -/

theorem applyRead_badTable {i : ReadItem} (h : 11 < i.table.toNat) (s : State) :
    applyRead i s = { result := .badTable, values := [] } := if_pos h

/-- How many indices a table has that can be read, 0 for one that cannot. -/
theorem tableSize_getD : (t : Nat) → (match t with
    | 0 => 16 | 1 => 24 | 2 => 64 | 3 => 96 | 4 => 64 | 5 => 64 | 6 => 32 | 7 => 2 | 8 => 48 | 9 => 3
    | 10 => 105 | _ => 0) = (tableSize t).getD 0
  | 0 | 1 | 2 | 3 | 4 | 5 | 6 | 7 | 8 | 9 | 10 | _ + 11 => rfl

theorem tableSize_le {t n : Nat} (h : tableSize t = some n) : t ≤ 11 := by
  refine Nat.not_lt.1 fun h11 => ?_
  obtain ⟨k, rfl⟩ := Nat.exists_eq_add_of_lt h11
  rw [show 11 + k + 1 = k + 12 by omega] at h
  exact absurd h nofun

section
variable {i : ReadItem} (ht : i.table.toNat ≤ 11) (s : State)
include ht

theorem applyRead_badIndex (h : ∀ n, tableSize i.table.toNat = some n →
      ¬ (1 ≤ i.count.toNat ∧ i.count.toNat ≤ 32 ∧ i.first.toNat + i.count.toNat ≤ n)) :
    applyRead i s = { result := .badIndex, values := [] } := by
  rw [applyRead, if_neg (Nat.not_lt.2 ht)]
  split
  · rfl
  · next n hn => exact if_pos (by have := h n hn; omega)

theorem applyRead_ok {n : Nat} (hn : tableSize i.table.toNat = some n) (h1 : 1 ≤ i.count.toNat)
    (h2 : i.count.toNat ≤ 32) (h3 : i.first.toNat + i.count.toNat ≤ n) : applyRead i s =
      { result := .ok
        values := (List.range i.count.toNat).map fun k => readValue i.table.toNat (i.first.toNat + k) s } := by
  rw [applyRead, if_neg (Nat.not_lt.2 ht), hn]
  exact if_neg (by omega)

end

/-! ## The lock (R192) -/

section
variable {s : State} (h : s.mgmt.locked = true) (value : List Byte)
include h

theorem writePortSettings_refused {k : Nat} (hk : k < 4) : writePortSettings k value s = (s, .locked) :=
  match k, hk with
  | 0, _ => if_pos h
  | 1, _ => if_pos h
  | 2, _ => if_pos h
  | 3, _ => if_pos h

theorem writeClassify_refused {k : Nat} (hk : k < 24) : writeClassify k value s = (s, .locked) :=
  (if_neg (Nat.not_le.2 hk)).trans (if_pos h)

theorem writeSeatmap_refused {k : Nat} (hk : k < 96) : writeSeatmap k value s = (s, .locked) :=
  (if_neg (Nat.not_le.2 hk)).trans (if_pos h)

theorem writeLines_refused {k : Nat} (hk : k < 32) : writeLines k value s = (s, .locked) :=
  (if_neg (Nat.not_le.2 hk)).trans (if_pos h)

theorem writeDoors_refused {k : Nat} (hk : k < 2) : writeDoors k value s = (s, .locked) :=
  (if_neg (Nat.not_le.2 hk)).trans (if_pos h)

end

/-! ## Frames -/

theorem mgmtAccepted_iff {facing : Option PortId} {c : Copy} : mgmtAccepted facing c = true ↔
    ∀ p, facing = some p → c.port = match c.frame.origin with | .end1 => p | .end2 => opposite p := by
  have hto (p : PortId) : portToward p c.frame.origin =
      match c.frame.origin with | .end1 => p | .end2 => opposite p := by
    cases c.frame.origin <;> rfl
  cases facing with
  | none => exact iff_of_true rfl nofun
  | some q =>
    refine decide_eq_true_iff.trans ?_
    rw [hto]
    exact ⟨fun h p hp => Option.some.inj hp ▸ h, fun h => h q rfl⟩

section
variable {s : State} {c : Copy} {rest : List Copy} (hw : s.mgmt.waiting = none) (hq : s.classifier.mgmt = c :: rest)
include hw hq

theorem mgmtHead_eq {cls : BitVec 6} (hc : c.frame.cls = cls) :
    mgmtHead cls.toNat s = some (c, { s with classifier := { s.classifier with mgmt := rest } }) := by
  simp only [mgmtHead, hw, hq, hc, if_true]

theorem exec_readFrame (hc : c.frame.cls = 14) : exec (.mgmtReadItem .frame) s =
    .next (if mgmtAccepted s.consist.facing c then match readItems c.frame.payload with
      | none => { s with classifier := { s.classifier with mgmt := rest } }
      | some items => reply c
          (items.map fun i => applyRead i { s with classifier := { s.classifier with mgmt := rest } })
          { s with classifier := { s.classifier with mgmt := rest } }
    else { s with classifier := { s.classifier with mgmt := rest } }) := by
  have hh : mgmtHead 14 s = _ := mgmtHead_eq hw hq hc
  simp only [exec, execMgmtReadItem, hh]
  split
  · cases readItems c.frame.payload <;> rfl
  · rfl

theorem exec_writeFrame (hc : c.frame.cls = 13) : exec (.mgmtWriteItem .frame) s =
    .next (if mgmtAccepted s.consist.facing c then match writeItems c.frame.payload with
      | none => { s with classifier := { s.classifier with mgmt := rest } }
      | some items => reply c (applyWrites items { s with classifier := { s.classifier with mgmt := rest } }).2
          (applyWrites items { s with classifier := { s.classifier with mgmt := rest } }).1
    else { s with classifier := { s.classifier with mgmt := rest } }) := by
  have hh : mgmtHead 13 s = _ := mgmtHead_eq hw hq hc
  simp only [exec, execMgmtWriteItem, hh]
  split
  · cases writeItems c.frame.payload <;> rfl
  · rfl

end

theorem applyWrites_fst : (items : List WriteItem) → (s : State) →
    (applyWrites items s).1 = items.foldl (fun t i => (applyWrite i t).1) s
  | [], _ => rfl
  | i :: items, s => applyWrites_fst items (applyWrite i s).1

/-- A reply is settled at the LTX of the port its request came by. -/
theorem reply_settles {i : Instr} {s t : State} {c : Copy} {answers : List Answer}
    (hx : exec i s = .next (reply c answers t)) :
    ((t.port c.port).isUp = false → exec i s = .next { t with mgmt := { t.mgmt with waiting := none } }) ∧
    ((t.port c.port).isUp = true → (t.port c.port).ltx.length < 4 → exec i s = .next
      ({ t with mgmt := { t.mgmt with waiting := none } }.setPort c.port (Port.arbitrate { t.port c.port with
        ltx := (t.port c.port).ltx ++ [replyFrame c.frame (replyPayload t answers)] }))) ∧
    ((t.port c.port).isUp = true → 4 ≤ (t.port c.port).ltx.length → exec i s = .next { t with
      mgmt := { t.mgmt with
        waiting := some { frame := replyFrame c.frame (replyPayload t answers), port := c.port } } }) :=
  ⟨fun h => hx.trans (congrArg Host.Outcome.next (offerReply_down _ h)),
    fun h hl => hx.trans (congrArg Host.Outcome.next (offerReply_room _ h hl)),
    fun h hl => hx.trans (congrArg Host.Outcome.next (offerReply_full _ h hl))⟩

end Sys2Proof.Machine

namespace Sys2Proof

open Sys2Proof.Machine

/-- Settles O56: reads by the table's size, writes by their range, refusals by the lock, and a frame by its reply. -/
theorem itemsAreAppliedAndAnswered : Obligations.ItemsAreAppliedAndAnswered := by
  intro s
  refine ⟨fun i => ?_, ⟨rfl, rfl, fun k => rfl⟩, fun value n hn => ?_, fun i value hi => ?_, rfl, fun hl i p value => ?_,
    fun c rest hw hq => ?_⟩
  · intro answer size fits
    have hx {a : Answer} (ha : applyRead i s = a) : answer a := by rw [← ha]; exact exec_readItem i s
    have hsize : size = (tableSize i.table.toNat).getD 0 := tableSize_getD _
    refine ⟨fun h => hx (applyRead_badTable h s), fun h hf => hx (applyRead_badIndex h s fun n hn => ?_), fun hf => ?_⟩
    · rw [hn] at hsize
      exact fun h => hf ⟨h.1, h.2.1, h.2.2.trans (Nat.le_of_eq hsize.symm)⟩
    · cases hn : tableSize i.table.toNat with
      | none =>
        rw [hn] at hsize
        exact absurd (hf.2.2.trans (Nat.le_of_eq hsize)) (by have := hf.1; simp; omega)
      | some n =>
        rw [hn] at hsize
        refine ⟨_, hx (applyRead_ok (tableSize_le hn) s hn hf.1 hf.2.1 (hf.2.2.trans (Nat.le_of_eq hsize))), by rw [List.length_map, List.length_range],
          fun k hk => ?_⟩
        rw [List.getElem?_map, List.getElem?_range hk]
        rfl
  · intro wrote
    have hw := writeNumber_eq hn
    exact ⟨hw _ _ _ s, hw _ _ _ s, hw _ _ _ s, hw _ _ _ s, hw _ _ _ s, hw _ _ _ s, hw _ _ _ s, hw _ _ _ s, fun hl =>
      have hno : ¬ s.mgmt.locked = true := by rw [hl]; decide
      ⟨(congrArg answered (if_neg hno)).trans (hw _ _ _ s), (congrArg answered (if_neg hno)).trans (hw _ _ _ s)⟩⟩
  · exact congrArg (fun r => answered (s, r)) (if_neg (Nat.not_lt.2 hi))
  · intro refused
    have hr {c : Instr} {a : State × ItemResult} (hc : exec c s = answered a) (ha : a = (s, .locked)) : refused c :=
      hc.trans (congrArg answered ha)
    refine ⟨fun h => hr rfl (writePortSettings_refused hl value h), fun h => hr rfl (writeClassify_refused hl value h),
      fun h => hr rfl (writeSeatmap_refused hl value h), hr rfl (if_pos hl), fun f => hr rfl (if_pos hl),
      fun f => hr rfl (if_pos hl), fun h => hr rfl (writeLines_refused hl value h),
      fun h => hr rfl (writeDoors_refused hl value h), fun h => ?_⟩
    rcases h with rfl | rfl
    · exact hr rfl (if_pos hl)
    · exact hr rfl (if_pos hl)
  · intro taken fromItsEnd settles
    refine ⟨fun hc => ?_, fun hc => ?_⟩
    · have hx := exec_readFrame hw hq hc
      refine ⟨fun h => ?_, fun items hfrom hitems => ?_⟩
      · rw [hx]
        split
        · next ha => rw [h.resolve_left fun hno => hno (mgmtAccepted_iff.1 ha)]
        · rfl
      · rw [if_pos (mgmtAccepted_iff.2 hfrom), hitems] at hx
        exact reply_settles hx
    · have hx := exec_writeFrame hw hq hc
      refine ⟨fun h => ?_, fun items hfrom hitems => ?_⟩
      · rw [hx]
        split
        · next ha => rw [h.resolve_left fun hno => hno (mgmtAccepted_iff.1 ha)]
        · rfl
      · rw [if_pos (mgmtAccepted_iff.2 hfrom), hitems] at hx
        have hs := reply_settles hx
        rw [applyWrites_fst] at hs
        exact hs

end Sys2Proof

end


section
/-! Writes of a panel's enable, role, geometry and timing (section 10.1). -/

namespace Sys2Proof.Machine

-- Proofs are elaborated in turn: side by side they take more memory.
set_option Elab.async false

open Sys2Proof

/-! ## The effects of a change in whether a panel is enabled -/

theorem Panel.settled_same {x : Panel} {was : Bool} (h : x.enabled = was) : x.settled was = x := if_pos h

theorem Panel.settled_started {x : Panel} (h : x.enabled = true) :
    x.settled false = { x with refresh := some {} } :=
  (if_neg (by rw [h]; decide)).trans (if_neg (by decide))

theorem Panel.settled_stopped {x : Panel} (h : x.enabled = false) (hf : x.flipPending = false) :
    x.settled true = { x.adoptTiming with refresh := none } :=
  (if_neg (by rw [h]; decide)).trans ((if_pos rfl).trans (if_neg (ne_true_of_eq_false hf)))

theorem Panel.settled_flipped {x : Panel} (h : x.enabled = false) (hf : x.flipPending = true) :
    x.settled true = (Panel.exchange { x.adoptTiming with refresh := none }).flipComposer :=
  (if_neg (by rw [h]; decide)).trans ((if_pos rfl).trans (if_pos hf))

theorem Panel.flipComposer_pages (x : Panel) : x.flipComposer.shown = x.shown ∧ x.flipComposer.back = x.back ∧
    x.flipComposer.flipPending = x.flipPending ∧ x.flipComposer.refresh = x.refresh := by
  rw [Panel.flipComposer_eq]
  exact ⟨rfl, rfl, rfl, rfl⟩

/-- A panel whose composer state no completed flip moves keeps it. -/
theorem Panel.settled_composer {x : Panel} (was : Bool) (h : x.composer ≠ some .flipWait) :
    (x.settled was).composer = x.composer ∧ (x.settled was).redo = x.redo := by
  unfold Panel.settled
  split
  · exact ⟨rfl, rfl⟩
  · split
    · dsimp only
      split
      · rw [Panel.flipComposer_eq]
        exact ⟨if_neg h, if_neg h⟩
      · exact ⟨rfl, rfl⟩
    · exact ⟨rfl, rfl⟩

theorem settleEnabled_panel (was wasNotice : Bool) (p : PanelId) (s : State) :
    (settleEnabled was wasNotice p s).panel p = (s.panel p).settled was ∧
      (∀ q, q ≠ p → (settleEnabled was wasNotice p s).panel q = s.panel q) ∧
      (settleEnabled was wasNotice p s).panels.composing = s.panels.composing := by
  obtain ⟨b, hb⟩ := settleEnabled_spec was wasNotice p s
  rw [hb]
  exact ⟨State.panel_setPanel_same s p _, fun q hq => State.panel_setPanel_ne s hq _, by cases p <;> rfl⟩

/-! ## Enable (R171, R177) -/

theorem exec_panelEnableWrite {p : PanelId} {value : List Byte} {b : Bool} {s : State}
    (hb : itemNumber value = some (bit b)) : exec (.panelEnableWrite p value) s =
      answered (if b = (s.panel p).config.enable then (s, .ok)
        else (runEngine (if b then
          markPanel p (settleEnabled (s.panel p).enabled (s.panel p).noticeEnabled p
            (s.setPanel p { s.panel p with config := { (s.panel p).config with enable := b } }))
        else settleEnabled (s.panel p).enabled (s.panel p).noticeEnabled p
            (s.setPanel p { s.panel p with config := { (s.panel p).config with enable := b } })), .ok)) := by
  show answered (writePanelEnable p value s) = _
  unfold writePanelEnable
  rw [flagValue_bit hb]

theorem Panel.enabled_of_role {x : Panel} (h : x.config.role ≠ .off) : x.enabled = x.config.enable := by
  rw [Panel.enabled, decide_eq_true h, Bool.and_true]

theorem Panel.enabled_off {x : Panel} (h : x.config.role = .off) : x.enabled = false := by
  rw [Panel.enabled, h]
  exact Bool.and_false _

theorem Panel.enabled_not {x : Panel} (h : x.config.enable = false) : x.enabled = false := by
  rw [Panel.enabled, h]
  exact Bool.false_and _

/-! ## Role (R171, R186) -/

theorem roleOf_code (r : Role) :
    roleOf (match r with | .off => 0 | .map => 1 | .notice => 2 | .free => 3) = some r := by cases r <;> rfl

/-- What a changed role leaves before its panel settles. -/
def State.withRole (p : PanelId) (r : Role) (s : State) : State :=
  let t := s.setPanel p
    { s.panel p with config := { (s.panel p).config with role := r }, composer := r.composer, redo := false }
  { t with engine := t.engine.markRoleChange p
           panels := { t.panels with composing := dropComposition p t.panels.composing } }

theorem withRole_panel (p : PanelId) (r : Role) (s : State) :
    (s.withRole p r).panel p = { s.panel p with
      config := { (s.panel p).config with role := r }, composer := r.composer, redo := false } ∧
    (∀ q, q ≠ p → (s.withRole p r).panel q = s.panel q) ∧
    (s.withRole p r).panels.composing = dropComposition p s.panels.composing := by
  refine ⟨?_, fun q hq => ?_, ?_⟩
  · exact (show _ = State.panel _ p by cases p <;> rfl).trans (State.panel_setPanel_same s p _)
  · exact (show _ = State.panel _ q by cases q <;> rfl).trans (State.panel_setPanel_ne s hq _)
  · cases p <;> rfl

theorem withRole_unchanged (p : PanelId) (r : Role) (s : State) :
    UnchangedBut [.engine, .panels, .notices] s (s.withRole p r) :=
  engine_panels_keeps (setPanel_keeps (.refl [.engine, .panels, .notices] s))

theorem exec_panelRoleWrite {p : PanelId} {value : List Byte} {r : Role} {s : State} (hl : s.mgmt.locked = false)
    (hr : itemNumber value = some (match r with | .off => 0 | .map => 1 | .notice => 2 | .free => 3)) :
    exec (.panelRoleWrite p value) s = answered (if r = (s.panel p).config.role then (s, .ok)
      else (runEngine (settleEnabled (s.panel p).enabled (s.panel p).noticeEnabled p (s.withRole p r)), .ok)) := by
  show answered (writePanelRole p value s) = _
  unfold writePanelRole
  rw [if_neg (by rw [hl]; decide), hr, Option.bind_some, roleOf_code]
  rfl

theorem dropComposition_eq (p : PanelId) (c : Option Composition) :
    dropComposition p c = if c.map (·.panel) = some p then none else c := by
  cases c with
  | none => rfl
  | some k =>
    by_cases h : k.panel = p
    · exact (if_pos h).trans (if_pos (congrArg some h)).symm
    · exact (if_neg h).trans (if_neg fun hh => h (Option.some.inj hh)).symm

/-! ## Geometry (R171, R173) -/

theorem regeometry_painted {x y : Panel} (h : x.Painted y) (c : PanelConfig) : y.regeometry c = x.regeometry c := by
  obtain ⟨m, rfl, -⟩ := h
  rfl

theorem setGeometry_eq {c : PanelConfig} {f : GeometryField} {v : Nat} :
    v = c.geometry f ↔ c.setGeometry f v = c := by
  cases f
  · exact ⟨fun h => by rw [h]; rfl, fun h => congrArg PanelConfig.width h⟩
  · exact ⟨fun h => by rw [h]; rfl, fun h => congrArg PanelConfig.height h⟩

theorem exec_panelGeometryWrite {p : PanelId} {f : GeometryField} {value : List Byte} {n : Nat} {s : State}
    (hl : s.mgmt.locked = false) (hn : itemNumber value = some n) : exec (.panelGeometryWrite p f value) s =
      answered (if geometryStored f n = (s.panel p).config.geometry f then (s, storedResult n (geometryStored f n))
        else ((meetRunning s).setPanel p (((meetRunning s).panel p).regeometry
          (((meetRunning s).panel p).config.setGeometry f (geometryStored f n))),
            storedResult n (geometryStored f n))) := by
  show answered (writePanelGeometry p f value s) = _
  unfold writePanelGeometry
  rw [if_neg (by rw [hl]; decide), hn]

end Sys2Proof.Machine

namespace Sys2Proof

open Sys2Proof.Machine

/-- Settles O53: each write by its one effect, and a changed enable by how the panel then settles. -/
theorem panelRoleEnableGeometryTiming : Obligations.PanelRoleEnableGeometryTiming := by
  intro p value s hl x
  refine ⟨fun b hb => ⟨fun hs => ?_, fun hne hrole => ?_⟩, fun r hr => ⟨fun hs => ?_, fun hne => ?_⟩,
    fun n hn => ⟨fun f => ?_, fun f => ?_⟩⟩
  · rw [exec_panelEnableWrite hb, if_pos hs.symm]
    rfl
  · have hx := exec_panelEnableWrite (p := p) (s := s) hb
    rw [if_neg fun h => (Bool.eq_not_self b).1 (h.trans hne)] at hx
    obtain ⟨hthis, hother, -⟩ := settleEnabled_panel x.enabled x.noticeEnabled p
      (s.setPanel p { x with config := { x.config with enable := b } })
    rw [State.panel_setPanel_same] at hthis
    have hwas : x.enabled = !b := (Panel.enabled_of_role hrole).trans hne
    have hrest (q : PanelId) (hq : q ≠ p) := (hother q hq).trans (State.panel_setPanel_ne s hq _)
    have hkeep := settleEnabled_keeps (a := x.enabled) (b := x.noticeEnabled) (p := p)
      (setPanel_keeps (p := p) (x := { x with config := { x.config with enable := b } })
        (.refl [.panels, .notices] s))
    cases b with
    | true =>
      refine ⟨_, hx, markPanel_keeps hkeep, fun q hq => (State.panel_setPanel_ne _ hq _).trans (hrest q hq),
        fun _ => ?_, nofun, nofun⟩
      refine (State.panel_setPanel_same _ p _).trans (congrArg Panel.markDirty ?_)
      rw [hthis, hwas]
      exact Panel.settled_started (Panel.enabled_of_role hrole)
    | false =>
      have hoff : Panel.enabled { x with config := { x.config with enable := false } } = false :=
        Panel.enabled_not rfl
      replace hwas : x.enabled = true := hwas
      replace hthis := hthis.trans (congrArg (Panel.settled · _) hwas)
      refine ⟨_, hx, hkeep, hrest, nofun, fun _ hf => hthis.trans (Panel.settled_stopped hoff hf), fun _ hf => ?_⟩
      obtain ⟨h1, h2, h3, h4⟩ := Panel.flipComposer_pages (Panel.exchange
        { Panel.adoptTiming { x with config := { x.config with enable := false } } with refresh := none })
      have hp := hthis.trans (Panel.settled_flipped hoff hf)
      exact ⟨(congrArg Panel.shown hp).trans h1, (congrArg Panel.back hp).trans h2,
        (congrArg Panel.flipPending hp).trans h3, (congrArg Panel.refresh hp).trans h4⟩
  · rw [exec_panelRoleWrite hl hr, if_pos hs.symm]
    rfl
  · have hx := exec_panelRoleWrite (p := p) hl hr
    rw [if_neg (Ne.symm hne)] at hx
    obtain ⟨hthis, hother, hcomp⟩ := settleEnabled_panel x.enabled x.noticeEnabled p (s.withRole p r)
    obtain ⟨hp, hq, hc⟩ := withRole_panel p r s
    let y : Panel := { x with config := { x.config with role := r }, composer := r.composer, redo := false }
    replace hthis : _ = y.settled x.enabled := hthis.trans (congrArg (·.settled x.enabled) hp)
    have hrole : y.config.role = r := rfl
    generalize hu : settleEnabled _ _ _ _ = u at hx hthis hother hcomp
    have hkeep : UnchangedBut [.engine, .panels, .notices] s u := by
      rw [← hu]
      exact settleEnabled_keeps (withRole_unchanged p r s)
    have hengine : u.engine = (s.withRole p r).engine := by
      rw [← hu]
      exact (settleEnabled_keeps (.refl [.panels, .notices] _)).engine (by decide)
    obtain ⟨hconfig, -, -, -⟩ := Panel.settled_rest x.enabled y
    obtain ⟨hcomposer, hredo⟩ := Panel.settled_composer (x := y) x.enabled (by cases r <;> exact nofun)
    refine ⟨u, hx, hkeep, fun q h => (hother q h).trans (hq q h), (congrArg Panel.config hthis).trans hconfig,
      (congrArg Panel.redo hthis).trans hredo, (congrArg Panel.composer hthis).trans (hcomposer.trans ?_),
      hengine, (hcomp.trans hc).trans (dropComposition_eq p _), fun hon h => ?_, fun hoff hen => ?_, fun hoff hen => ?_⟩
    · cases r <;> rfl
    · have hsame : y.enabled = x.enabled := by
        rw [Panel.enabled_of_role hon]
        rcases h with h | h
        · exact Panel.enabled_of_role (hrole.trans_ne h)
        · exact (Panel.enabled_not (x := y) h).trans h.symm
      rw [hthis, Panel.settled_same hsame]
      exact ⟨rfl, rfl, rfl⟩
    · rw [Panel.enabled_off hoff] at hthis
      exact congrArg Panel.refresh (hthis.trans (Panel.settled_started
        ((Panel.enabled_of_role (hrole.trans_ne fun h => hne (hoff.trans h.symm))).trans hen)))
    · have hwas : x.enabled = true := (Panel.enabled_of_role fun h => hne (h.trans hoff.symm)).trans hen
      have hy : y.enabled = false := Panel.enabled_off (hrole.trans hoff)
      rw [hwas] at hthis
      rw [hthis]
      cases hf : x.flipPending with
      | false =>
        rw [Panel.settled_stopped hy hf]
        exact ⟨rfl, hf⟩
      | true =>
        rw [Panel.settled_flipped hy hf]
        obtain ⟨-, -, h3, h4⟩ := Panel.flipComposer_pages (Panel.exchange { y.adoptTiming with refresh := none })
        exact ⟨h4, h3⟩
  · have hx := exec_panelGeometryWrite (p := p) (f := f) hl hn
    have hconfig : x.config.setGeometry f (geometryStored f n) = match f with
        | .width => { x.config with width := geometryStored .width n }
        | .height => { x.config with height := geometryStored .height n } := by cases f <;> rfl
    have hv : geometryStored f n = match f with
        | .width => (if n < 16 then 16 else if 512 < n then 512 else n) / 8 * 8
        | .height => if n < 8 then 8 else if 128 < n then 128 else n := by cases f <;> rfl
    intro v result config
    have hset : x.config.setGeometry f (geometryStored f n) = config := by cases f <;> rfl
    have hres : storedResult n (geometryStored f n) = result := by cases f <;> rfl
    rw [hres] at hx
    refine ⟨fun hs => ?_, fun hne => ?_⟩
    · rw [hx, if_pos (setGeometry_eq.2 (hset.trans hs))]
      rfl
    · rw [if_neg fun h => hne (hset.symm.trans (setGeometry_eq.1 h))] at hx
      obtain ⟨hpaint, -⟩ := meetRunning_panel s p
      have hc : ((meetRunning s).panel p).config = x.config := by
        obtain ⟨m, hm, -⟩ := hpaint
        rw [hm]
      refine ⟨_, hx, setPanel_keeps (meetRunning_keeps (.refl [.engine, .panels, .freeCount] s)), ?_, fun hidle => ?_⟩
      · refine (State.panel_setPanel_same _ p _).trans ?_
        rw [regeometry_painted hpaint, hc, hset]
        rfl
      · rw [meetRunning_idle hidle]
        exact ⟨rfl, fun q hq => State.panel_setPanel_ne s hq _⟩
  · intro v result y
    show answered (writePanelTiming p f value s) = _
    unfold writePanelTiming
    rw [if_neg (by rw [hl]; decide), hn]
    cases f <;> rfl

end Sys2Proof

end


section
/-! The two resets, the settings load and the drain (sections 1.1, 11.3 and 12.7). -/

namespace Sys2Proof.Machine

-- Proofs are elaborated in turn: side by side they take more memory.
set_option Elab.async false

open Sys2Proof

/-! ## The ports at the end of the settings load (R2) -/

/-- A port that has adopted its held settings at the end of the load. -/
def Port.started (q : Port) : Port :=
  if q.heldSettings.presence = .present then q.toDown else { q with working := q.heldSettings }

theorem startPort_spec (p : PortId) (s : State) : (startPort p s).port p = (s.port p).started ∧
    (startPort p s).port (opposite p) = s.port (opposite p) ∧
    (startPort p s).report .settings = s.report .settings ∧
    (startPort p s).link.pauseQuanta = s.link.pauseQuanta := by
  unfold startPort Port.started
  split
  · next h =>
    rw [enterDown_present h, raise_port, raise_port, raise_link, State.port_setPort_same,
      State.port_setPort_opposite, State.setPort_quanta,
      report_raise_other (show ReportClass.settings ≠ portClass p by cases p <;> decide)]
    exact ⟨rfl, rfl, rfl, rfl⟩
  · exact ⟨State.port_setPort_same s p _, State.port_setPort_opposite s p _, rfl, State.setPort_quanta s p _⟩

theorem startPorts_spec (u : State) : (∀ p, (startPort .B (startPort .A u)).port p = (u.port p).started) ∧
    (startPort .B (startPort .A u)).report .settings = u.report .settings ∧
    (startPort .B (startPort .A u)).link.pauseQuanta = u.link.pauseQuanta := by
  obtain ⟨haA, haB, har, haq⟩ := startPort_spec .A u
  obtain ⟨hbB, hbA, hbr, hbq⟩ := startPort_spec .B (startPort .A u)
  refine ⟨fun p => ?_, hbr.trans har, hbq.trans haq⟩
  cases p with
  | A => exact hbA.trans haA
  | B => exact hbB.trans (congrArg Port.started haB)

theorem Port.started_held (q : Port) : q.started.heldSettings = q.heldSettings ∧
    q.started.working = q.heldSettings ∧
    (q.heldSettings.presence = .present →
      q.started.state = .down ∧ q.started.seekTimer = true ∧ q.started.windowCount = 0) ∧
    (q.heldSettings.presence = .absent → q.started.state = q.state) := by
  unfold Port.started
  split
  · next h =>
    rw [Port.toDown_eq]
    exact ⟨rfl, rfl, fun _ => ⟨rfl, rfl, rfl⟩, fun ha => Presence.noConfusion (h.symm.trans ha)⟩
  · next h => exact ⟨rfl, rfl, fun hp => absurd hp h, fun _ => rfl⟩

theorem recordOk_iff (bs : List Byte) : recordOk bs = true ↔
    bs.length = 11 ∧ (∃ b ∈ bs, b ≠ 0xFF) ∧ (crc16 (bs.take 9)).toNat = natAt bs 9 2 := by
  unfold recordOk noAnswer
  rw [Bool.and_eq_true, Bool.and_eq_true, decide_eq_true_iff, decide_eq_true_iff, and_assoc, Bool.not_eq_true',
    List.all_eq_false]
  simp only [decide_eq_true_iff]

/-- What every end of the settings load leaves, of an accepted record or by the defaults. -/
theorem settingsLoad_leaves {s u : State} {id : UnitId} {label quanta : Nat} {x : PortId → PortSettings}
    (hA : s.link.portA.state = .off) (hB : s.link.portB.state = .off)
    (hu : UnchangedBut [.reports] (loadValues id label quanta (x .A) (x .B) s) u) :
    let t := startPort .B (startPort .A u)
    UnchangedBut [.link, .consist, .mgmt, .reports] s t ∧
    t.consist = { s.consist with unitId := id, label := label } ∧
    t.mgmt = { s.mgmt with
      storedId := id, storedLabel := label, loading := false
      bus := if s.mgmt.save.isSome then s.mgmt.bus else none } ∧
    t.link.pauseQuanta = quanta ∧ ∀ p, (t.port p).heldSettings = x p ∧ (t.port p).working = x p ∧
      ((x p).presence = .present → (t.port p).state = .down ∧ (t.port p).seekTimer = true ∧
        (t.port p).windowCount = 0) ∧
      ((x p).presence = .absent → (t.port p).state = .off) := by
  have hstart : UnchangedBut [.link, .reports] u (startPort .B (startPort .A u)) :=
    startPort_keeps (startPort_keeps (.refl [.link, .reports] u))
  have hload : UnchangedBut [.link, .consist, .mgmt, .reports] s (loadValues id label quanta (x .A) (x .B) s) := by
    constructor <;> intro h <;> first | rfl | exact absurd h (by decide)
  obtain ⟨hport, -, hquanta⟩ := startPorts_spec u
  refine ⟨(hload.trans (hu.mono (by decide))).trans (hstart.mono (by decide)),
    (hstart.consist (by decide)).trans (hu.consist (by decide)),
    (hstart.mgmt (by decide)).trans (hu.mgmt (by decide)),
    hquanta.trans (congrArg Link.pauseQuanta (hu.link (by decide))), fun p => ?_⟩
  have hheld : (u.port p).heldSettings = x p ∧ (u.port p).state = .off := by
    unfold State.port
    rw [hu.link (by decide)]
    cases p
    · exact ⟨rfl, hA⟩
    · exact ⟨rfl, hB⟩
  obtain ⟨hx, hoff⟩ := hheld
  rw [hport]
  obtain ⟨h1, h2, h3, h4⟩ := (u.port p).started_held
  rw [hx] at h1 h2 h3 h4
  exact ⟨h1, h2, h3, fun h => (h4 h).trans hoff⟩

/-! ## The drain (R195) -/

theorem softReset_started {s : State} (h : s.mgmt.draining = false) : softReset s =
    ({ s with mgmt := { s.mgmt with
      draining := true, drainTimer := true
      engineIdle := s.engine.running.isNone && s.engine.suspended.isNone && s.engine.composerQ.isEmpty &&
        s.engine.inBandQ.isEmpty
      noBatch := s.slots.slot0.isNone && s.slots.slot1.isNone } }, .ok) := by
  refine (if_neg (by rw [h]; decide)).trans (congrArg (·, ItemResult.ok) ?_)
  have hidle : s.engine.isIdle = (s.engine.running.isNone && s.engine.suspended.isNone &&
      s.engine.composerQ.isEmpty && s.engine.inBandQ.isEmpty) := rfl
  rw [← hidle]
  unfold noteEngineIdle noteNoBatch
  dsimp only [Bool.true_and]
  cases s.engine.isIdle <;> cases hb : s.slots.slot0.isNone && s.slots.slot1.isNone <;> simp [hb]

theorem drained_iff (m : Mgmt) : m.drained = true ↔
    m.draining = true ∧ ((m.engineIdle = true ∧ m.noBatch = true) ∨ m.drainTimer = false) := by
  unfold Mgmt.drained
  rw [Bool.and_eq_true, Bool.or_eq_true, Bool.and_eq_true, Bool.not_eq_true']

theorem reofferReply_none {s : State} (h : s.mgmt.waiting = none) : reofferReply s = s := by
  unfold reofferReply
  rw [h]

end Sys2Proof.Machine

namespace Sys2Proof

open Sys2Proof.Machine

/-- Settles O57: each block's reset value, the loaded ports one after the other, and every block's part of the
soft reset. -/
theorem resetsAndSettingsLoad : Obligations.ResetsAndSettingsLoad := by
  intro s
  refine ⟨rfl, fun bs hload hA hB => ?_, fun bs h => ?_, fun h => ?_, fun h => ?_, rfl, ?_⟩
  · intro good loaded bits settings
    have hexec (u : State) (hu : (if recordOk bs then loadRecord bs s else loadDefaults s) = u) :
        exec (.settingsLoadEnd bs) s = .next (startPort .B (startPort .A u)) := by
      rw [← hu]
      exact if_pos hload
    refine ⟨fun hgood => ?_, fun hbad hlen => ?_⟩
    · refine ⟨_, hexec _ (if_pos ((recordOk_iff bs).2 hgood)), ?_⟩
      exact settingsLoad_leaves (x := fun p => match p with
        | .A => settings (bits.getLsbD 7) (bits.getLsbD 6)
        | .B => settings (bits.getLsbD 5) (bits.getLsbD 4)) hA hB (.refl _ _)
    · refine ⟨_, hexec _ (if_neg (mt (recordOk_iff bs).1 hbad)), ?_, ?_⟩
      · exact settingsLoad_leaves (x := fun _ => settings false false) hA hB (raise_keeps (.refl [.reports] _))
      · rw [(startPorts_spec _).2.1]
        unfold loadDefaults
        rw [report_raise_same .settings [2] (loadValues 0 0 40 {} {} s) hlen, raiseCell_eq]
        exact ⟨rfl, rfl⟩
  · exact if_neg (by rw [h]; decide)
  · exact congrArg answered (if_pos h)
  · exact congrArg answered (softReset_started h)
  · intro isOver
    refine ⟨fun h => softResetEffects_none (mt (drained_iff _).1 h), fun h => ?_⟩
    have hmet := meetRunning_unchanged s
    have hre := reofferReply_unchanged (applySoftReset (meetRunning s))
    refine ⟨_, softResetEffects_eq ((drained_iff _).2 h), (hre.pending (by decide)).trans (hmet.pending (by decide)),
      hre.slots (by decide), hre.engine (by decide),
      (hre.classifier (by decide)).trans (congrArg Classifier.softReset (hmet.classifier (by decide))),
      (hre.consist (by decide)).trans (congrArg Consist.softReset (hmet.consist (by decide))),
      (hre.tracker (by decide)).trans (congrArg Tracker.close (hmet.tracker (by decide))),
      (hre.notices (by decide)).trans (congrArg NoticeUnit.softReset (hmet.notices (by decide))),
      congrArg Resv.seats (softReset_resv s), congrArg Resv.journey (softReset_resv s),
      congrArg Resv.inbox (softReset_resv s), softReset_scanner s, softReset_reports s, ?_⟩
    obtain ⟨hfonts, -⟩ := meetRunning_glyphStore s
    have hpanels := hre.panels (by decide)
    rw [hpanels]
    refine ⟨hfonts, rfl, fun p => ?_, fun hw => ?_⟩
    · have hp : (reofferReply (applySoftReset (meetRunning s))).panel p = ((meetRunning s).panel p).softReset :=
        (congrArg (Panels.panel · p) hpanels).trans (softReset_panel _ p)
      obtain ⟨⟨m, hm, -⟩, -⟩ := meetRunning_panel s p
      rw [hp, hm]
      refine ⟨rfl, rfl, rfl, rfl, ?_, fun hidle => ?_⟩
      · show (s.panel p).config.role.composer = _
        cases (s.panel p).config.role <;> rfl
      · rw [meetRunning_idle hidle] at hm
        exact (congrArg Panel.back hm).symm
    · rw [reofferReply_none (s := applySoftReset (meetRunning s))
        ((congrArg Mgmt.waiting (hmet.mgmt (by decide))).trans hw)]
      refine ⟨congrArg Mgmt.softReset (hmet.mgmt (by decide)), fun p => ?_⟩
      have hport : (applySoftReset (meetRunning s)).port p = ((meetRunning s).port p).softReset := by cases p <;> rfl
      rw [hport, show (meetRunning s).port p = s.port p from congrArg (Link.port · p) (hmet.link (by decide))]
      rfl

end Sys2Proof

end


section
/-! The frame at the head of a port's RXQ: its consume copy and its forward copy (sections 2.3 to 2.7). -/

namespace Sys2Proof.Machine

-- Proofs are elaborated in turn: side by side they take more memory.
set_option Elab.async false

open Sys2Proof

/-! ## The frame is taken and its copies settled -/

theorem takeRxq_eq (p : PortId) (rest : List Frame) (s : State) : takeRxq p rest s =
    s.setPort p (if rest.length = 2 ∧ (s.port p).pauseAsserted = true ∧ (s.port p).isUp = true then
      Port.arbitrate { s.port p with rxq := rest, waitingPause := some 0, pauseAsserted := false, resendTimer := none }
      else { s.port p with rxq := rest }) := by
  refine congrArg (s.setPort p) (if_congr ?_ rfl rfl)
  rw [Bool.and_eq_true, Bool.and_eq_true, decide_eq_true_iff, and_assoc]
  rfl

section Settled

variable {p : PortId} {f : Frame} {rest : List Frame} {s t : State} {v : Verdict} {forwards : Prop}

theorem exec_classifyFrame (h : (s.port p).rxq = f :: rest) (hv : classify (takeRxq p rest s) f = v)
    (ht : (if v.consume then consumeCopy { frame := f, port := p } (takeRxq p rest s) else takeRxq p rest s) = t) :
    exec (.classifyFrame p) s = .next (if v.forward then forwardCopy { frame := f, port := p } t else t) := by
  subst hv ht
  show execClassifyFrame p s = _
  unfold execClassifyFrame
  rw [h]

/-- A forward copy is offered to the FTX of the port that the consume copy has left as it was (R37, log 47). -/
theorem classified_settles (h : (s.port p).rxq = f :: rest) (hv : classify (takeRxq p rest s) f = v)
    (ht : (if v.consume then consumeCopy { frame := f, port := p } (takeRxq p rest s) else takeRxq p rest s) = t)
    (hf : v.forward = true ↔ forwards) :
    let o := opposite p
    let far := (takeRxq p rest s).port o
    (¬ forwards ∨ f.hop = 31 ∨ far.isUp = false → exec (.classifyFrame p) s = .next t) ∧
    (forwards → f.hop ≠ 31 → far.isUp = true →
      (far.ftx.length < 12 → exec (.classifyFrame p) s =
        .next (t.setPort o (Port.arbitrate { far with ftx := far.ftx ++ [{ f with hop := f.hop + 1 }] }))) ∧
      (12 ≤ far.ftx.length → exec (.classifyFrame p) s = .next (raise .overflow [1, byteOf (portCode o)] t))) := by
  intro o far
  have hfar : t.port o = far := by
    refine congrArg (Link.port · o) (?_ : t.link = (takeRxq p rest s).link)
    rw [← ht]
    split
    · exact (consumeCopy_keeps (.refl [.classifier, .engine, .panels, .notices, .mgmt, .reports, .freeCount] _)).link
        (by decide)
    · rfl
  rw [exec_classifyFrame h hv ht]
  refine ⟨fun hn => congrArg Host.Outcome.next ?_, fun hforward hhop hup => ?_⟩
  · split
    · next hb =>
      rcases hn with hn | hn | hn
      · exact absurd (hf.1 hb) hn
      · exact if_pos hn
      · refine ite_eq_left_iff.2 fun _ => if_neg ?_
        rw [show opposite p = o from rfl, hfar, hn]
        decide
    · rfl
  · rw [if_pos (hf.2 hforward)]
    unfold forwardCopy offerFtx
    rw [if_neg hhop, show opposite (Copy.port ⟨f, p⟩) = o from rfl, hfar, if_pos hup]
    exact ⟨fun hroom => congrArg Host.Outcome.next (if_pos hroom),
      fun hfull => congrArg Host.Outcome.next (if_neg (Nat.not_lt.2 hfull))⟩

end Settled

/-! ## The verdict by class group (R31 to R36) -/

theorem namesOnePart_iff (f : Frame) : namesOnePart f = true ↔ f.kind = 1 ∨ f.kind = 4 := by
  unfold namesOnePart
  rw [Bool.or_eq_true, decide_eq_true_iff, decide_eq_true_iff, or_comm, ← BitVec.toNat_inj, ← BitVec.toNat_inj]
  rfl

theorem classify_table {s : State} {f : Frame} {i : Nat}
    (h : 6 ≤ f.cls.toNat ∧ f.cls.toNat ≤ 12 ∧ i = f.cls.toNat - 6 ∨ 17 ≤ f.cls.toNat ∧ i = 7) :
    classify s f = verdictBy (s.classifier.entries.getD i {}) (destinationMatches s f) (namesOnePart f) := by
  have hi : entryIndex f.cls.toNat = i := by
    unfold entryIndex
    split <;> omega
  unfold classify
  dsimp only
  rw [if_neg (by omega), if_neg (by omega), if_neg (by omega), if_neg (by omega), hi]

theorem classify_labels {s : State} {f : Frame} (h : f.cls = 5 ∨ f.cls = 13 ∨ f.cls = 14) :
    classify s f = verdictBy {} (destinationMatches s f) (namesOnePart f) := by
  unfold classify
  rcases h with h | h | h <;> rw [h] <;> rfl

theorem classify_replies {s : State} {f : Frame} (h : f.cls = 15 ∨ f.cls = 16) :
    classify s f = { consume := false, forward := true } := by
  unfold classify
  rcases h with h | h <;> rw [h] <;> rfl

theorem classify_rolls {s : State} {f : Frame} (h : f.cls = 3 ∨ f.cls = 4) :
    classify s f = { consume := true, forward := false } := by
  unfold classify
  rcases h with h | h <;> rw [h] <;> rfl

theorem verdictBy_hit (e : ClassEntry) (one : Bool) : (verdictBy e true one).consume = e.consumeOnMatch ∧
    ((verdictBy e true one).forward = true ↔ e.forwardOnMatch = true ∧ ¬ one = true) := by
  refine ⟨rfl, ?_⟩
  show (e.forwardOnMatch && !one) = true ↔ _
  rw [Bool.and_eq_true, Bool.not_eq_true', Bool.not_eq_true]

/-! ## The consume copy by class (R29, R38 to R40) -/

section Copy

variable {c : Copy} {s : State}

theorem consumeCopy_consist (h : c.frame.cls = 3 ∨ c.frame.cls = 4 ∨ c.frame.cls = 5) : consumeCopy c s =
    offerIntake 2 2 s.classifier.consist c
      (fun q s => { s with classifier := { s.classifier with consist := q } }) s := by
  unfold consumeCopy
  rcases h with h | h | h <;> rw [h] <;> rfl

theorem consumeCopy_batch (h : c.frame.cls = 7 ∨ c.frame.cls = 8 ∨ c.frame.cls = 9 ∨ c.frame.cls = 12) :
    consumeCopy c s = offerIntake 4 3 s.classifier.batch c
      (fun q s => { s with classifier := { s.classifier with batch := q } }) s := by
  unfold consumeCopy
  rcases h with h | h | h | h <;> rw [h] <;> rfl

theorem consumeCopy_mgmt (h : c.frame.cls = 13 ∨ c.frame.cls = 14) : consumeCopy c s =
    offerIntake 2 5 s.classifier.mgmt c
      (fun q s => { s with classifier := { s.classifier with mgmt := q } }) s := by
  unfold consumeCopy
  rcases h with h | h <;> rw [h] <;> rfl

theorem consumeCopy_notice (h : c.frame.cls = 10) : consumeCopy c s =
    offerIntake 2 4 s.classifier.notice c
      (fun q s => { s with classifier := { s.classifier with notice := q } }) s := by
  unfold consumeCopy
  rw [h]
  rfl

theorem consumeCopy_position (h : c.frame.cls = 6) :
    consumeCopy c s = { s with classifier := { s.classifier with position := some c } } := by
  unfold consumeCopy
  rw [h]
  rfl

theorem consumeCopy_draw (h : c.frame.cls = 11) : consumeCopy c s = consumeDraw c.frame s := by
  unfold consumeCopy
  rw [h]
  rfl

theorem consumeDraw_refused {f : Frame} (h : s.mgmt.draining = true ∨ drawRecords f.payload = none) :
    consumeDraw f s = raise .drawEvent [255, 2, 255] s := by
  unfold consumeDraw
  split
  · rfl
  · next hd =>
    rw [h.resolve_left hd]

theorem consumeDraw_records {f : Frame} {rs : List Record} (hd : s.mgmt.draining = false)
    (hr : drawRecords f.payload = some rs) : consumeDraw f s =
    if s.engine.inBandQ.length + rs.length ≤ 16 then
      runEngine { s with engine := { s.engine with inBandQ := s.engine.inBandQ ++ rs } }
    else raiseOverflow 6 none s := by
  unfold consumeDraw
  rw [if_neg (by rw [hd]; decide), hr]

end Copy

end Sys2Proof.Machine

namespace Sys2Proof

open Sys2Proof.Machine

/-- Settles O25: the verdict of the class group, the copy of the class, and then the forward copy. -/
theorem frameAtHeadIsSettled : Obligations.FrameAtHeadIsSettled := by
  intro p f rest s h q s1 o far settles c k consumed hit one
  have hs1 : takeRxq p rest s = s1 := takeRxq_eq p rest s
  have key {v : Verdict} {t : State} {forwards : Prop} (hv : classify s1 f = v)
      (ht : (if v.consume then consumeCopy c s1 else s1) = t) (hf : v.forward = true ↔ forwards) :
      settles forwards t := by
    have hk := classified_settles (t := t) (v := v) (forwards := forwards) h (hs1.symm ▸ hv) (hs1.symm ▸ ht) hf
    rw [hs1] at hk
    exact hk
  have taken {v : Verdict} {cap n : Nat} {q : List Copy} {put : List Copy → State → State} {k' : Classifier}
      {forwards : Prop} (hv : classify s1 f = v) (hc : v.consume = true) (hf : v.forward = true ↔ forwards)
      (hcopy : consumeCopy c s1 = offerIntake cap n q c put s1)
      (hput : put (q ++ [c]) s1 = { s1 with classifier := k' }) : consumed forwards q cap (byteOf n) k' :=
    ⟨fun hroom => key hv ((if_pos hc).trans (hcopy.trans ((if_pos hroom).trans hput))) hf,
      fun hfull => key hv ((if_pos hc).trans (hcopy.trans (if_neg (Nat.not_lt.2 hfull)))) hf⟩
  have forward (e : ClassEntry) : (verdictBy e true (namesOnePart f)).forward = true ↔
      e.forwardOnMatch = true ∧ ¬ one :=
    (verdictBy_hit e _).2.trans (and_congr_right' (not_congr (namesOnePart_iff f)))
  have hits {e : ClassEntry} (hm : hit)
      (hv : classify s1 f = verdictBy e (destinationMatches s f) (namesOnePart f)) :
      classify s1 f = verdictBy e true (namesOnePart f) :=
    hv.trans (congrArg (verdictBy e · _) hm)
  have misses {e : ClassEntry} (hm : ¬ hit)
      (hv : classify s1 f = verdictBy e (destinationMatches s f) (namesOnePart f)) :
      settles (e.forwardOnNomatch = true) s1 :=
    key (hv.trans (congrArg (verdictBy e · _) (Bool.not_eq_true _ ▸ hm))) rfl .rfl
  have hlabels (hm : hit) (hc : f.cls = 5 ∨ f.cls = 13 ∨ f.cls = 14) := hits hm (classify_labels (s := s1) hc)
  have hone : (verdictBy {} true (namesOnePart f)).forward = true ↔ ¬ one := (forward {}).trans (and_iff_right rfl)
  refine ⟨fun hc => key (classify_replies hc) rfl ⟨fun _ => trivial, fun _ => rfl⟩,
    fun hc => taken (n := 2) (classify_rolls hc) rfl ⟨nofun, nofun⟩ (consumeCopy_consist (by tauto)) rfl,
    fun hc hm => ?_, fun hc hm => taken (n := 2) (hlabels hm (.inl hc)) rfl hone
      (consumeCopy_consist (.inr (.inr hc))) rfl,
    fun hc hm => taken (n := 5) (hlabels hm (.inr hc)) rfl hone (consumeCopy_mgmt hc) rfl,
    fun i hi => ⟨fun hm => misses hm (classify_table hi), fun hm he => ?_, fun hm he => ?_⟩⟩
  · have := misses hm (classify_labels (s := s1) hc)
    rwa [eq_true (rfl : ClassEntry.forwardOnNomatch {} = true)] at this
  · exact key (hits hm (classify_table hi)) (if_neg (by rw [(verdictBy_hit _ _).1]; exact ne_true_of_eq_false he))
      (forward _)
  · have hv := hits hm (classify_table (s := s1) hi)
    have drawn {t : State} (hc : f.cls = 11) (ht : consumeDraw f s1 = t) : settles _ t :=
      key hv ((if_pos he).trans ((consumeCopy_draw (c := c) hc).trans ht)) (forward _)
    refine ⟨fun hc => key hv ((if_pos he).trans (consumeCopy_position hc)) (forward _),
      fun hc => taken (n := 3) hv he (forward _) (consumeCopy_batch hc) rfl,
      fun hc => taken (n := 4) hv he (forward _) (consumeCopy_notice hc) rfl,
      fun hc => ⟨fun hr => drawn hc (consumeDraw_refused hr), fun rs hd hr => ⟨fun hroom => ?_, fun hfull => ?_⟩⟩⟩
    · exact drawn hc ((consumeDraw_records (s := s1) hd hr).trans (if_pos hroom))
    · exact drawn hc ((consumeDraw_records (s := s1) hd hr).trans (if_neg (Nat.not_le.2 hfull)))

end Sys2Proof

end


section
/-! A hand-off taken: the entries that fire and are voided, and the notices offered one after another (section 6.3). -/

namespace Sys2Proof.Machine

-- Proofs are elaborated in turn: side by side they take more memory.
set_option Elab.async false

open Sys2Proof

/-! ## Marking panels twice -/

theorem Panel.markRole_again (r : Role) (x : Panel) : (x.markRole r).markRole r = x.markRole r := by
  unfold Panel.markRole
  by_cases h : x.config.role = r
  · rw [if_pos h, Panel.markDirty_config, if_pos h]
    unfold Panel.markDirty
    rcases hc : x.composer with _ | _ | _ | _ | _ <;> simp [hc]
  · rw [if_neg h, if_neg h]

theorem markRole_again {r : Role} {s t : State} (h : t.panels = (markRole r s).panels) :
    (markRole r t).panels = (markRole r s).panels := by
  unfold markRole at h ⊢
  rw [h]
  simp only [Panel.markRole_again]

theorem markRole_panels {r : Role} {s t : State} (h : t.panels = s.panels) :
    (markRole r t).panels = (markRole r s).panels := by
  unfold markRole
  rw [h]

theorem markRole_anyNotice (r : Role) (s : State) : (markRole r s).panels.anyNotice = s.panels.anyNotice := by
  have same (x : Panel) : (x.markRole r).noticeEnabled = x.noticeEnabled := by
    unfold Panel.noticeEnabled Panel.markRole
    split
    · rw [Panel.markDirty_config]
    · rfl
  unfold Panels.anyNotice
  exact congrArg₂ _ (congrArg₂ _ (congrArg₂ _ (same _) (same _)) (same _)) (same _)

/-! ## What every part of an offer keeps -/

theorem supersede_sublist (k : NoticeKind) (s : State) :
    supersede k s = s ∨ ∃ q, q.Sublist s.notices.queue ∧ supersede k s = setQueue q s := by
  by_cases h : k.supersedes
  · exact .inr ⟨_, List.filter_sublist, supersede_of h s⟩
  · exact .inl (supersede_not h s)

/-- An offer loses entries, and then places its notice or loses it. -/
theorem offerNotice_induct {P Q : State → Prop} {n : Notice} {s : State}
    (queue : ∀ q t, q.Sublist t.notices.queue → P t → P (setQueue q t))
    (lose : ∀ why m t, P t → P (noticeDropped why m t)) (place : ∀ t, P t → Q (placeNotice n t))
    (lost : ∀ t, P t → Q t) (h : P s) : Q (offerNotice n s) := by
  have hs : P (supersede n.kind s) := by
    obtain he | ⟨q, hq, he⟩ := supersede_sublist n.kind s <;> rw [he]
    · exact h
    · exact queue q s hq h
  unfold offerNotice
  dsimp only
  split
  · exact place _ hs
  · unfold displace
    split
    · next e w _ hq =>
      split
      · next a x b hsp =>
        obtain ⟨rfl, -, -⟩ := splitNormal_some hsp
        refine place _ (lose _ _ _ (queue _ _ ?_ hs))
        rw [hq]
        exact ((List.Sublist.refl a).append (List.sublist_cons_self x b)).cons_cons e
      · exact lost _ (lose _ _ _ hs)
    · exact lost _ (lose _ _ _ hs)

theorem setQueue_panels (q : List Notice) (s : State) :
    (setQueue q s).panels = s.panels ∨ (setQueue q s).panels = (markRole .notice s).panels := by
  obtain ⟨-, h⟩ | ⟨-, h⟩ := setQueue_cases q s <;> rw [h]
  · exact .inl rfl
  · exact .inr (markRole_panels rfl)

theorem setQueue_sideGlyph (q : List Notice) (s : State) (x : Side) :
    (setQueue q s).panels.sideGlyph x = s.panels.sideGlyph x := by
  obtain h | h := setQueue_panels q s <;> rw [h]
  cases x <;> rfl

theorem offerNotice_sideGlyph (n : Notice) (s : State) (x : Side) :
    (offerNotice n s).panels.sideGlyph x = s.panels.sideGlyph x :=
  offerNotice_induct (P := fun t => t.panels.sideGlyph x = s.panels.sideGlyph x)
    (fun q t _ h => (setQueue_sideGlyph q t x).trans h) (fun _ _ _ h => h)
    (fun t h => by rw [placeNotice_eq, setQueue_sideGlyph]; exact h) (fun _ h => h) rfl

/-- What no offer changes of the Notice Unit. -/
theorem offerNotice_kept (n : Notice) (s : State) : (offerNotice n s).notices.table = s.notices.table ∧
    (offerNotice n s).notices.fromTracker = s.notices.fromTracker ∧
    (offerNotice n s).notices.fromPanels = s.notices.fromPanels :=
  have set (q : List Notice) (t : State) : (setQueue q t).notices.table = t.notices.table ∧
      (setQueue q t).notices.fromTracker = t.notices.fromTracker ∧
      (setQueue q t).notices.fromPanels = t.notices.fromPanels := by
    obtain ⟨d, h⟩ := setQueue_notices q t
    rw [h]
    exact ⟨rfl, rfl, rfl⟩
  offerNotice_induct (P := fun t => t.notices.table = s.notices.table ∧
      t.notices.fromTracker = s.notices.fromTracker ∧ t.notices.fromPanels = s.notices.fromPanels)
    (fun q t _ ⟨h1, h2, h3⟩ => ⟨(set q t).1.trans h1, (set q t).2.1.trans h2, (set q t).2.2.trans h3⟩)
    (fun _ _ _ h => h)
    (fun t ⟨h1, h2, h3⟩ => by
      rw [placeNotice_eq]
      exact ⟨(set _ _).1.trans h1, (set _ _).2.1.trans h2, (set _ _).2.2.trans h3⟩)
    (fun _ h => h) ⟨rfl, rfl, rfl⟩

/-! ## The head of the queue while notices are offered (R111, R114) -/

/-- The head, its timer and the panels are as they were. -/
def HeadKept (s t : State) : Prop :=
  t.notices.queue.head?.map (·.number) = s.notices.queue.head?.map (·.number) ∧
    t.notices.dwell = s.notices.dwell ∧ t.panels = s.panels

/-- The head has left the queue: the timer is the new head's, and the NOTICE panels are marked. -/
def HeadNew (s t : State) : Prop :=
  (∀ e ∈ s.notices.queue.head?, ∀ x ∈ t.notices.queue, x.number ≠ e.number) ∧
    t.notices.dwell = (if s.panels.anyNotice then none else t.notices.queue.head?.map (·.dwell)) ∧
    t.panels = (markRole .notice s).panels

/-- The entries have distinct numbers up to the count, which has risen by `k` at most, and the head is as it was or
a new one. -/
structure HeadLaw (s : State) (k : Nat) (t : State) : Prop where
  count : t.notices.count.toNat ≤ s.notices.count.toNat + k
  nodup : (t.notices.queue.map (·.number)).Nodup
  bound : ∀ e ∈ t.notices.queue, e.number.toNat ≤ t.notices.count.toNat
  first : ∀ e ∈ s.notices.queue.head?, e.number.toNat ≤ t.notices.count.toNat
  head : HeadKept s t ∨ HeadNew s t

section Head

variable {s t : State} {k : Nat}

theorem HeadLaw.anyNotice (h : HeadLaw s k t) : t.panels.anyNotice = s.panels.anyNotice := by
  obtain ⟨-, -, hp⟩ | ⟨-, -, hp⟩ := h.head <;> rw [hp]
  exact markRole_anyNotice .notice s

theorem HeadLaw.marked (h : HeadLaw s k t) : (markRole .notice t).panels = (markRole .notice s).panels := by
  obtain ⟨-, -, hp⟩ | ⟨-, -, hp⟩ := h.head
  · exact markRole_panels hp
  · exact markRole_again hp

/-- Of distinct entries, those left have the same head, or the head is not among them. -/
theorem head_of_sublist {q p : List Notice} (hs : p.Sublist q) (hq : (q.map (·.number)).Nodup) :
    p.head? = q.head? ∨ (∀ e ∈ q.head?, ∀ x ∈ p, x.number ≠ e.number) := by
  cases hs with
  | slnil => exact .inl rfl
  | cons a hs =>
    refine .inr fun e he x hx h => ?_
    obtain rfl : a = e := Option.some.inj he
    exact (List.nodup_cons.1 hq).1 (List.mem_map.2 ⟨x, hs.subset hx, h⟩)
  | cons_cons a hs => exact .inl rfl

theorem head_of_sublist_number {q p : List Notice} (hs : p.Sublist q) (hq : (q.map (·.number)).Nodup)
    (h : p.head?.map (·.number) = q.head?.map (·.number)) : p.head? = q.head? := by
  refine (head_of_sublist hs hq).elim id fun hgone => ?_
  cases p with
  | nil => cases q with
    | nil => rfl
    | cons e q => cases h
  | cons x p => cases q with
    | nil => cases h
    | cons e q => exact absurd (Option.some.inj h) (hgone e rfl x List.mem_cons_self)

theorem HeadLaw.sublist {q : List Notice} (h : HeadLaw s k t) (hs : q.Sublist t.notices.queue) :
    HeadLaw s k (setQueue q t) := by
  have hcount := setQueue_count q t
  refine ⟨hcount ▸ h.count, ?_, ?_, hcount ▸ h.first, ?_⟩
  · rw [setQueue_queue]
    exact h.nodup.sublist (hs.map _)
  · rw [setQueue_queue, hcount]
    exact fun e he => h.bound e (hs.subset he)
  · obtain ⟨hnum, he⟩ | ⟨hne, he⟩ := setQueue_cases q t
    · have hhead := head_of_sublist_number hs h.nodup hnum
      rw [he]
      refine h.head.imp (fun ⟨h1, h2, h3⟩ => ⟨hnum.trans h1, h2, h3⟩) fun ⟨h1, h2, h3⟩ =>
        ⟨fun e he x hx => h1 e he x (hs.subset hx), h2.trans ?_, h3⟩
      exact congrArg (fun o : Option Notice => if s.panels.anyNotice then none else o.map (·.dwell)) hhead.symm
    · have hgone := (head_of_sublist hs h.nodup).resolve_left fun hh => hne (congrArg _ hh)
      refine .inr ⟨?_, ?_, ?_⟩
      · rw [setQueue_queue]
        obtain ⟨h1, -, -⟩ | ⟨h1, -, -⟩ := h.head
        · intro e₀ he₀
          obtain ⟨e, hmem, hnum⟩ := Option.map_eq_some_iff.1 (h1.trans (congrArg _ (Option.mem_def.1 he₀)))
          exact fun x hx heq => hgone e hmem x hx (heq.trans hnum.symm)
        · exact fun e he x hx => h1 e he x (hs.subset hx)
      · rw [he, (markRole_keeps (.refl [.panels] _)).notices (by decide), h.anyNotice]
      · rw [he]
        exact (markRole_panels rfl).trans h.marked

theorem HeadLaw.place (h : HeadLaw s k t) (hk : s.notices.count.toNat + k + 1 < 2 ^ 32) (n : Notice) :
    HeadLaw s (k + 1) (placeNotice n t) := by
  have hroom := h.count
  have hsucc : (t.notices.count + 1).toNat = t.notices.count.toNat + 1 := by
    rw [BitVec.toNat_add]
    exact Nat.mod_eq_of_lt (show t.notices.count.toNat + 1 < 2 ^ 32 by omega)
  have hcount : (placeNotice n t).notices.count.toNat = t.notices.count.toNat + 1 := by
    rw [placeNotice_count, hsucc]
  have hperm := placedQueue_perm (n.numbered t.notices.count) t.notices.queue
  have hfresh (e : Notice) (he : e.number.toNat ≤ t.notices.count.toNat) :
      (n.numbered t.notices.count).number ≠ e.number := fun hn => by
    have : (t.notices.count + 1).toNat = e.number.toNat := congrArg BitVec.toNat hn
    omega
  refine ⟨by omega, ?_, fun e he => ?_, fun e he => (h.first e he).trans (by omega), ?_⟩
  · rw [placeNotice_queue, (hperm.map _).nodup_iff]
    refine List.nodup_cons.2 ⟨fun hm => ?_, h.nodup⟩
    obtain ⟨e, he, hn⟩ := List.mem_map.1 hm
    exact hfresh e (h.bound e he) hn.symm
  · rw [placeNotice_queue] at he
    obtain rfl | he := List.mem_cons.1 (hperm.subset he)
    · rw [hcount, ← hsucc]
      rfl
    · exact (h.bound e he).trans (by omega)
  · cases hq : t.notices.queue with
    | nil =>
      rw [placeNotice_first hq]
      refine .inr ⟨fun e he x hx => ?_, ?_, (markRole_panels rfl).trans h.marked⟩
      · obtain rfl := List.mem_singleton.1 hx
        exact hfresh e (h.first e he)
      · rw [← h.anyNotice]
        rfl
    | cons a w =>
      have hnew : (placeNotice n t).notices.queue.Perm (n.numbered t.notices.count :: t.notices.queue) := by
        rw [placeNotice_queue]
        exact hperm
      rw [placeNotice_behind hq] at hnew ⊢
      refine h.head.imp (fun ⟨h1, h2, h3⟩ => ⟨by rw [hq] at h1; exact h1, h2, h3⟩) fun ⟨h1, h2, h3⟩ =>
        ⟨fun e he x hx => ?_, by rw [hq] at h2; exact h2, h3⟩
      obtain rfl | hx := List.mem_cons.1 (hnew.subset hx)
      · exact hfresh e (h.first e he)
      · exact h1 e he x hx

theorem HeadLaw.mono {m : Nat} (h : HeadLaw s k t) (hkm : k ≤ m) : HeadLaw s m t :=
  { h with count := h.count.trans (Nat.add_le_add_left hkm _) }

theorem HeadLaw.offer (h : HeadLaw s k t) (hk : s.notices.count.toNat + k + 1 < 2 ^ 32) (n : Notice) :
    HeadLaw s (k + 1) (offerNotice n t) :=
  offerNotice_induct (P := HeadLaw s k) (fun _ _ hs h => h.sublist hs) (fun _ _ _ ⟨h1, h2, h3, h4, h5⟩ => ⟨h1, h2, h3, h4, h5⟩)
    (fun _ h => h.place hk n) (fun _ h => h.mono (Nat.le_succ k)) h

end Head

/-! ## Notices offered in turn, the trigger table written between -/

/-- The notice of a trigger, its text expanded (R108, R109). -/
def triggerNotice (s : State) (g : Trigger) : Notice where
  number := 0
  kind := g.kind
  target := some g.stop
  text := s.expandText g.stop [] g.text
  dwell := g.dwell
  priority := g.priority
  source := .trigger

/-- What offering some notices leaves, entries of the table set to other states before, between and after. -/
inductive Offers (s : State) : List Notice → State → Prop
  | start : Offers s [] s
  | table {ns t} (h : Offers s ns t) (tb : List TriggerEntry)
      (htb : tb.map (·.trigger) = t.notices.table.map (·.trigger)) :
      Offers s ns { t with notices := { t.notices with table := tb } }
  | offer {ns t} (h : Offers s ns t) (n : Notice) : Offers s (ns ++ [n]) (offerNotice n t)

section Offers

variable {s t : State} {ns : List Notice}

theorem Offers.parts (h : Offers s ns t) : UnchangedBut [.notices, .panels, .reports] s t := by
  induction h with
  | start => exact .refl _ s
  | table _ tb _ ih => exact notices_keeps ih
  | offer _ n ih => exact offerNotice_keeps ih

theorem Offers.queues (h : Offers s ns t) : t.notices.fromTracker = s.notices.fromTracker ∧
    t.notices.fromPanels = s.notices.fromPanels := by
  induction h with
  | start => exact ⟨rfl, rfl⟩
  | table _ tb _ ih => exact ih
  | offer _ n ih =>
    obtain ⟨-, h2, h3⟩ := offerNotice_kept n _
    exact ⟨h2.trans ih.1, h3.trans ih.2⟩

theorem Offers.triggers (h : Offers s ns t) :
    t.notices.table.map (·.trigger) = s.notices.table.map (·.trigger) := by
  induction h with
  | start => rfl
  | table _ tb htb ih => exact htb.trans ih
  | offer _ n ih => rwa [(offerNotice_kept n _).1]

theorem Offers.notice (h : Offers s ns t) (g : Trigger) : triggerNotice t g = triggerNotice s g := by
  have hglyph (x : Side) : t.panels.sideGlyph x = s.panels.sideGlyph x := by
    induction h with
    | start => rfl
    | table _ tb _ ih => exact ih
    | offer _ n ih => exact (offerNotice_sideGlyph n _ x).trans ih
  have htext (i : Nat) (bs : List Byte) : t.expandText i [] bs = s.expandText i [] bs := by
    have hside : t.exitSide i = s.exitSide i := by
      unfold State.exitSide State.forwardPort
      rw [h.parts.tracker (by decide), h.parts.consist (by decide)]
    unfold State.expandText
    rw [hside, hglyph, h.parts.tracker (by decide)]
  unfold triggerNotice
  rw [htext]

theorem Offers.run (h : Offers s ns t) : QueueRun.At s
    (ns.foldl QueueRun.offer { queue := s.notices.queue, count := s.notices.count }) t := by
  induction h with
  | start => exact .start s
  | table _ tb _ ih => exact ⟨ih.queue, ih.count, ih.reports⟩
  | offer _ n ih =>
    rw [List.foldl_concat]
    exact ih.offer n

theorem QueueRun.offer_ne_nil (r : QueueRun) (m : Notice) : (r.offer m).queue ≠ [] := by
  have place (r : QueueRun) : (r.place m).queue ≠ [] := by
    rw [QueueRun.place_eq]
    intro h
    have := (placedQueue_perm (m.numbered r.count) r.queue).length_eq
    rw [show placedQueue _ _ = [] from h] at this
    cases this
  have put (p : QueueRun) : (if p.queue.length < 8 then p.place m else p.displaceBy m).queue ≠ [] := by
    split
    · exact place p
    · next hlt =>
      unfold QueueRun.displaceBy
      dsimp only
      split
      · exact place _
      · intro h
        exact hlt (by rw [show p.queue = [] from h]; decide)
  rw [QueueRun.offer_eq]
  exact put _

/-- The head is as it was, or the queue is not empty and has a new one. -/
theorem Offers.head (h : Offers s ns t) (hnodup : (s.notices.queue.map (·.number)).Nodup)
    (hbound : ∀ e ∈ s.notices.queue, e.number.toNat ≤ s.notices.count.toNat)
    (hroom : s.notices.count.toNat + ns.length < 2 ^ 32) :
    HeadLaw s ns.length t ∧ (HeadKept s t ∨ t.notices.queue ≠ []) := by
  induction h with
  | start => exact ⟨⟨Nat.le_refl _, hnodup, hbound, fun e he => hbound e (List.mem_of_mem_head? he),
      .inl ⟨rfl, rfl, rfl⟩⟩, .inl ⟨rfl, rfl, rfl⟩⟩
  | table _ tb _ ih =>
    obtain ⟨⟨h1, h2, h3, h4, h5⟩, h6⟩ := ih hroom
    exact ⟨⟨h1, h2, h3, h4, h5⟩, h6⟩
  | offer h n ih =>
    rw [List.length_append, List.length_singleton] at hroom ⊢
    refine ⟨(ih (by omega)).1.offer (by omega) n, .inr fun hq => ?_⟩
    exact QueueRun.offer_ne_nil _ n ((h.run.offer n).queue.trans hq)

end Offers

/-! ## Entries that fire (R105, R107, R108) -/

def TriggerEntry.fire (e : TriggerEntry) : TriggerEntry := { e with state := .fired }

theorem getElem?_fired (i : Nat) : (ks : List Nat) → (tb : List TriggerEntry) →
    (ks.foldl (fun tb k => updAt k TriggerEntry.fire tb) tb)[i]? =
      if i ∈ ks then tb[i]?.map TriggerEntry.fire else tb[i]?
  | [], _ => rfl
  | k :: ks, tb => by
    rw [List.foldl_cons, getElem?_fired i ks]
    by_cases hi : i = k
    · subst hi
      rw [getElem?_updAt_same, if_pos List.mem_cons_self, Option.map_map]
      exact ite_self _
    · rw [getElem?_updAt_ne hi]
      simp only [List.mem_cons, hi, false_or]

theorem fireTrigger_some {k : Nat} {s : State} {e : TriggerEntry} (h : s.notices.table[k]? = some e) :
    fireTrigger k s = offerNotice (triggerNotice s e.trigger) { s with notices := { s.notices with
      table := updAt k TriggerEntry.fire s.notices.table } } := by
  unfold fireTrigger
  rw [h]
  rfl

theorem fireTrigger_none {k : Nat} {s : State} (h : s.notices.table[k]? = none) : fireTrigger k s = s := by
  unfold fireTrigger
  rw [h]

theorem map_trigger_fired (k : Nat) (tb : List TriggerEntry) :
    (updAt k TriggerEntry.fire tb).map (·.trigger) = tb.map (·.trigger) := by
  refine List.ext_getElem? fun i => ?_
  rw [List.getElem?_map, List.getElem?_map]
  by_cases hi : i = k
  · subst hi
    rw [getElem?_updAt_same, Option.map_map]
    rfl
  · rw [getElem?_updAt_ne hi]

theorem fireAll_offers {s : State} : (ks : List Nat) → {t : State} → {ns : List Notice} → Offers s ns t →
    Offers s (ns ++ ks.filterMap fun k => s.notices.table[k]?.map fun e => triggerNotice s e.trigger) (fireAll ks t) ∧
      (fireAll ks t).notices.table = ks.foldl (fun tb k => updAt k TriggerEntry.fire tb) t.notices.table
  | [], t, ns, h => by
    rw [List.filterMap_nil, List.append_nil]
    exact ⟨h, rfl⟩
  | k :: ks, t, ns, h => by
    have htrig : t.notices.table[k]?.map (·.trigger) = s.notices.table[k]?.map (·.trigger) := by
      rw [← List.getElem?_map, ← List.getElem?_map, h.triggers]
    have hsame : (s.notices.table[k]?.map fun e => triggerNotice s e.trigger) =
        t.notices.table[k]?.map fun e => triggerNotice s e.trigger := by
      have := congrArg (Option.map (triggerNotice s)) htrig.symm
      rwa [Option.map_map, Option.map_map] at this
    have hrest : fireAll (k :: ks) t = fireAll ks (fireTrigger k t) := rfl
    rw [List.filterMap_cons, hsame, hrest, List.foldl_cons]
    cases he : t.notices.table[k]? with
    | none =>
      rw [fireTrigger_none he, show updAt k TriggerEntry.fire t.notices.table = t.notices.table from
        List.ext_getElem? fun i => by
          by_cases hi : i = k
          · subst hi
            rw [getElem?_updAt_same, he]
            rfl
          · rw [getElem?_updAt_ne hi]]
      exact fireAll_offers ks h
    | some e =>
      have hfire := (h.table _ (map_trigger_fired k t.notices.table)).offer (triggerNotice t e.trigger)
      rw [← fireTrigger_some he] at hfire
      obtain ⟨ho, htb⟩ := fireAll_offers ks hfire
      rw [h.notice, List.append_assoc] at ho
      refine ⟨ho, htb.trans ?_⟩
      rw [fireTrigger_some he, (offerNotice_kept _ _).1]

/-- What a turn of firing makes of an entry. -/
def fireWhere (test : Trigger → Bool) (e : TriggerEntry) : TriggerEntry :=
  if e.state = .armed ∧ test e.trigger = true then e.fire else e

theorem mem_armedWhere {test : Trigger → Bool} {tb : List TriggerEntry} {k : Nat} : k ∈ armedWhere test tb ↔
    ∃ e, tb[k]? = some e ∧ e.state = .armed ∧ test e.trigger = true := by
  unfold armedWhere
  rw [List.mem_filter, List.mem_range]
  constructor
  · rintro ⟨-, h⟩
    split at h
    · next e he =>
      obtain ⟨hs, ht⟩ := Bool.and_eq_true_iff.1 h
      exact ⟨e, he, of_decide_eq_true hs, ht⟩
    · cases h
  · rintro ⟨e, he, hs, ht⟩
    refine ⟨(List.getElem?_eq_some_iff.1 he).1, ?_⟩
    rw [he]
    exact Bool.and_eq_true_iff.2 ⟨decide_eq_true hs, ht⟩

theorem armedWhere_pairwise (test : Trigger → Bool) (tb : List TriggerEntry) :
    (armedWhere test tb).Pairwise (· < ·) := List.pairwise_lt_range.filter _

theorem getElem?_firedWhere {test : Trigger → Bool} {ks : List Nat} {tb : List TriggerEntry}
    (h : ∀ k, k ∈ ks ↔ k ∈ armedWhere test tb) (i : Nat) :
    (ks.foldl (fun tb k => updAt k TriggerEntry.fire tb) tb)[i]? = tb[i]?.map (fireWhere test) := by
  rw [getElem?_fired, if_congr ((h i).trans mem_armedWhere) rfl rfl]
  cases tb[i]? with
  | none =>
    refine if_neg fun h => ?_
    obtain ⟨e, he, -⟩ := h
    cases he
  | some e =>
    show _ = some (if _ then _ else _)
    split
    · next h =>
      obtain ⟨x, hx, hf⟩ := h
      rw [Option.some.inj hx, if_pos hf]
      rfl
    · next h => rw [if_neg fun hf => h ⟨e, rfl, hf⟩]

/-! ## The order of the DISTANCE entries (R107) -/

/-- An entry's place before another's: by threshold, and equal ones in table order. -/
def Before (T : Nat → Nat) (a b : Nat) : Prop := T a < T b ∨ (T a = T b ∧ a < b)

theorem insertByThreshold_perm (T : Nat → Nat) (k : Nat) : (js : List Nat) →
    (insertByThreshold T k js).Perm (k :: js)
  | [] => .refl _
  | j :: js => by
    unfold insertByThreshold
    split
    · exact .refl _
    · exact ((insertByThreshold_perm T k js).cons j).trans (.swap k j js)

theorem insertByThreshold_before {T : Nat → Nat} {k : Nat} : (js : List Nat) → js.Pairwise (Before T) →
    (∀ j ∈ js, j < k) → (insertByThreshold T k js).Pairwise (Before T)
  | [], _, _ => List.pairwise_singleton _ k
  | j :: js, h, hk => by
    obtain ⟨hj, hjs⟩ := List.pairwise_cons.1 h
    unfold insertByThreshold
    split
    · next hlt =>
      refine List.pairwise_cons.2 ⟨fun i hi => .inl ?_, h⟩
      obtain rfl | hi := List.mem_cons.1 hi
      · exact hlt
      · have := hj i hi
        unfold Before at this
        omega
    · next hge =>
      refine List.pairwise_cons.2 ⟨fun i hi => ?_, insertByThreshold_before js hjs fun i hi => hk i (.tail j hi)⟩
      obtain rfl | hi := List.mem_cons.1 ((insertByThreshold_perm T k js).subset hi)
      · have := hk j List.mem_cons_self
        unfold Before
        omega
      · exact hj i hi

theorem foldl_insertByThreshold_perm (T : Nat → Nat) : (ks acc : List Nat) →
    (ks.foldl (fun acc k => insertByThreshold T k acc) acc).Perm (acc ++ ks)
  | [], acc => by rw [List.append_nil]; exact .refl _
  | k :: ks, acc => (foldl_insertByThreshold_perm T ks _).trans
      (((insertByThreshold_perm T k acc).append_right ks).trans List.perm_middle.symm)

theorem byThreshold_perm (T : Nat → Nat) (ks : List Nat) : (byThreshold T ks).Perm ks :=
  foldl_insertByThreshold_perm T ks []

theorem foldl_insertByThreshold_before {T : Nat → Nat} : (ks acc : List Nat) → ks.Pairwise (· < ·) →
    acc.Pairwise (Before T) → (∀ a ∈ acc, ∀ k ∈ ks, a < k) →
    (ks.foldl (fun acc k => insertByThreshold T k acc) acc).Pairwise (Before T)
  | [], _, _, hacc, _ => hacc
  | k :: ks, acc, hks, hacc, hlt => by
    obtain ⟨hk, hks⟩ := List.pairwise_cons.1 hks
    refine foldl_insertByThreshold_before ks _ hks
      (insertByThreshold_before acc hacc fun j hj => hlt j hj k List.mem_cons_self) fun a ha i hi => ?_
    obtain rfl | ha := List.mem_cons.1 ((insertByThreshold_perm T k acc).subset ha)
    · exact hk i hi
    · exact hlt a ha i (.tail k hi)

theorem byThreshold_before (T : Nat → Nat) {ks : List Nat} (h : ks.Pairwise (· < ·)) :
    (byThreshold T ks).Pairwise (Before T) := foldl_insertByThreshold_before ks [] h .nil nofun

/-! ## The four steps on an entry (R104 to R107) -/

/-- The entries of an event of a stop. -/
def eventTest (ev : TriggerEvent) (stop : Option Nat) (g : Trigger) : Bool :=
  decide (g.event = ev) && decide (stop = some g.stop)

/-- The DISTANCE entries that E_m has reached. -/
def reachedTest (em : Nat) (stops : List Stop) (g : Trigger) : Bool :=
  decide (g.event = .distance) && decide (g.stop < stops.length) && decide (g.threshold stops ≤ em)

theorem fireEvent_eq (ev : TriggerEvent) (stop : Option Nat) (s : State) :
    fireEvent ev stop s = fireAll (armedWhere (eventTest ev stop) s.notices.table) s := by
  cases stop with
  | none =>
    have hnone : armedWhere (eventTest ev none) s.notices.table = [] :=
      List.eq_nil_iff_forall_not_mem.2 fun k hk => by
        obtain ⟨e, -, -, ht⟩ := mem_armedWhere.1 hk
        exact absurd (Bool.and_eq_true_iff.1 ht).2 Bool.false_ne_true
    rw [hnone]
    rfl
  | some d =>
    have htest : eventTest ev (some d) = fun t => decide (t.event = ev) && decide (t.stop = d) := by
      funext g
      exact congrArg (decide (g.event = ev) && ·) (decide_eq_decide.2 (Option.some_inj.trans eq_comm))
    rw [htest]
    rfl

theorem fireWhere_not {test : Trigger → Bool} {e : TriggerEntry} (h : ¬ test e.trigger = true) : fireWhere test e = e :=
  if_neg fun hf => h hf.2

theorem fireWhere_rest {test : Trigger → Bool} {e : TriggerEntry} (h : e.state ≠ .armed) : fireWhere test e = e :=
  if_neg fun hf => h hf.1

theorem fireWhere_trigger (test : Trigger → Bool) (e : TriggerEntry) : (fireWhere test e).trigger = e.trigger := by
  unfold fireWhere
  split <;> rfl

/-- The entry satisfies its trigger at this hand-off. -/
def Fires (h : Handoff) (stops : List Stop) (e : TriggerEntry) : Prop :=
  let g := e.trigger
  e.state = .armed ∧ ((g.event = .departure ∧ h.departed = some g.stop) ∨
    (g.event = .arrival ∧ h.arrived = some g.stop) ∨
    (g.event = .distance ∧ h.c < g.stop ∧ g.stop < stops.length ∧ (stopAt stops g.stop).distance ≤ h.em + g.offset))

def Voids (h : Handoff) (stops : List Stop) (e : TriggerEntry) : Prop :=
  let g := e.trigger
  e.state = .armed ∧ ¬ Fires h stops e ∧ (g.stop < h.c ∨ (g.stop = h.c ∧ (g.event = .departure → h.state ≠ .atStop)))

/-- An entry after the first two steps. -/
def afterEvents (h : Handoff) (e : TriggerEntry) : TriggerEntry :=
  fireWhere (eventTest .arrival h.arrived) (fireWhere (eventTest .departure h.departed) e)

/-- An entry after all four. -/
def settledEntry (h : Handoff) (stops : List Stop) (e : TriggerEntry) : TriggerEntry :=
  fireWhere (reachedTest h.em stops) (voidEntry h.c h.state (afterEvents h e))

theorem reachedTest_iff {em : Nat} {stops : List Stop} {g : Trigger} : reachedTest em stops g = true ↔
    g.event = .distance ∧ g.stop < stops.length ∧ (stopAt stops g.stop).distance ≤ em + g.offset := by
  unfold reachedTest Trigger.threshold
  rw [Bool.and_eq_true, Bool.and_eq_true, decide_eq_true_iff, decide_eq_true_iff, decide_eq_true_iff, and_assoc,
    Nat.sub_le_iff_le_add]

theorem eventTest_iff {ev : TriggerEvent} {stop : Option Nat} {g : Trigger} : eventTest ev stop g = true ↔
    g.event = ev ∧ stop = some g.stop := by
  unfold eventTest
  rw [Bool.and_eq_true, decide_eq_true_iff, decide_eq_true_iff]

theorem voided_iff {c : Nat} {st : TrackerState} {g : Trigger} : voided c st g = true ↔
    g.stop < c ∨ (g.stop = c ∧ (g.event = .departure → st ≠ .atStop)) := by
  unfold voided
  cases hev : g.event
  case departure => simp
  all_goals
    rw [decide_eq_true_iff, Nat.le_iff_lt_or_eq]
    exact or_congr_right (and_iff_left nofun).symm

theorem voidEntry_rest {c : Nat} {st : TrackerState} {e : TriggerEntry} (h : e.state ≠ .armed) :
    voidEntry c st e = e := if_neg fun hf => h hf.1

theorem voidEntry_trigger (c : Nat) (st : TrackerState) (e : TriggerEntry) :
    (voidEntry c st e).trigger = e.trigger := by
  unfold voidEntry
  split <;> rfl

section Entry

variable {h : Handoff} {stops : List Stop} {e : TriggerEntry}

theorem fires_departure : (e.state = .armed ∧ eventTest .departure h.departed e.trigger = true) ↔
    Fires h stops e ∧ e.trigger.event = .departure := by
  rw [eventTest_iff]
  unfold Fires
  constructor
  · exact fun ⟨hs, hev, hd⟩ => ⟨⟨hs, .inl ⟨hev, hd⟩⟩, hev⟩
  · rintro ⟨⟨hs, ⟨-, hd⟩ | ⟨hx, -⟩ | ⟨hx, -⟩⟩, hev⟩
    · exact ⟨hs, hev, hd⟩
    · exact absurd (hx.symm.trans hev) (by decide)
    · exact absurd (hx.symm.trans hev) (by decide)

theorem fires_arrival : (e.state = .armed ∧ eventTest .arrival h.arrived e.trigger = true) ↔
    Fires h stops e ∧ e.trigger.event = .arrival := by
  rw [eventTest_iff]
  unfold Fires
  constructor
  · exact fun ⟨hs, hev, hd⟩ => ⟨⟨hs, .inr (.inl ⟨hev, hd⟩)⟩, hev⟩
  · rintro ⟨⟨hs, ⟨hx, -⟩ | ⟨-, hd⟩ | ⟨hx, -⟩⟩, hev⟩
    · exact absurd (hx.symm.trans hev) (by decide)
    · exact ⟨hs, hev, hd⟩
    · exact absurd (hx.symm.trans hev) (by decide)

theorem fires_distance : (e.state = .armed ∧ h.c < e.trigger.stop ∧ reachedTest h.em stops e.trigger = true) ↔
    Fires h stops e ∧ e.trigger.event = .distance := by
  rw [reachedTest_iff]
  unfold Fires
  constructor
  · exact fun ⟨hs, hc, hev, hd⟩ => ⟨⟨hs, .inr (.inr ⟨hev, hc, hd⟩)⟩, hev⟩
  · rintro ⟨⟨hs, ⟨hx, -⟩ | ⟨hx, -⟩ | ⟨-, hc, hd⟩⟩, hev⟩
    · exact absurd (hx.symm.trans hev) (by decide)
    · exact absurd (hx.symm.trans hev) (by decide)
    · exact ⟨hs, hc, hev, hd⟩

/-- Firing by another event leaves an entry. -/
theorem fireWhere_other {ev : TriggerEvent} {stop : Option Nat} (hev : e.trigger.event ≠ ev) :
    fireWhere (eventTest ev stop) e = e := fireWhere_not fun ht => hev (eventTest_iff.1 ht).1

theorem afterEvents_fired (hf : Fires h stops e) (hev : e.trigger.event ≠ .distance) :
    afterEvents h e = e.fire := by
  unfold afterEvents
  cases hk : e.trigger.event with
  | departure =>
    rw [show fireWhere (eventTest .departure h.departed) e = e.fire from if_pos (fires_departure.2 ⟨hf, hk⟩)]
    exact fireWhere_rest (e := e.fire) nofun
  | arrival =>
    rw [fireWhere_other (ev := .departure) (hk.trans_ne nofun)]
    exact if_pos (fires_arrival.2 ⟨hf, hk⟩)
  | distance => exact absurd hk hev

theorem afterEvents_kept (h' : ¬ Fires h stops e ∨ e.trigger.event = .distance) : afterEvents h e = e := by
  have hdep : fireWhere (eventTest .departure h.departed) e = e := if_neg fun ht => by
    obtain ⟨hf, hev⟩ := fires_departure (stops := stops).1 ht
    exact h'.elim (· hf) fun hd => absurd (hd.symm.trans hev) (by decide)
  have harr : fireWhere (eventTest .arrival h.arrived) e = e := if_neg fun ht => by
    obtain ⟨hf, hev⟩ := fires_arrival (stops := stops).1 ht
    exact h'.elim (· hf) fun hd => absurd (hd.symm.trans hev) (by decide)
  unfold afterEvents
  rw [hdep, harr]

theorem settledEntry_fires (hf : Fires h stops e) : settledEntry h stops e = e.fire := by
  unfold settledEntry
  by_cases hev : e.trigger.event = .distance
  · obtain ⟨hs, hc, ht⟩ := fires_distance.2 ⟨hf, hev⟩
    rw [afterEvents_kept (stops := stops) (.inr hev), show voidEntry h.c h.state e = e from if_neg fun hv => by
      have := voided_iff.1 hv.2
      omega]
    exact if_pos ⟨hs, ht⟩
  · rw [afterEvents_fired hf hev, voidEntry_rest (e := e.fire) nofun]
    exact fireWhere_rest (e := e.fire) nofun

theorem settledEntry_voids (hv : Voids h stops e) : settledEntry h stops e = { e with state := .void } := by
  obtain ⟨hs, hf, hc⟩ := hv
  unfold settledEntry
  rw [afterEvents_kept (.inl hf), show voidEntry h.c h.state e = _ from if_pos ⟨hs, voided_iff.2 hc⟩]
  exact fireWhere_rest (e := { e with state := .void }) nofun

theorem settledEntry_stays (hf : ¬ Fires h stops e) (hv : ¬ Voids h stops e) : settledEntry h stops e = e := by
  have hvoid : ¬ (e.state = .armed ∧ voided h.c h.state e.trigger = true) :=
    fun ⟨hs, hc⟩ => hv ⟨hs, hf, voided_iff.1 hc⟩
  unfold settledEntry
  rw [afterEvents_kept (.inl hf), show voidEntry h.c h.state e = e from if_neg hvoid]
  refine if_neg fun ⟨hs, ht⟩ => hf (fires_distance.1 ⟨hs, ?_, ht⟩).1
  obtain ⟨hev, -⟩ := reachedTest_iff.1 ht
  by_contra hc
  refine hvoid ⟨hs, voided_iff.2 ?_⟩
  rcases Nat.lt_or_eq_of_le (Nat.not_lt.1 hc) with hlt | heq
  · exact .inl hlt
  · exact .inr ⟨heq, fun hd => absurd (hev.symm.trans hd) (by decide)⟩

theorem arrival_fires : ((fireWhere (eventTest .departure h.departed) e).state = .armed ∧
      eventTest .arrival h.arrived (fireWhere (eventTest .departure h.departed) e).trigger = true) ↔
    Fires h stops e ∧ e.trigger.event = .arrival := by
  rw [fireWhere_trigger]
  by_cases hev : e.trigger.event = .arrival
  · rw [fireWhere_other (ev := .departure) (hev.trans_ne nofun)]
    exact fires_arrival
  · exact ⟨fun ht => absurd (eventTest_iff.1 ht.2).1 hev, fun ht => absurd ht.2 hev⟩

theorem distance_fires : ((voidEntry h.c h.state (afterEvents h e)).state = .armed ∧
      reachedTest h.em stops (voidEntry h.c h.state (afterEvents h e)).trigger = true) ↔
    Fires h stops e ∧ e.trigger.event = .distance := by
  rw [voidEntry_trigger, show (afterEvents h e).trigger = e.trigger from
    (fireWhere_trigger _ _).trans (fireWhere_trigger _ _)]
  by_cases hev : e.trigger.event = .distance
  · rw [afterEvents_kept (stops := stops) (.inr hev), ← fires_distance, ← and_assoc]
    refine and_congr_left' ?_
    have hvoid : voided h.c h.state e.trigger = true ↔ ¬ h.c < e.trigger.stop := by
      rw [voided_iff]
      have : e.trigger.event = .departure → h.state ≠ .atStop := fun hd => absurd (hev.symm.trans hd) (by decide)
      constructor
      · omega
      · exact fun hc => (Nat.lt_or_eq_of_le (Nat.not_lt.1 hc)).imp_right fun heq => ⟨heq, this⟩
    unfold voidEntry
    split
    · next hv => exact ⟨nofun, fun hn => absurd hn.2 (hvoid.1 hv.2)⟩
    · next hv => exact ⟨fun hs => ⟨hs, by_contra fun hc => hv ⟨hs, hvoid.2 hc⟩⟩, fun hn => hn.1⟩
  · exact ⟨fun ht => absurd (reachedTest_iff.1 ht.2).1 hev, fun ht => absurd ht.2 hev⟩

end Entry

/-! ## The whole hand-off -/

section Handoff

variable {h : Handoff} {s : State}

/-- The places that fire in the three steps. -/
structure FiringOrder (h : Handoff) (s : State) (dep arr dist : List Nat) : Prop where
  departure : ∀ k, k ∈ dep ↔ ∃ e, s.notices.table[k]? = some e ∧ Fires h s.tracker.stops e ∧
    e.trigger.event = .departure
  arrival : ∀ k, k ∈ arr ↔ ∃ e, s.notices.table[k]? = some e ∧ Fires h s.tracker.stops e ∧ e.trigger.event = .arrival
  distance : ∀ k, k ∈ dist ↔ ∃ e, s.notices.table[k]? = some e ∧ Fires h s.tracker.stops e ∧
    e.trigger.event = .distance
  departures : dep.Pairwise (· < ·)
  arrivals : arr.Pairwise (· < ·)
  distances : dist.Pairwise (Before fun k => match s.notices.table[k]? with
    | some e => e.trigger.threshold s.tracker.stops
    | none => 0)

/-- Membership after a stage that maps the table. -/
theorem mem_armedWhere_map {test : Trigger → Bool} {f : TriggerEntry → TriggerEntry} {tb tb' : List TriggerEntry}
    {p : TriggerEntry → Prop} (htb : ∀ i : Nat, tb'[i]? = tb[i]?.map f)
    (hp : ∀ e, ((f e).state = .armed ∧ test (f e).trigger = true) ↔ p e) (k : Nat) :
    k ∈ armedWhere test tb' ↔ ∃ e, tb[k]? = some e ∧ p e := by
  rw [mem_armedWhere, htb]
  constructor
  · rintro ⟨_, hm, ht⟩
    obtain ⟨e, he, rfl⟩ := Option.map_eq_some_iff.1 hm
    exact ⟨e, he, (hp e).1 ht⟩
  · rintro ⟨e, he, ht⟩
    exact ⟨f e, Option.map_eq_some_iff.2 ⟨e, he, rfl⟩, (hp e).2 ht⟩

/-- The four steps: three turns of firing, the entries passed voided between (R105). -/
theorem actHandoff_order (h : Handoff) (s : State) : ∃ dep arr dist, FiringOrder h s dep arr dist ∧
    actHandoff h s = fireAll dist (voidTable h (fireAll arr (fireAll dep s))) ∧
    Offers s ((dep ++ arr ++ dist).filterMap fun k => s.notices.table[k]?.map fun e => triggerNotice s e.trigger)
      (actHandoff h s) ∧
    ∀ i : Nat, (actHandoff h s).notices.table[i]? = s.notices.table[i]?.map (settledEntry h s.tracker.stops) := by
  obtain ⟨dep, hdep⟩ : ∃ dep, dep = armedWhere (eventTest .departure h.departed) s.notices.table := ⟨_, rfl⟩
  obtain ⟨o1, t1⟩ := fireAll_offers dep (Offers.start (s := s))
  have g1 (i : Nat) : (fireAll dep s).notices.table[i]? =
      s.notices.table[i]?.map (fireWhere (eventTest .departure h.departed)) := by
    rw [t1]
    exact getElem?_firedWhere (fun k => by rw [hdep]) i
  obtain ⟨arr, harr⟩ : ∃ arr, arr = armedWhere (eventTest .arrival h.arrived) (fireAll dep s).notices.table := ⟨_, rfl⟩
  obtain ⟨o2, t2⟩ := fireAll_offers arr o1
  have g2 (i : Nat) : (voidTable h (fireAll arr (fireAll dep s))).notices.table[i]? =
      s.notices.table[i]?.map fun e => voidEntry h.c h.state (afterEvents h e) := by
    show ((fireAll arr (fireAll dep s)).notices.table.map (voidEntry h.c h.state))[i]? = _
    rw [List.getElem?_map, t2, getElem?_firedWhere (fun k => by rw [harr]) i, g1, Option.map_map, Option.map_map]
    rfl
  have hstops : (voidTable h (fireAll arr (fireAll dep s))).tracker.stops = s.tracker.stops :=
    congrArg Tracker.stops (o2.parts.tracker (by decide))
  obtain ⟨u, hu⟩ : ∃ u, u = voidTable h (fireAll arr (fireAll dep s)) := ⟨_, rfl⟩
  rw [← hu] at g2 hstops
  let T (k : Nat) : Nat := match u.notices.table[k]? with
    | some e => e.trigger.threshold s.tracker.stops
    | none => 0
  have hT : T = fun k => match s.notices.table[k]? with
      | some e => e.trigger.threshold s.tracker.stops
      | none => 0 := by
    funext k
    show (match u.notices.table[k]? with | some e => _ | none => _) = _
    rw [g2]
    cases s.notices.table[k]? with
    | none => rfl
    | some e => exact congrArg (Trigger.threshold _) ((voidEntry_trigger _ _ _).trans
        ((fireWhere_trigger _ _).trans (fireWhere_trigger _ _)))
  have hact : actHandoff h s = fireAll (byThreshold T (armedWhere (reachedTest h.em s.tracker.stops) u.notices.table)) u := by
    unfold actHandoff
    rw [fireEvent_eq .departure, ← hdep, fireEvent_eq .arrival, ← harr, ← hu]
    unfold fireDistance
    rw [hstops]
    rfl
  have hperm := byThreshold_perm T (armedWhere (reachedTest h.em s.tracker.stops) u.notices.table)
  have hoffers := hu.symm.subst (motive := Offers s _) (o2.table _
    (List.map_map.trans (List.map_congr_left fun e _ => voidEntry_trigger h.c h.state e)))
  obtain ⟨o4, -⟩ := fireAll_offers (byThreshold T (armedWhere (reachedTest h.em s.tracker.stops) u.notices.table)) hoffers
  rw [List.nil_append, ← List.filterMap_append, ← List.filterMap_append, ← hact] at o4
  refine ⟨dep, arr, _, ⟨fun k => ?_, fun k => ?_, fun k => ?_, ?_, ?_, ?_⟩, hact.trans (congrArg (fireAll _) hu), o4,
    fun i => ?_⟩
  · rw [hdep, mem_armedWhere]
    exact exists_congr fun e => and_congr_right' fires_departure
  · rw [harr]
    exact mem_armedWhere_map g1 (fun e => arrival_fires) k
  · rw [hperm.mem_iff]
    exact mem_armedWhere_map g2 (fun e => distance_fires) k
  · rw [hdep]
    exact armedWhere_pairwise _ _
  · rw [harr]
    exact armedWhere_pairwise _ _
  · rw [← hT]
    exact byThreshold_before T (armedWhere_pairwise _ _)
  · rw [hact, (fireAll_offers _ Offers.start).2, getElem?_firedWhere (fun k => hperm.mem_iff) i, g2, Option.map_map]
    rfl

end Handoff

end Sys2Proof.Machine

namespace Sys2Proof

open Sys2Proof.Machine

/-- Settles O38: the table by each entry's four steps, the queue by the notices offered in the order of firing. -/
theorem handoffSettlesTriggers : Obligations.HandoffSettlesTriggers := by
  intro rest s
  refine ⟨fun h hh => ?_, fun hh => ?_⟩
  · intro fires voids
    have hexec : exec .noticeHandoff s = .next (actHandoff h (setFromTracker rest s)) := by
      show execNoticeHandoff s = _
      unfold execNoticeHandoff
      rw [hh]
    obtain ⟨dep, arr, dist, hord, hact, hoffers, htable⟩ := actHandoff_order h (setFromTracker rest s)
    obtain ⟨hqueue, hcount, hreports⟩ := hoffers.run
    have hset : UnchangedBut [.notices, .panels, .reports] s (setFromTracker rest s) :=
      notices_keeps (.refl [.notices, .panels, .reports] s)
    refine ⟨_, hexec, hset.trans hoffers.parts, hoffers.queues.1, hoffers.queues.2, ?_, fun k e he => ?_, fun hno => ?_,
      dep, arr, dist, hord.departure, hord.departures, hord.arrival, hord.arrivals, hord.distance, ?_,
      hqueue.symm, hcount.symm, hreports, fun hnodup hbound hroom => ?_⟩
    · have := congrArg List.length hoffers.triggers
      rwa [List.length_map, List.length_map] at this
    · have hk := (htable k).trans (congrArg (Option.map _) he)
      exact ⟨fun hf => hk.trans (congrArg some (settledEntry_fires hf)),
        fun hv => hk.trans (congrArg some (settledEntry_voids hv)),
        fun hf hv => hk.trans (congrArg some (settledEntry_stays hf hv))⟩
    · have none {ks : List Nat} {ev : TriggerEvent} (hks : ∀ k, k ∈ ks ↔ ∃ e, s.notices.table[k]? = some e ∧
          Fires h s.tracker.stops e ∧ e.trigger.event = ev) : ks = [] :=
        List.eq_nil_iff_forall_not_mem.2 fun k hk => by
          obtain ⟨e, he, hf, -⟩ := (hks k).1 hk
          exact hno e (List.mem_of_getElem? he) hf
      rw [hact, none hord.departure, none hord.arrival, none hord.distance]
      exact ⟨rfl, rfl, rfl, rfl, rfl⟩
    · exact hord.distances
    · obtain ⟨hlaw, hkept⟩ := hoffers.head hnodup hbound hroom
      have hhead := congrArg (fun q : List Notice => q.head?.map (·.number)) hqueue
      refine ⟨fun hsame => ?_, fun hne => ?_⟩
      · refine hkept.elim (·.2) fun hq => hlaw.head.elim (·.2) fun ⟨hgone, _⟩ => ?_
        obtain ⟨x, w, hx⟩ := List.exists_cons_of_ne_nil hq
        have hnum := hhead.symm.trans hsame
        rw [hx] at hnum hgone
        obtain ⟨e, he, hn⟩ := Option.map_eq_some_iff.1 hnum.symm
        exact absurd hn.symm (hgone e he x List.mem_cons_self)
      · obtain ⟨h1, -⟩ | ⟨-, h2, h3⟩ := hlaw.head
        · exact absurd (hhead.trans h1) hne
        · refine ⟨h2.trans ?_, fun p => (congrArg (Panels.panel · p) h3).trans (markRole_panel .notice _ p)⟩
          rw [← hqueue]
          rfl
  · have hexec : exec .noticeJourneyReset s = .next (actJourneyReset (setFromTracker rest s)) := by
      show execNoticeJourneyReset s = _
      unfold execNoticeJourneyReset
      rw [hh]
    have hset : UnchangedBut [.notices, .panels] s (setFromTracker rest s) :=
      notices_keeps (.refl [.notices, .panels] s)
    refine ⟨_, hexec, setQueue_keeps (notices_keeps hset), ?_⟩
    unfold actJourneyReset
    obtain ⟨hhead, he⟩ | ⟨hhead, he⟩ := setQueue_cases [] { setFromTracker rest s with notices :=
      { (setFromTracker rest s).notices with table := [], dwell := none } } <;> rw [he]
    · have hnil : s.notices.queue = [] := List.head?_eq_none_iff.1 (Option.map_eq_none_iff.1 hhead.symm)
      exact ⟨rfl, fun p => (if_neg fun hn => hn.1 hnil).symm⟩
    · have hne : s.notices.queue ≠ [] := fun hnil => hhead (congrArg (·.head?.map (·.number)) hnil).symm
      refine ⟨congrArg (fun d => NoticeUnit.mk [] [] s.notices.count d rest s.notices.fromPanels) (ite_self none),
        fun p => (markRole_panel .notice _ p).trans (if_congr (and_iff_right hne).symm rfl rfl)⟩

end Sys2Proof

end


section
/-! The choices of the engine arbiter, and drawing set aside or discarded (sections 9.1.2, 9.2 and 9.3.1). -/

namespace Sys2Proof.Machine

-- Proofs are elaborated in turn: side by side they take more memory.
set_option Elab.async false

open Sys2Proof

/-! ## One choice (R164) -/

theorem flipFree_iff (r : Record) (s : State) :
    flipFree r s = true ↔ ¬ ∃ p, r.target = some p ∧ (s.panel p).flipPending = true := by
  unfold flipFree
  cases r.target with
  | none => exact ⟨fun _ => (nomatch ·.choose_spec.1), fun _ => rfl⟩
  | some p => simp

section Choice

variable {s : State} {r : Record} {rest : List Record}

theorem chooseOnce_composer (hrun : s.engine.running = none) (hq : s.engine.composerQ = r :: rest) : chooseOnce s =
    if flipFree r s then some (startRecord .composer r { s with engine := { s.engine with composerQ := rest } })
    else none := by
  unfold chooseOnce
  rw [hrun, hq]

theorem chooseOnce_inBand (hrun : s.engine.running = none) (hq : s.engine.composerQ = [])
    (hs : s.engine.suspended = none) (hb : s.engine.inBandQ = r :: rest) : chooseOnce s =
    if flipFree r s then some (startRecord .inBand r { s with engine := { s.engine with inBandQ := rest } })
    else none := by
  unfold chooseOnce
  rw [hrun, hq, hs, hb]

theorem chooseOnce_suspended {u : Running} (hrun : s.engine.running = none) (hq : s.engine.composerQ = [])
    (hs : s.engine.suspended = some u) :
    chooseOnce s = if flipFree u.record s then some (resumeRecord u s) else none := by
  unfold chooseOnce
  rw [hrun, hq, hs]

theorem chooseOnce_idle (hrun : s.engine.running = none) (hq : s.engine.composerQ = [])
    (hs : s.engine.suspended = none) (hb : s.engine.inBandQ = []) : chooseOnce s = none := by
  unfold chooseOnce
  rw [hrun, hq, hs, hb]

theorem noteEngineIdle_busy (h : s.engine.isIdle = false) : noteEngineIdle s = s :=
  if_neg (by rw [h, Bool.and_false]; decide)

/-- A candidate whose panel has a flip pending holds everything back; else the arbiter goes on with what it leaves. -/
theorem runEngine_candidate {t : State} (hc : chooseOnce s = if flipFree r s then some t else none)
    (hidle : s.engine.isIdle = false) :
    (flipFree r s = false → runEngine s = s) ∧ (flipFree r s = true → runEngine s = runEngine t) := by
  refine ⟨fun h => ?_, fun h => runEngine_some (hc.trans (if_pos h))⟩
  rw [runEngine_none (hc.trans (if_neg (ne_true_of_eq_false h))), noteEngineIdle_busy hidle]

end Choice

/-! ## A record that starts (R151) -/

section Start

variable {src : DrawSource} {r : Record} {s : State}

theorem startRecord_refused (h : startOk src r s = false) : startRecord src r s = reportDraw src r .refused s :=
  if_neg (ne_true_of_eq_false h)

theorem startRecord_runs (h : startOk src r s = true) (hb : r.body ≠ .flip) : startRecord src r s =
    { s with engine := { s.engine with
        running := some { source := src, record := r, work := beginWork src r s }
        heldLine := if src = .inBand ∧ bodyCode r.body = 1 then none else s.engine.heldLine } } := by
  refine (if_pos h).trans ?_
  have hline : r.body.isLine = true ↔ bodyCode r.body = 1 := by
    cases r.body <;> simp [Body.isLine, bodyCode]
  rw [← if_congr (and_congr_right' hline) rfl rfl]
  split
  · next hf => exact absurd hf hb
  · rfl

theorem startRecord_flip {p : PanelId} (h : startOk src r s = true) (hb : r.body = .flip) (hp : r.target = some p) :
    startRecord src r s = markFlip p s := by
  refine (if_pos h).trans ?_
  rw [hb, Record.panelId, hp]
  rfl

theorem Panel.enabled_iff {x : Panel} : x.enabled = true ↔ x.config.enable = true ∧ x.config.role ≠ .off := by
  rw [Panel.enabled, Bool.and_eq_true, decide_eq_true_iff]

theorem markFlip_enabled {p : PanelId} (h : (s.panel p).enabled = true) :
    markFlip p s = s.setPanel p { s.panel p with flipPending := true } := by
  unfold markFlip
  dsimp only
  rw [State.panel_setPanel_same]
  exact if_pos h

theorem completeFlip_setPanel {p : PanelId} {x : Panel} (hx : x.enabled = false) : completeFlip p (s.setPanel p x) =
    { s.setPanel p { x with
        shown := x.back, back := x.shown, flipPending := false
        composer := if x.composer = some .flipWait then some (if x.redo then .dirty else .clean) else x.composer
        redo := x.redo && decide (x.composer ≠ some .flipWait) } with
      notices := { s.notices with fromPanels := s.notices.fromPanels ++
        if x.config.role = .notice then [.flipped x.back.tag false] else [] } } := by
  rw [completeFlip_eq, State.panel_setPanel_same, State.setPanel_setPanel, hx]
  refine congrArg₂ (fun y n => ({ s.setPanel p y with notices := n } : State)) ?_ ?_
  · by_cases hc : x.composer = some .flipWait
    · simp only [hc, if_true, ← apply_ite some, ne_eq, not_true_eq_false, decide_false, Bool.and_false]
    · simp only [hc, if_false, ne_eq, not_false_eq_true, decide_true, Bool.and_true]
  · by_cases hr : x.config.role = .notice
    · rw [if_pos hr, if_pos hr]
      rfl
    · rw [if_neg hr, if_neg hr, List.append_nil]
      rfl

theorem markFlip_disabled {p : PanelId} (h : (s.panel p).enabled = false) : markFlip p s =
    completeFlip p (s.setPanel p { s.panel p with flipPending := true }) := by
  unfold markFlip
  dsimp only
  rw [State.panel_setPanel_same]
  exact if_neg (ne_true_of_eq_false h)

end Start

/-! ## The record at the head of a queue -/

section Head

variable {src : DrawSource} {r : Record} {s t : State}
  (hc : chooseOnce s = if flipFree r s then some (startRecord src r t) else none) (hidle : s.engine.isIdle = false)
include hc hidle

theorem runEngine_head_waits (h : ∃ p, r.target = some p ∧ (s.panel p).flipPending = true) : runEngine s = s :=
  (runEngine_candidate hc hidle).1 (Bool.eq_false_iff.2 fun hf => (flipFree_iff r s).1 hf h)

variable (hfree : ¬ ∃ p, r.target = some p ∧ (s.panel p).flipPending = true)
include hfree

theorem runEngine_head : runEngine s = runEngine (startRecord src r t) :=
  (runEngine_candidate hc hidle).2 ((flipFree_iff r s).2 hfree)

theorem runEngine_head_runs (h : startOk src r t = true) (hb : r.body ≠ .flip) : runEngine s =
    { t with engine := { t.engine with
        running := some { source := src, record := r, work := beginWork src r t }
        heldLine := if src = .inBand ∧ bodyCode r.body = 1 then none else t.engine.heldLine } } := by
  rw [runEngine_head hc hidle hfree, startRecord_runs h hb, runEngine_running rfl]

theorem runEngine_head_flips {p : PanelId} (h : startOk src r t = true) (hb : r.body = .flip)
    (hp : r.target = some p) : runEngine s = runEngine (markFlip p t) := by
  rw [runEngine_head hc hidle hfree, startRecord_flip h hb hp]

end Head

/-- A FILL_RECT of the composer always starts, and the arbiter then rests. -/
theorem runEngine_fillRect {s : State} {r : Record} {rest : List Record} {q : PanelId} {x0 y0 : Int} {w h : Nat}
    (hrun : s.engine.running = none) (hq : s.engine.composerQ = r :: rest) (ht : r.target = some q)
    (hb : r.body = .fillRect x0 y0 w h) (hrop : r.rop.toNat ≤ 5) (hflip : (s.panel q).flipPending = false) :
    runEngine s = { s with engine := { s.engine with
      composerQ := rest, running := some { source := .composer, record := r, work := .rows 0 } } } := by
  have hok : startOk .composer r { s with engine := { s.engine with composerQ := rest } } = true := by
    rw [startOk, Record.targetOk, ht, Record.coded, hb, Record.kindOk, hb, decide_eq_true hrop]
    rfl
  have hidle : s.engine.isIdle = false := by
    rw [Engine.isIdle, hq, List.isEmpty_cons, Bool.and_false, Bool.false_and]
  rw [runEngine_head_runs (chooseOnce_composer hrun hq) hidle
    (by rintro ⟨p, hp, hf⟩; rw [← Option.some.inj (ht.symm.trans hp), hflip] at hf; cases hf) hok (by rw [hb]; nofun),
    beginWork, hb, if_neg fun k => DrawSource.noConfusion k.1]

/-! ## ABORT_DRAW (section 9.3.1) -/

/-- The state with an in-band record met (log 7). -/
def metInBand (s : State) : State :=
  match s.engine.running with
  | some u => if u.source = .inBand then meetRunning s else s
  | none => s

theorem metInBand_cases (s : State) :
    (metInBand s = s ∧ ∀ u, s.engine.running = some u → u.source = .composer) ∨
    ∃ u, s.engine.running = some u ∧ u.source = .inBand ∧ metInBand s = meetRunning s := by
  unfold metInBand
  split
  · next u hu =>
    cases hsrc : u.source with
    | composer => exact .inl ⟨if_neg (by decide), fun v hv => by cases hu.symm.trans hv; exact hsrc⟩
    | inBand => exact .inr ⟨u, hu, hsrc, if_pos rfl⟩
  · next hn => exact .inl ⟨rfl, fun u hu => nomatch hn.symm.trans hu⟩

theorem metInBand_unchanged (s : State) : UnchangedBut [.engine, .panels, .freeCount] s (metInBand s) := by
  obtain ⟨h, -⟩ | ⟨u, -, -, h⟩ := metInBand_cases s
  · rw [h]
    exact .refl _ s
  · rw [h]
    exact meetRunning_unchanged s

theorem metInBand_panel (s : State) (k : PanelId) : (s.panel k).Painted ((metInBand s).panel k) ∧
    ((∀ u ∈ s.engine.running, u.source = .inBand → u.record.target ≠ some k) → s.engine.running.all
      (fun u => decide (u.source = .composer) || u.record.target.isSome) = true →
      (metInBand s).panel k = s.panel k) := by
  obtain ⟨h, -⟩ | ⟨u, hu, hsrc, h⟩ := metInBand_cases s
  · rw [h]
    exact ⟨.refl _, fun _ _ => rfl⟩
  · rw [h]
    refine ⟨(meetRunning_panel s k).1, fun hne hsome => (meetRunning_panel s k).2 ?_⟩
    rw [hu] at hsome ⊢
    have hs : (decide (u.source = .composer) || u.record.target.isSome) = true := hsome
    rw [hsrc] at hs
    exact Bool.and_eq_true_iff.2 ⟨decide_eq_true (hne u hu hsrc), hs⟩

/-- The engine with all in-band drawing discarded. -/
def Engine.composerOnly (e : Engine) : Engine :=
  { e with
    inBandQ := [], suspended := none, heldLine := none, inBandPattern := 15
    running := match e.running with
      | some u => if u.source = DrawSource.inBand then none else some u
      | none => none }

theorem metInBand_composerOnly (s : State) : (metInBand s).engine.composerOnly = { s.engine with
    inBandQ := [], suspended := none, heldLine := none, inBandPattern := 15
    running := if s.engine.running.any (fun u => decide (u.source = .composer)) then s.engine.running else none } := by
  obtain ⟨h, hc⟩ | ⟨u, hu, hsrc, h⟩ := metInBand_cases s
  · rw [h, Engine.composerOnly]
    cases hr : s.engine.running with
    | none => rfl
    | some v =>
      exact congrArg (fun r => ({ s.engine with
        inBandQ := [], suspended := none, heldLine := none, inBandPattern := 15, running := r } : Engine))
        ((if_neg (by rw [hc v hr]; decide)).trans (if_pos (decide_eq_true (hc v hr))).symm)
  · obtain ⟨met, -, hm⟩ := meetRunning_some hu
    rw [h, hm, hu]
    exact congrArg (fun r => ({ s.engine with
      inBandQ := [], suspended := none, heldLine := none, inBandPattern := 15, running := r } : Engine))
      ((if_pos hsrc).trans (if_neg fun hc => DrawSource.noConfusion (hsrc.symm.trans (of_decide_eq_true hc))).symm)

/-- The state ABORT_DRAW leaves to the arbiter. -/
def aborted (s : State) : State :=
  let stopped := { metInBand s with engine := (metInBand s).engine.composerOnly }
  match s.engine.inBandRecord with
  | some r => reportDraw .inBand r .aborted stopped
  | none => stopped

theorem abortDraw_idle {s : State}
    (h : s.engine.inBandRecord = none ∧ s.engine.inBandQ = [] ∧ s.engine.heldLine = none) :
    abortDraw s = (s, .ok) := if_pos h

theorem abortDraw_works {s : State}
    (h : ¬ (s.engine.inBandRecord = none ∧ s.engine.inBandQ = [] ∧ s.engine.heldLine = none)) :
    abortDraw s = (runEngine (aborted s), .ok) := if_neg h

theorem aborted_leaves (s : State) : (aborted s).engine = (metInBand s).engine.composerOnly ∧
    (aborted s).panels = (metInBand s).panels ∧ UnchangedBut [.engine, .panels, .reports, .freeCount] s (aborted s) ∧
    (aborted s).reports = match s.engine.inBandRecord with
      | some r => (raise .drawEvent [byteOf (bodyCode r.body), 3, r.panel] s).reports
      | none => s.reports := by
  have hmet := metInBand_unchanged s
  have hstopped := engine_keeps (x := (metInBand s).engine.composerOnly)
    (hmet.mono (by decide) : UnchangedBut [.engine, .panels, .reports, .freeCount] s (metInBand s))
  unfold aborted
  dsimp only
  cases s.engine.inBandRecord with
  | none => exact ⟨rfl, rfl, hstopped, hmet.reports (by decide)⟩
  | some r =>
    refine ⟨reportDraw_engine _ _ _ _, rfl, reportDraw_keeps hstopped, ?_⟩
    exact congrArg (fun reports => (raise .drawEvent _ { s with reports := reports }).reports) (hmet.reports (by decide))

end Sys2Proof.Machine

namespace Sys2Proof

open Sys2Proof.Machine

/-- Settles O48: the arbiter's choice by what waits, and then by what the record at the head is. -/
theorem recordsStartResumeOrAreRefused : Obligations.RecordsStartResumeOrAreRefused := by
  intro s hrun hfonts e pends refused takes
  have hhead (src : DrawSource) (r : Record) (t : State) (hstart : startOk src r t = startOk src r s)
      (hwork : beginWork src r t = beginWork src r s) (hpanels : t.panels = s.panels)
      (hnotices : t.notices = s.notices) (hheld : t.engine.heldLine = e.heldLine)
      (hc : chooseOnce s = if flipFree r s then some (startRecord src r t) else none)
      (hidle : s.engine.isIdle = false) : takes src r t := by
    have hpanel (p : PanelId) : t.panel p = s.panel p := congrArg (Panels.panel · p) hpanels
    have hchecks := startOk_iff src r s hfonts
    refine ⟨runEngine_head_waits hc hidle, fun hfree hno => ?_, fun hfree hok hb => ?_, fun hfree hok hb p hp => ?_⟩
    · have hfalse : startOk src r t = false := hstart.trans (Bool.eq_false_iff.2 fun h => hno (hchecks.1 h))
      rw [runEngine_head hc hidle hfree, startRecord_refused hfalse]
      cases src <;> rfl
    · rw [runEngine_head_runs hc hidle hfree (hstart.trans (hchecks.2 hok)) hb, hwork, hheld]
    · rw [runEngine_head_flips hc hidle hfree (hstart.trans (hchecks.2 hok)) hb hp]
      refine ⟨fun hon => ?_, fun hoff => ⟨_, rfl, ?_⟩⟩
      · rw [markFlip_enabled ((congrArg Panel.enabled (hpanel p)).trans (Panel.enabled_iff.2 hon)), hpanel]
      · have hx : (s.panel p).enabled = false := Bool.eq_false_iff.2 fun h => hoff (Panel.enabled_iff.1 h)
        rw [markFlip_disabled ((congrArg Panel.enabled (hpanel p)).trans hx), hpanel, completeFlip_setPanel (by exact hx),
          hnotices]
  refine ⟨fun hq hs hb => ?_, fun r rest hq => ?_, fun r rest hq hs hb => ?_, fun u p hq hs hsrc hp => ?_⟩
  · rw [runEngine_none (chooseOnce_idle hrun hq hs hb), noteEngineIdle]
    rw [show s.engine.isIdle = true by rw [Engine.isIdle, hrun, hq, hs, hb]; rfl, Bool.and_true]
  · refine hhead _ r _ rfl rfl rfl rfl rfl (chooseOnce_composer hrun hq) ?_
    rw [Engine.isIdle, hq, List.isEmpty_cons, Bool.and_false, Bool.false_and]
  · refine hhead _ r _ rfl rfl rfl rfl rfl (chooseOnce_inBand hrun hq hs hb) ?_
    rw [Engine.isIdle, hb, List.isEmpty_cons, Bool.and_false]
  · have hc := runEngine_candidate (chooseOnce_suspended hrun hq hs) (by
      rw [Engine.isIdle, hs, Option.isNone_some, Bool.and_false, Bool.false_and, Bool.false_and])
    have hflip : flipFree u.record s = !(s.panel p).flipPending := by rw [flipFree, hp]
    rw [hflip] at hc
    have hrole : u.record.panelId = p := by rw [Record.panelId, hp, Option.getD_some]
    refine ⟨fun h => hc.1 (by rw [h]; rfl), fun h hfree hmark => ?_, fun h hno => ?_⟩
    · rw [hc.2 (by rw [h]; rfl), resumeRecord, hrole, if_pos ⟨hfree, hmark⟩, runEngine_running rfl]
    · rw [hc.2 (by rw [h]; rfl), resumeRecord, hrole, if_neg fun k => hno.elim (· k.1) (absurd · (by rw [k.2]; decide)),
        hsrc]
      cases u.work <;> rfl

/-- Settles O49: the suspended record's panel keeps what is not a pixel, so that the composer's record starts; ABORT_DRAW
meets the record it stops. -/
theorem drawingIsSetAsideOrDiscarded : Obligations.DrawingIsSetAsideOrDiscarded := by
  refine ⟨fun s u p q r rest x0 y0 w h units hrun hsrc hp hq ht hb hrop hflip hunits => ?_, fun s hdrain => ?_⟩
  · intro a hfin
    have hpainted : (s.panel p).Painted a.1 := .runUnits _ _ _ _ _ _ _
    have hid : u.record.panelId = p := by rw [Record.panelId, hp, Option.getD_some]
    have hwork : workOn (max 1 units) u s = (s.setPanel p a.1, { u with work := a.2, part := 0, cell := none }) := by
      rw [workOn, hid, Nat.max_eq_right hunits]
    have hflip' : ((s.setPanel p a.1).panel q).flipPending = false := by
      by_cases hpq : q = p
      · obtain ⟨m, hm, -⟩ := hpainted
        rw [hpq, State.panel_setPanel_same, hm, ← hpq]
        exact hflip
      · rw [State.panel_setPanel_ne s hpq]
        exact hflip
    refine ⟨?_, ?_⟩
    · show execDrawRecordSuspend units s = _
      unfold execDrawRecordSuspend
      rw [hrun]
      dsimp only
      rw [if_pos ⟨hsrc, by rw [hq]; exact List.cons_ne_nil _ _⟩, hwork, hid]
      dsimp only
      rw [State.panel_setPanel_same, if_neg (ne_true_of_eq_false hfin)]
      exact congrArg Host.Outcome.next (runEngine_fillRect rfl hq ht hb hrop hflip')
    · obtain ⟨m, hm, -⟩ := hpainted
      rw [hm]
      exact ⟨rfl, rfl, rfl⟩
  intro e byComposer mine
  have hany : e.running.any (fun u => decide (u.source = .composer)) = true ↔ byComposer := by
    rw [Option.any_eq_true]
    exact exists_congr fun u => and_congr_right' decide_eq_true_iff
  refine ⟨fun hmine hqueue hheld => ?_, fun hwork => ⟨aborted s, ?_, fun hrest => ?_, ?_⟩⟩
  · exact congrArg answered (abortDraw_idle ⟨hmine, hqueue, hheld⟩)
  · refine congrArg answered (abortDraw_works fun h => ?_)
    rcases hwork with hw | hw | hw
    exacts [hw h.1, hw h.2.1, hw h.2.2]
  all_goals obtain ⟨hengine, hpanels, hkeeps, hreports⟩ := aborted_leaves s
  all_goals rw [metInBand_composerOnly] at hengine
  · cases hrun : (aborted s).engine.running with
    | some u => exact runEngine_running hrun
    | none =>
      have hq : e.composerQ = [] := hrest.resolve_right fun hc => by
        rw [hengine] at hrun
        have hnone : e.running = none := (if_pos (hany.2 hc)).symm.trans hrun
        obtain ⟨u, hu, -⟩ := hc
        cases hu.symm.trans hnone
      rw [runEngine_none (chooseOnce_idle hrun ((congrArg Engine.composerQ hengine).trans hq)
        (congrArg Engine.suspended hengine) (congrArg Engine.inBandQ hengine))]
      exact if_neg (by rw [hkeeps.mgmt (by decide), hdrain, Bool.false_and]; decide)
  · refine ⟨fun r rest q x0 y0 w h hnot hq ht hb hrop hflip => ?_, hkeeps, hengine, hreports, fun k => ?_⟩
    · have hnone : (aborted s).engine.running = none := by
        rw [hengine]
        exact if_neg fun h => hnot (hany.1 h)
      refine runEngine_fillRect hnone ((congrArg Engine.composerQ hengine).trans hq) ht hb hrop ?_
      obtain ⟨m, hm, -⟩ := (metInBand_panel s q).1
      rw [State.panel, hpanels]
      exact (congrArg Panel.flipPending hm).trans hflip
    · obtain ⟨⟨m, hm, -⟩, hsame⟩ := metInBand_panel s k
      have hk : (aborted s).panel k = (metInBand s).panel k := congrArg (Panels.panel · k) hpanels
      rw [hk]
      exact ⟨(congrArg Panel.shown hm :), (congrArg Panel.config hm :), hsame⟩

end Sys2Proof

end


section
/-! What drawn pixels make of a page: a unit of work paints the pixels it covers and no other (section 9.1). -/

namespace Sys2Proof.Machine

-- Proofs are elaborated in turn: side by side they take more memory.
set_option Elab.async false

open Sys2Proof

/-! ## A page painted so far -/

/-- The colours of `ink` at the pixels of `D` alone. -/
noncomputable def inkOf (D : Nat → Nat → Prop) (ink : Nat → Nat → Option Pixel) (i j : Nat) : Option Pixel :=
  open Classical in if D i j then ink i j else none

theorem inkOf_pos {D : Nat → Nat → Prop} {ink : Nat → Nat → Option Pixel} {i j : Nat} (h : D i j) :
    inkOf D ink i j = ink i j := by
  unfold inkOf
  exact if_pos h

theorem inkOf_neg {D : Nat → Nat → Prop} {ink : Nat → Nat → Option Pixel} {i j : Nat} (h : ¬ D i j) :
    inkOf D ink i j = none := by
  unfold inkOf
  exact if_neg h

theorem inkOf_congr {D D' : Nat → Nat → Prop} {ink : Nat → Nat → Option Pixel} {i j : Nat} (h : D i j ↔ D' i j) :
    inkOf D ink i j = inkOf D' ink i j := by
  unfold inkOf
  rw [h]

/-- The panel `y` is `x` with the colours of `ink` painted at the pixels of `D`. -/
def Panel.Inked (x : Panel) (rop : Byte) (ink : Nat → Nat → Option Pixel) (D : Nat → Nat → Prop) (y : Panel) : Prop :=
  y = { x with back := { x.back with pixels := y.back.pixels } } ∧
    PaintsExactly x rop (inkOf D ink) x.back.pixels y.back.pixels

/-- The pixel (i, j) stands at (px, py). -/
def PixelAt (px py : Int) (i j : Nat) : Prop := (i : Int) = px ∧ (j : Int) = py

theorem pixelAt_cast {a b i j : Nat} : PixelAt a b i j ↔ i = a ∧ j = b := and_congr Int.ofNat_inj Int.ofNat_inj

theorem inkOf_elsewhere {D : Nat → Nat → Prop} {ink : Nat → Nat → Option Pixel} {a b i j : Nat} (h : ¬ (i = a ∧ j = b)) :
    inkOf (fun i j => D i j ∨ PixelAt a b i j) ink i j = inkOf D ink i j :=
  inkOf_congr (or_iff_left fun hat => h (pixelAt_cast.1 hat))

/-- A pixel of the panel written in the colour `ink` gives it. -/
def Panel.inkPixel (rop : Byte) (ink : Nat → Nat → Option Pixel) (px py : Int) (y : Panel) : Panel :=
  if y.holds px py then
    match ink px.toNat py.toNat with
    | some c => y.write rop c px py
    | none => y
  else y

theorem rasterOp_eq (rop : Byte) (src old : Pixel) : rasterOp rop src old = ropValue rop src old := by
  unfold rasterOp ropValue
  simp only [← BitVec.toNat_inj (y := (_ : Byte))]
  generalize rop.toNat = n
  match n with
  | 0 | 1 | 2 | 3 | 4 | n + 5 => rfl

theorem Panel.holds_iff {x : Panel} {px py : Int} : x.holds px py = true ↔
    0 ≤ px ∧ px < x.config.width ∧ 0 ≤ py ∧ py < x.config.height := by
  unfold Panel.holds
  simp only [Bool.and_eq_true, decide_eq_true_iff, and_assoc]

theorem Record.inClip_iff {r : Record} {px py : Int} : r.inClip px py = true ↔ r.clips px py := by
  unfold Record.inClip Record.clips
  simp only [Bool.and_eq_true, decide_eq_true_iff, and_assoc]

/-- A pixel of the panel that stands at a place is that place. -/
theorem pixelAt_toNat {x : Panel} {p q : Int × Int} (hp : x.holds p.1 p.2 = true)
    (h : PixelAt q.1 q.2 p.1.toNat p.2.toNat) : q = p := by
  obtain ⟨h0, -, h0', -⟩ := Panel.holds_iff.1 hp
  exact Prod.ext (h.1.symm.trans (Int.toNat_of_nonneg h0)) (h.2.symm.trans (Int.toNat_of_nonneg h0'))

section Inked

variable {x y : Panel} {rop : Byte} {ink : Nat → Nat → Option Pixel} {D D' : Nat → Nat → Prop}

theorem Panel.Inked.start (h : x.back.pixels.wf = true) (hD : ∀ i j, ¬ D i j) : x.Inked rop ink D x :=
  ⟨rfl, h, fun i j _ _ => by rw [inkOf_neg (hD i j)], fun _ _ => rfl⟩

/-- Only the colours within the panel count. -/
theorem Panel.Inked.congr_ink (h : x.Inked rop ink D y) (hD : ∀ i j, i < x.config.width → j < x.config.height →
    inkOf D ink i j = inkOf D' ink i j) : x.Inked rop ink D' y :=
  ⟨h.1, h.2.1, fun i j hi hj => by rw [h.2.2.1 i j hi hj, hD i j hi hj], h.2.2.2⟩

theorem Panel.Inked.congr (h : x.Inked rop ink D y) (hD : ∀ i j, i < x.config.width → j < x.config.height →
    (D i j ↔ D' i j)) : x.Inked rop ink D' y := h.congr_ink fun i j hi hj => inkOf_congr (hD i j hi hj)

theorem Panel.Inked.config_eq (h : x.Inked rop ink D y) : y.config = x.config := (congrArg Panel.config h.1 :)

/-- A pixel not painted so far has the value it had at the start. -/
theorem Panel.Inked.at_fresh (h : x.Inked rop ink D y) {px py : Int} (hp : x.holds px py = true)
    (hD : ¬ D px.toNat py.toNat) : y.back.at' px py = x.back.at' px py := by
  obtain ⟨h1, h2, h3, h4⟩ := Panel.holds_iff.1 hp
  have hold := h.2.2.1 px.toNat py.toNat (by omega) (by omega)
  rwa [inkOf_neg hD] at hold

theorem Panel.Inked.write (h : x.Inked rop ink D y) (hwide : x.config.width ≤ 512) {i j : Nat} {c : Pixel}
    (hi : i < x.config.width) (hj : j < x.config.height) (hD : ¬ D i j) (hc : ink i j = some c) :
    x.Inked rop ink (fun a b => D a b ∨ PixelAt i j a b) (y.write rop c i j) := by
  obtain ⟨hy, hwf, hin, hout⟩ := h
  have hold : y.back.pixels.get (pixelAddr i j) = x.back.pixels.get (j * 512 + i) := by
    have := hin i j hi hj
    rwa [inkOf_neg hD] at this
  generalize hm : y.back.pixels = m at hy hwf hin hout hold
  refine ⟨by rw [hy]; rfl, ?_, fun a b ha hb => ?_, fun a ha => ?_⟩
  all_goals rw [show (y.write rop c i j).back.pixels = m.set (pixelAddr i j)
    (rasterOp rop c (m.get (pixelAddr i j))) by rw [← hm]; rfl]
  · exact Store.set_wf hwf _ _
  · by_cases hab : a = i ∧ b = j
    · obtain ⟨rfl, rfl⟩ := hab
      rw [inkOf_pos (.inr ⟨rfl, rfl⟩), hc, rasterOp_eq, hold]
      exact Store.get_set_same hwf _ _
    · have hne : b * 512 + a ≠ pixelAddr i j := fun heq => hab ((pixelAddr_inj (by omega) (by omega)).1 heq)
      rw [Store.get_set_other hne, hin a b ha hb, inkOf_elsewhere hab]
  · exact (Store.get_set_other (a := pixelAddr i j) (ha i j hi hj) _ m).trans (hout a ha)

theorem Panel.Inked.inkPixel (h : x.Inked rop ink D y) (hwide : x.config.width ≤ 512) {px py : Int}
    (hD : x.holds px py = true → ¬ D px.toNat py.toNat) :
    x.Inked rop ink (fun i j => D i j ∨ PixelAt px py i j) (y.inkPixel rop ink px py) := by
  have hheld : y.holds px py = x.holds px py := by rw [Panel.holds, h.config_eq]; rfl
  unfold Panel.inkPixel
  rw [hheld]
  split
  · next hp =>
    obtain ⟨i, rfl⟩ := Int.eq_ofNat_of_zero_le (Panel.holds_iff.1 hp).1
    obtain ⟨j, rfl⟩ := Int.eq_ofNat_of_zero_le (Panel.holds_iff.1 hp).2.2.1
    obtain ⟨-, hi, -, hj⟩ := Panel.holds_iff.1 hp
    split
    · next c hc => exact h.write hwide (by omega) (by omega) (hD hp) hc
    · next hc =>
      refine h.congr_ink fun a b _ _ => ?_
      by_cases hab : a = i ∧ b = j
      · obtain ⟨rfl, rfl⟩ := hab
        exact (inkOf_neg (hD hp)).trans (hc.symm.trans (inkOf_pos (D := fun _ _ => _ ∨ _) (.inr ⟨rfl, rfl⟩)).symm)
      · exact (inkOf_elsewhere hab).symm
  · next hp =>
    refine h.congr fun a b ha hb => (or_iff_left fun hat => hp (Panel.holds_iff.2 ?_)).symm
    obtain ⟨rfl, rfl⟩ := hat
    omega

/-! ## The pixel jobs of a unit -/

/-- Jobs that each write the pixel of their place paint their places, when these are new and distinct. -/
theorem Panel.Inked.applyJobs {α : Type} {L : List α} {pos : α → Int × Int} {job : α → Panel → Panel}
    (hwide : x.config.width ≤ 512) (hnodup : (L.map pos).Nodup)
    (hfresh : ∀ a ∈ L, x.holds (pos a).1 (pos a).2 = true → ¬ D (pos a).1.toNat (pos a).2.toNat)
    (hjob : ∀ pre a post, L = pre ++ a :: post → ∀ y : Panel,
      x.Inked rop ink (fun i j => D i j ∨ ∃ b ∈ pre, PixelAt (pos b).1 (pos b).2 i j) y →
      job a y = y.inkPixel rop ink (pos a).1 (pos a).2)
    (h : x.Inked rop ink D y) :
    x.Inked rop ink (fun i j => D i j ∨ ∃ b ∈ L, PixelAt (pos b).1 (pos b).2 i j) (Machine.applyJobs (L.map job) y) := by
  suffices hrest : ∀ (post pre : List α) (y : Panel), L = pre ++ post →
      x.Inked rop ink (fun i j => D i j ∨ ∃ b ∈ pre, PixelAt (pos b).1 (pos b).2 i j) y →
      x.Inked rop ink (fun i j => D i j ∨ ∃ b ∈ L, PixelAt (pos b).1 (pos b).2 i j) (Machine.applyJobs (post.map job) y) from
    hrest L [] y rfl (h.congr fun i j _ _ => (or_iff_left fun ⟨b, hb, _⟩ => List.not_mem_nil hb).symm)
  intro post
  induction post with
  | nil =>
    intro pre y hL hy
    rw [hL, List.append_nil]
    exact hy
  | cons a post ih =>
    intro pre y hL hy
    refine ih (pre ++ [a]) (job a y) (by rw [hL, List.append_assoc]; rfl) ?_
    rw [hjob pre a post hL y hy]
    refine (hy.inkPixel hwide fun hp hD => ?_).congr fun i j _ _ => ?_
    · rcases hD with hD | ⟨b, hb, hat⟩
      · exact hfresh a (by rw [hL]; exact List.mem_append_right _ List.mem_cons_self) hp hD
      · rw [hL, List.map_append] at hnodup
        exact (List.nodup_append.1 hnodup).2.2 _ (List.mem_map_of_mem hb) _ List.mem_cons_self (pixelAt_toNat hp hat)
    · rw [or_assoc]
      simp only [List.mem_append, List.mem_singleton, or_and_right, exists_or, exists_eq_left]

/-- The rows of a record done one after another. -/
theorem Panel.Inked.runRows {r : Record} {fonts : List (Option Font)} (E : Nat → Nat → Nat → Prop)
    (hrow : ∀ k < r.body.rows, ∀ y : Panel, x.Inked rop ink (E k) y →
      x.Inked rop ink (E (k + 1)) (Machine.applyJobs (rowJobs r y k) y)) :
    (n k : Nat) → (held : Option Font) → (y : Panel) → k + n = r.body.rows → x.Inked rop ink (E k) y →
    (runUnits fonts r n 0 held y (.rows k)).2 = .rows r.body.rows ∧
      x.Inked rop ink (E r.body.rows) (runUnits fonts r n 0 held y (.rows k)).1
  | 0, k, _, y, hk, h => by
    rw [← hk]
    exact ⟨rfl, h⟩
  | n + 1, k, held, y, hk, h => by
    have hlt : ¬ r.body.rows ≤ k := by omega
    unfold runUnits
    rw [finished, decide_eq_false hlt]
    exact Panel.Inked.runRows E hrow n (k + 1) none _ (by omega) (hrow k (by omega) y h)

end Inked

/-! ## The end of a record that is no line -/

/-- The panel and the work of a running record, at the start of a unit, once all its units are done. -/
def Running.drawn (fonts : List (Option Font)) (u : Running) (x : Panel) : Panel × Work :=
  runUnits fonts u.record (unitsLeft u.record u.work) 0 u.cell x u.work

theorem Running.drawn_panel (fonts : List (Option Font)) (u : Running) (x : Panel) :
    (u.drawn fonts x).1 = { x with back := { x.back with pixels := (u.drawn fonts x).1.back.pixels } } := by
  obtain ⟨m, hm, -⟩ : x.Painted (u.drawn fonts x).1 := .runUnits _ _ _ _ _ _ _
  rw [hm]

section End

variable {s : State} {u : Running} {p : PanelId} (hrun : s.engine.running = some u) (ht : u.record.target = some p)
  (hpart : u.part = 0)
include hrun ht hpart

section

variable (hw : ∀ l, (u.drawn s.panels.fonts (s.panel p)).2 ≠ .line l)
include hw

theorem exec_drawRecordEnd_shape : exec .drawRecordEnd s = .next (runEngine
    { s.setPanel p (u.drawn s.panels.fonts (s.panel p)).1 with
      engine := { s.engine with running := none } }) := by
  have hid : u.record.panelId = p := by rw [Record.panelId, ht, Option.getD_some]
  show execDrawRecordEnd s = _
  unfold execDrawRecordEnd workOn
  rw [hrun]
  dsimp only
  rw [hid, hpart, show runUnits _ _ _ _ _ _ _ = u.drawn s.panels.fonts (s.panel p) from rfl]
  generalize u.drawn s.panels.fonts (s.panel p) = res at hw ⊢
  obtain ⟨y, w⟩ := res
  cases w with
  | line l => exact absurd rfl (hw l)
  | rows _ => exact congrArg (fun t => Host.Outcome.next (runEngine t)) (if_neg fun h => h.2 rfl)
  | glyph _ => exact congrArg (fun t => Host.Outcome.next (runEngine t)) (if_neg fun h => h.2 rfl)
  | text _ _ => exact congrArg (fun t => Host.Outcome.next (runEngine t)) (if_neg fun h => h.2 rfl)

/-- A record ends painting when its work paints, for whatever of `paint` is visible, all that is visible. -/
theorem endsPainting_of {paint : Nat → Nat → Option Pixel} (h : ∀ visible : Nat → Nat → Option Pixel,
      (∀ i j : Nat, visible i j = if u.record.inClip i j then paint i j else none) →
      ∃ E : Nat → Nat → Prop, (s.panel p).Inked u.record.rop visible E (u.drawn s.panels.fonts (s.panel p)).1 ∧
        ∀ i j, i < (s.panel p).config.width → j < (s.panel p).config.height → ¬ E i j → visible i j = none) :
    EndsPainting s u p paint := by
  refine ⟨(u.drawn s.panels.fonts (s.panel p)).1.back.pixels, ?_, fun visible hin hout => ?_⟩
  · rw [exec_drawRecordEnd_shape hrun ht hpart hw, ← Running.drawn_panel]
  · obtain ⟨E, ⟨-, hwf, hpix, hrest⟩, hE⟩ := h visible fun i j => by
      split
      · next hc => exact hin i j (Record.inClip_iff.1 hc)
      · next hc => exact hout i j fun k => hc (Record.inClip_iff.2 k)
    refine ⟨hwf, fun i j hi hj => ?_, hrest⟩
    rw [hpix i j hi hj]
    by_cases hD : E i j
    · rw [inkOf_pos hD]
    · rw [inkOf_neg hD, hE i j hi hj hD]

end

/-- A record of rows ends painting when the job of each row and offset writes the visible colour of its place, the places
are distinct, and nothing is painted elsewhere. -/
theorem endsPainting_rows {paint : Nat → Nat → Option Pixel} (hwork : u.work = .rows 0)
    (hwide : (s.panel p).config.width ≤ 512) (hwf : (s.panel p).back.pixels.wf = true) {L : List Nat} (hL : L.Nodup)
    {job : Nat → Nat → Panel → Panel} (hjobs : ∀ k y, y.config = (s.panel p).config →
      rowJobs u.record y k = L.map (job k))
    {pos : Nat → Nat → Int × Int} (hinj : ∀ {k m a b}, k < u.record.body.rows → m ≤ k → pos m b = pos k a → m = k ∧ b = a)
    (hend : ∀ i j, i < (s.panel p).config.width → j < (s.panel p).config.height → paint i j ≠ none →
      ∃ k < u.record.body.rows, ∃ b ∈ L, PixelAt (pos k b).1 (pos k b).2 i j)
    (hjob : ∀ visible : Nat → Nat → Option Pixel,
      (∀ i j : Nat, visible i j = if u.record.inClip i j then paint i j else none) →
      ∀ k < u.record.body.rows, ∀ pre a post, L = pre ++ a :: post → ∀ y : Panel,
      (s.panel p).Inked u.record.rop visible (fun i j => (∃ m < k, ∃ b ∈ L, PixelAt (pos m b).1 (pos m b).2 i j) ∨
        ∃ b ∈ pre, PixelAt (pos k b).1 (pos k b).2 i j) y →
      job k a y = y.inkPixel u.record.rop visible (pos k a).1 (pos k a).2) :
    EndsPainting s u p paint := by
  have hdrawn (visible : Nat → Nat → Option Pixel)
      (hv : ∀ i j : Nat, visible i j = if u.record.inClip i j then paint i j else none) :=
    Panel.Inked.runRows (fonts := s.panels.fonts) (ink := visible) (rop := u.record.rop)
      (fun k i j => ∃ m < k, ∃ b ∈ L, PixelAt (pos m b).1 (pos m b).2 i j) (fun k hk y hy => by
        rw [hjobs k y hy.config_eq]
        refine (hy.applyJobs (pos := pos k) hwide (hL.map fun a b hab => (hinj hk (Nat.le_refl k) hab).2)
          (fun a _ hp hD => ?_) (hjob visible hv k hk)).congr fun i j _ _ => ?_
        · obtain ⟨m, hm, b, -, hat⟩ := hD
          exact Nat.ne_of_lt hm (hinj hk (Nat.le_of_lt hm) (pixelAt_toNat hp hat)).1
        · simp only [Nat.lt_succ_iff_lt_or_eq, or_and_right, exists_or, exists_eq_left])
      u.record.body.rows 0 u.cell (s.panel p) (Nat.zero_add _) (.start hwf fun _ _ ⟨_, hm, _⟩ => Nat.not_lt_zero _ hm)
  rw [← show u.drawn s.panels.fonts (s.panel p) = runUnits s.panels.fonts u.record u.record.body.rows 0 u.cell
    (s.panel p) (.rows 0) by rw [Running.drawn, hwork]; rfl] at hdrawn
  refine endsPainting_of hrun ht hpart (fun l hl => ?_) fun visible hv => ⟨_, (hdrawn visible hv).2, fun i j hi hj hE => ?_⟩
  · exact nomatch (hdrawn _ fun _ _ => rfl).1.symm.trans hl
  · rw [hv, of_not_not fun hne => hE (hend i j hi hj hne), ite_self]

end End

/-! ## The pixels of a record -/

/-- A pixel of a record is the pixel its visible colour gives. -/
theorem Panel.plot_eq_inkPixel {r : Record} {ink : Nat → Nat → Option Pixel} {c : Pixel} {px py : Int} {y : Panel}
    (h : y.holds px py = true → ink px.toNat py.toNat = if r.inClip px py then some c else none) :
    y.plot r c px py = y.inkPixel r.rop ink px py := by
  unfold Panel.plot Panel.inkPixel
  cases hp : y.holds px py with
  | false => rfl
  | true =>
    rw [h hp, Bool.true_and]
    cases r.inClip px py <;> rfl

section Visible

variable {r : Record} {paint visible : Nat → Nat → Option Pixel}
  (hv : ∀ i j : Nat, visible i j = if r.inClip i j then paint i j else none) {y : Panel} {px py : Int}
include hv

theorem plot_visible {c : Pixel} (h : y.holds px py = true → paint px.toNat py.toNat = some c) :
    y.plot r c px py = y.inkPixel r.rop visible px py :=
  Panel.plot_eq_inkPixel fun hp => by
    obtain ⟨h0, -, h0', -⟩ := Panel.holds_iff.1 hp
    rw [hv, h hp, Int.toNat_of_nonneg h0, Int.toNat_of_nonneg h0']

theorem skip_visible (h : y.holds px py = true → paint px.toNat py.toNat = none) :
    y = y.inkPixel r.rop visible px py := by
  unfold Panel.inkPixel
  split
  · next hp => rw [hv, h hp, ite_self]
  · rfl

end Visible

/-- The jobs of a list of offsets, which the model reads as integers. -/
theorem map_offsets {α : Type} (f : Int → α) (l : List Nat) :
    (do let a ← l; pure (a : Int)).map f = l.map fun i : Nat => f i := by
  induction l with
  | nil => rfl
  | cons a l ih => exact congrArg (f a :: ·) ih

theorem mem_span {X : Int} {a w : Nat} (h : a < w) : X ≤ X + a ∧ X + a < X + w := by omega

theorem span_offset {X i : Int} {w : Nat} (h : X ≤ i) (h' : i < X + w) : ∃ a < w, i = X + a :=
  ⟨(i - X).toNat, by omega, by omega⟩

theorem sourceColour_of_le {c : Byte} (h : c.toNat ≤ 15) : sourceColour c = BitVec.ofNat 4 c.toNat := if_pos h

end Sys2Proof.Machine

namespace Sys2Proof

open Sys2Proof.Machine

theorem fillRect_ends {s : State} {u : Running} {p : PanelId} {x0 y0 : Int} {w h : Nat}
    (hrun : s.engine.running = some u) (ht : u.record.target = some p) (hb : u.record.body = .fillRect x0 y0 w h)
    (hwork : u.work = .rows 0) (hpart : u.part = 0) (hcolour : u.record.colour.toNat ≤ 15)
    (hwide : (s.panel p).config.width ≤ 512) (hwf : (s.panel p).back.pixels.wf = true) :
    EndsPainting s u p (fun i j => if x0 ≤ (i : Int) ∧ (i : Int) < x0 + w ∧ y0 ≤ (j : Int) ∧ (j : Int) < y0 + h then
      some (BitVec.ofNat 4 u.record.colour.toNat) else none) := by
  have hrows : u.record.body.rows = h := by rw [hb]; rfl
  refine endsPainting_rows hrun ht hpart hwork hwide hwf (L := List.range w) List.nodup_range
    (job := fun k i => Panel.plot u.record (sourceColour u.record.colour) (x0 + i) (y0 + k)) (fun k y _ => ?_)
    (pos := fun k i => (x0 + i, y0 + k)) (fun _ _ heq => ?_) (fun i j _ _ hne => ?_)
    fun visible hv k hk pre a post hL y _ => plot_visible hv fun hp => ?_
  · rw [rowJobs, hb]
    exact map_offsets _ _
  · obtain ⟨hx, hy⟩ := Prod.mk.inj heq
    exact ⟨Int.ofNat.inj (Int.add_left_cancel hy), Int.ofNat.inj (Int.add_left_cancel hx)⟩
  · obtain ⟨hx, hx', hy, hy'⟩ := of_not_not fun hc => hne (if_neg hc)
    obtain ⟨b, hb, hi⟩ := span_offset hx hx'
    obtain ⟨k, hk, hj⟩ := span_offset hy hy'
    exact ⟨k, hrows ▸ hk, b, List.mem_range.2 hb, hi, hj⟩
  · obtain ⟨h0, -, h0', -⟩ := Panel.holds_iff.1 hp
    have ha : a < w := List.mem_range.1 (hL ▸ List.mem_append_right _ List.mem_cons_self)
    obtain ⟨hx, hx'⟩ := mem_span (X := x0) ha
    rw [sourceColour_of_le hcolour, Int.toNat_of_nonneg h0, Int.toNat_of_nonneg h0']
    exact if_pos ⟨hx, hx', mem_span (hrows ▸ hk)⟩

/-- Settles O44: with nothing waiting the arbiter rests at the end. -/
theorem fillRectWritesItsPixels : Obligations.FillRectWritesItsPixels := by
  intro s u p x0 y0 w h hrun ht hb hwork hpart _ hcolour hq hib hsus hdrain x hwide hwf r covered src
  obtain ⟨pixels, hx, hpaint⟩ := fillRect_ends hrun ht hb hwork hpart hcolour hwide hwf
  obtain ⟨hwf', hin, hout⟩ := hpaint (fun i j => if u.record.inClip i j then _ else none)
    (fun i j hc => if_pos (Record.inClip_iff.2 hc)) (fun i j hc => if_neg fun k => hc (Record.inClip_iff.1 k))
  refine ⟨pixels, hx.trans (congrArg Host.Outcome.next ?_), hwf', fun i j hc => ?_, fun a ha => ?_⟩
  · refine (runEngine_none (?_ : chooseOnce _ = none)).trans ?_
    · exact chooseOnce_idle rfl hq hsus hib
    exact if_neg fun h => Bool.false_ne_true (hdrain.symm.trans (Bool.and_eq_true_iff.1 h).1)
  · obtain ⟨hi, hj, hx0, hx1, hy0, hy1, hclip⟩ := hc
    refine (hin i j hi hj).trans ?_
    dsimp only
    rw [if_pos (Record.inClip_iff.2 hclip), if_pos ⟨hx0, hx1, hy0, hy1⟩]
    exact (rasterOp_eq _ _ _).symm
  · by_cases hpanel : ∃ i j, (i < x.config.width ∧ j < x.config.height) ∧ a = j * 512 + i
    · obtain ⟨i, j, ⟨hi, hj⟩, rfl⟩ := hpanel
      have hnone : (if u.record.inClip i j then (if x0 ≤ (i : Int) ∧ (i : Int) < x0 + w ∧ y0 ≤ (j : Int) ∧
          (j : Int) < y0 + h then some src else none) else none) = none := by
        split
        · next hclip =>
          exact if_neg fun ⟨h1, h2, h3, h4⟩ => ha i j ⟨hi, hj, h1, h2, h3, h4, Record.inClip_iff.1 hclip⟩ rfl
        · rfl
      exact (hin i j hi hj).trans (by dsimp only; rw [hnone])
    · exact hout a fun i j hi hj heq => hpanel ⟨i, j, ⟨hi, hj⟩, heq⟩

theorem span_last {X Y : Int} {k : Nat} (h : k < (Y - X + 1).toNat) : X + k ≤ Y := by omega

theorem span_offset_last {X Y i : Int} (h : X ≤ i) (h' : i ≤ Y) : ∃ k < (Y - X + 1).toNat, i = X + k :=
  ⟨(i - X).toNat, by omega, by omega⟩

theorem trapezoid_ends {s : State} {u : Running} {p : PanelId} {yTop yBot xl xr sl sr : Int}
    (hrun : s.engine.running = some u) (ht : u.record.target = some p)
    (hb : u.record.body = .trapezoid yTop yBot xl xr sl sr)
    (hwork : u.work = .rows 0) (hpart : u.part = 0) (hcolour : u.record.colour.toNat ≤ 15)
    (hwide : (s.panel p).config.width ≤ 512) (hwf : (s.panel p).back.pixels.wf = true) :
    EndsPainting s u p (fun i j =>
      if yTop ≤ (j : Int) ∧ (j : Int) ≤ yBot ∧ xl + ((j : Int) - yTop) * sl ≤ 256 * i ∧
          256 * (i : Int) ≤ xr + (j - yTop) * sr then
        some (BitVec.ofNat 4 u.record.colour.toNat)
      else none) := by
  have hrows : u.record.body.rows = (yBot - yTop + 1).toNat := by rw [hb]; rfl
  refine endsPainting_rows hrun ht hpart hwork hwide hwf (L := List.range (s.panel p).config.width) List.nodup_range
    (job := fun k i => if xl + k * sl ≤ 256 * (i : Int) ∧ 256 * (i : Int) ≤ xr + k * sr then
      Panel.plot u.record (sourceColour u.record.colour) i (yTop + k) else id) (fun k y hy => ?_)
    (pos := fun k i => (i, yTop + k)) (fun _ _ heq => ?_) (fun i j hi _ hne => ?_) fun visible hv k hk pre a post hL y _ => ?_
  · rw [rowJobs, hb, ← hy]
    exact map_offsets _ _
  · obtain ⟨hx, hy⟩ := Prod.mk.inj heq
    exact ⟨Int.ofNat.inj (Int.add_left_cancel hy), Int.ofNat.inj hx⟩
  · obtain ⟨hy, hy', -⟩ := of_not_not fun hc => hne (if_neg hc)
    obtain ⟨k, hk, hj⟩ := span_offset_last hy hy'
    exact ⟨k, hrows ▸ hk, i, List.mem_range.2 hi, rfl, hj⟩
  · dsimp only
    split
    · next hc =>
      refine plot_visible hv fun hp => ?_
      obtain ⟨-, -, h0', -⟩ := Panel.holds_iff.1 hp
      rw [sourceColour_of_le hcolour, Int.toNat_of_nonneg h0', Int.toNat_natCast, add_sub_cancel_left]
      exact if_pos ⟨(mem_span hk).1, span_last (hrows ▸ hk), hc⟩
    · next hc =>
      refine skip_visible hv fun hp => ?_
      obtain ⟨-, -, h0', -⟩ := Panel.holds_iff.1 hp
      rw [Int.toNat_of_nonneg h0', Int.toNat_natCast, add_sub_cancel_left]
      exact if_neg fun h => hc h.2.2

/-- What stands before an offset of a row in its order. -/
theorem offsets_before {c : Prop} [Decidable c] {w a b : Nat} {pre post : List Nat}
    (h : (if c then (List.range w).reverse else List.range w) = pre ++ a :: post) (hb : b ∈ pre) :
    (c → a < b) ∧ (¬ c → b < a) := by
  constructor
  · intro hc
    rw [if_pos hc] at h
    have hsorted := List.pairwise_reverse.2 (List.pairwise_lt_range (n := w))
    rw [h] at hsorted
    exact (List.pairwise_append.1 hsorted).2.2 b hb a List.mem_cons_self
  · intro hc
    rw [if_neg hc] at h
    have hsorted := List.pairwise_lt_range (n := w)
    rw [h] at hsorted
    exact (List.pairwise_append.1 hsorted).2.2 b hb a List.mem_cons_self

/-- The row of a page copy that comes after `k` rows (R160). -/
def copyRow (sy dy : Int) (h k : Nat) : Nat := if sy < dy then h - 1 - k else k

theorem copyRow_inj {sy dy : Int} {h k m : Nat} (hk : k < h) (hm : m ≤ k) (heq : copyRow sy dy h m = copyRow sy dy h k) :
    m = k := by
  unfold copyRow at heq
  split at heq <;> omega

theorem copyRow_lt {sy dy : Int} {h k : Nat} (hk : k < h) : copyRow sy dy h k < h := by
  unfold copyRow
  split <;> omega

theorem exists_copyRow {sy dy : Int} {h j : Nat} (hj : j < h) : ∃ k < h, copyRow sy dy h k = j := by
  by_cases hc : sy < dy
  · exact ⟨h - 1 - j, by omega, (if_pos hc).trans (by omega)⟩
  · exact ⟨j, hj, if_neg hc⟩

/-- A row done before is not the one read. -/
theorem copyRow_ahead {sy dy : Int} {h k m : Nat} (hk : k < h) (hm : m < k) :
    sy + copyRow sy dy h k ≠ dy + copyRow sy dy h m := by
  unfold copyRow
  split <;> omega

/-- An offset done before in the row is not the one read. -/
theorem offset_ahead {sx dx : Int} {w a b : Nat} {pre post : List Nat}
    (h : (if sx < dx then (List.range w).reverse else List.range w) = pre ++ a :: post) (hb : b ∈ pre) :
    sx + a ≠ dx + b := by
  obtain ⟨hlt, hge⟩ := offsets_before h hb
  omega

/-- Settles O47: the order of the rows and of each row's pixels leaves every source pixel as it was until it is read. -/
theorem pageCopyReadsBeforeItWrites : Obligations.PageCopyReadsBeforeItWrites := by
  intro s u p page sx sy dx dy w h hu _ hb hwork _ x source
  obtain ⟨hrun, ht, hpart, -, hwide, hwf⟩ := hu
  have hrows : u.record.body.rows = h := by rw [hb]; rfl
  have hmem (b : Nat) : b ∈ (if sx < dx then (List.range w).reverse else List.range w) ↔ b < w := by
    split
    · exact List.mem_reverse.trans List.mem_range
    · exact List.mem_range
  refine endsPainting_rows hrun ht hpart hwork hwide hwf (L := if sx < dx then (List.range w).reverse else List.range w)
    (by split; exacts [List.nodup_reverse.2 List.nodup_range, List.nodup_range])
    (job := fun k i y => if y.holds (sx + i) (sy + copyRow sy dy h k) then
      y.plot u.record ((if page = 0 then y.shown else y.back).at' (sx + i) (sy + copyRow sy dy h k)) (dx + i)
        (dy + copyRow sy dy h k) else y) (fun k y _ => ?_)
    (pos := fun k i => (dx + i, dy + copyRow sy dy h k)) (fun hk hm heq => ?_) (fun i j _ _ hne => ?_)
    fun visible hv k hk pre a post hL y hy => ?_
  · rw [rowJobs, hb]
    exact map_offsets _ _
  · obtain ⟨hx, hy⟩ := Prod.mk.inj heq
    exact ⟨copyRow_inj (hrows ▸ hk) hm (Int.ofNat.inj (Int.add_left_cancel hy)), Int.ofNat.inj (Int.add_left_cancel hx)⟩
  · obtain ⟨hx, hx', hy, hy', -⟩ := of_not_not fun hc => hne (if_neg hc)
    obtain ⟨b, hb, hi⟩ := span_offset hx hx'
    obtain ⟨m, hm, hj⟩ := span_offset hy hy'
    obtain ⟨k, hk, rfl⟩ := exists_copyRow (sy := sy) (dy := dy) hm
    exact ⟨k, hrows ▸ hk, b, (hmem b).2 hb, hi, hj⟩
  · have hheld : y.holds (sx + a) (sy + copyRow sy dy h k) = x.holds (sx + a) (sy + copyRow sy dy h k) := by
      rw [Panel.holds, hy.config_eq]
      rfl
    rw [hrows] at hk
    have ha : a < w := (hmem a).1 (hL ▸ List.mem_append_right _ List.mem_cons_self)
    dsimp only
    split
    · next hsrc =>
      rw [hheld] at hsrc
      refine plot_visible hv fun hp => ?_
      obtain ⟨h0, -, h0', -⟩ := Panel.holds_iff.1 hp
      rw [Int.toNat_of_nonneg h0, Int.toNat_of_nonneg h0', add_sub_cancel_left, add_sub_cancel_left,
        if_pos ⟨(mem_span ha).1, (mem_span ha).2, (mem_span (copyRow_lt hk)).1, (mem_span (copyRow_lt hk)).2,
          Panel.holds_iff.1 hsrc⟩]
      by_cases hpage : page = 0
      · rw [if_pos hpage, hy.1]
        exact congrArg (fun m : Store => some (m.get _)) (if_pos hpage)
      · rw [if_neg hpage, hy.at_fresh hsrc]
        · exact congrArg (fun m : Store => some (m.get _)) (if_neg hpage)
        rintro (⟨m, hm, b, -, hat⟩ | ⟨b, hb, hat⟩)
        · exact copyRow_ahead hk hm (congrArg Prod.snd (pixelAt_toNat (p := (sx + a, sy + copyRow sy dy h k))
            (q := (dx + b, dy + copyRow sy dy h m)) hsrc hat)).symm
        · exact offset_ahead hL hb (congrArg Prod.fst (pixelAt_toNat (p := (sx + a, sy + copyRow sy dy h k))
            (q := (dx + b, dy + copyRow sy dy h k)) hsrc hat)).symm
    · next hsrc =>
      refine skip_visible hv fun hp => ?_
      obtain ⟨h0, -, h0', -⟩ := Panel.holds_iff.1 hp
      rw [Int.toNat_of_nonneg h0, Int.toNat_of_nonneg h0', add_sub_cancel_left, add_sub_cancel_left]
      exact if_neg fun hc => hsrc (hheld.trans (Panel.holds_iff.2 hc.2.2.2.2))

end Sys2Proof

end
